-- ==== Sys2Proof/Word.lean ====
section
/-! DEFINITION. The word of the common store and the numberings of lines, senders, order slots and profiles. -/

namespace Sys2Proof

/-- One word of the common store or of a register: 16 bits (R177). -/
abbrev Word := BitVec 16

/-- A tick number: a value of the 16-bit count CLOCK (R2). -/
abbrev Tick := BitVec 16

/-- A line number, 0 to 95 (R4). -/
abbrev LineNo := Fin 96

/-- A sender number, 0 to 11 (R122). -/
abbrev SenderNo := Fin 12

/-- An order slot number, 0 to 15 (R155). -/
abbrev SlotNo := Fin 16

/-- A dial profile number, 0 to 7 (R81). -/
abbrev ProfileNo := Fin 8

end Sys2Proof
end

