-- ==== Sys2Proof/Syntax.lean ====
section
/-! DEFINITION. The commands of the PX96: one constructor per row of spec/opcode_table.json.

A line tick takes the line and the level sampled on its GRP input (true is high). The twelve rows that
name a decision of a line tick take the same two operands. An order row takes the slot that the
sweep under way examines: the order itself stands in the store, where the host wrote it (R158). -/

namespace Sys2Proof

/-- The commands, in the order of the table. -/
inductive Instr where
  /-- PIN_RESET (R181). -/
  | pinReset
  /-- STORE_INITIALISATION_COMPLETE (R181). -/
  | storeInitialisationComplete
  /-- TICK_BOUNDARY (R2). -/
  | tickBoundary
  /-- FRAME_BOUNDARY (R152). -/
  | frameBoundary
  /-- LINE_TICK (R7). -/
  | lineTick (line : LineNo) (high : Bool)
  /-- SEIZURE_COMPLETE (R22). -/
  | seizureComplete (line : LineNo) (high : Bool)
  /-- FIRST_DIGIT_EXPIRY (R26). -/
  | firstDigitExpiry (line : LineNo) (high : Bool)
  /-- LOCKOUT_RETURN (R29). -/
  | lockoutReturn (line : LineNo) (high : Bool)
  /-- CLEAR (R27). -/
  | clear (line : LineNo) (high : Bool)
  /-- PULSE_COUNTED (R47). -/
  | pulseCounted (line : LineNo) (high : Bool)
  /-- TRAIN_END (R53). -/
  | trainEnd (line : LineNo) (high : Bool)
  /-- GATHER_WAIT_EXPIRY (R103). -/
  | gatherWaitExpiry (line : LineNo) (high : Bool)
  /-- RECALL_BREAK_END (R110). -/
  | recallBreakEnd (line : LineNo) (high : Bool)
  /-- RECALL_FINISHED (R110). -/
  | recallFinished (line : LineNo) (high : Bool)
  /-- PAUSE_FINISHED (R111). -/
  | pauseFinished (line : LineNo) (high : Bool)
  /-- TONE_END (R129). -/
  | toneEnd (sender : SenderNo)
  /-- GAP_END (R131). -/
  | gapEnd (sender : SenderNo)
  /-- SENDER_WAIT (R137). -/
  | senderWait (line : LineNo) (high : Bool)
  /-- LEARN_EXPIRY (R74). -/
  | learnExpiry (line : LineNo) (high : Bool)
  /-- SWEEP (R156). -/
  | sweep
  /-- OPEN (R18). -/
  | openLine (slot : SlotNo)
  /-- CLOSE (R33). -/
  | closeLine (slot : SlotNo)
  /-- ADOPT (R83). -/
  | adopt (slot : SlotNo)
  /-- LEARN (R73). -/
  | learn (slot : SlotNo)
  /-- RELEASE (R112). -/
  | release (slot : SlotNo)
  /-- INJECT (R114). -/
  | inject (slot : SlotNo)
  /-- FLUSH (R117). -/
  | flush (slot : SlotNo)
  /-- PEEK (R118). -/
  | peek (slot : SlotNo)
  /-- MARK (R163). -/
  | mark (slot : SlotNo)
  /-- UNKNOWN_KIND (R159). -/
  | unknownKind (slot : SlotNo)
  /-- WITHDRAW (R162). -/
  | withdraw (slot : SlotNo)
  /-- NUDGE (R156): a write of the NUDGE register. -/
  | nudge (value : Word)
  /-- SEND_HOLD_SET (R134): a write of CONTROL. -/
  | sendHoldSet (value : Word)
  /-- SEND_HOLD_CLEAR (R135): a write of CONTROL. -/
  | sendHoldClear (value : Word)
  /-- CONTROL_MASK_WRITE (R180): a write of CONTROL. -/
  | controlMaskWrite (value : Word)
  /-- SOFT_RESET (R182): a write of CONTROL. -/
  | softReset (value : Word)
  /-- STATUS_CLEAR (R179): a write of STATUS. -/
  | statusClear (value : Word)
  /-- REGISTER_WRITE_IGNORED (R179): a host write at an address with A12 high. -/
  | registerWriteIgnored (address : BitVec 13) (value : Word)
  /-- STORE_WRITE (R177): a host write of one store word. -/
  | storeWrite (address : BitVec 12) (value : Word)
  /-- PAGE_CLOSE_AGE (R169). -/
  | pageCloseAge
  deriving DecidableEq, Repr

end Sys2Proof
end

