-- ==== Sys2Proof/Config.lean ====
section
/-! DEFINITION. The values the spec leaves open, as constants without a body. -/

namespace Sys2Proof

/-- FREE VALUE (DESIGN CHOICE, log 9). A first-digit expiry (R26) and a LEARN expiry (R74) may fall in one
line tick, and the spec does not say which is taken first. `learnExpiryFirst line clock` is the
answer for that line at that tick; nothing constrains it. -/
opaque Config.learnExpiryFirst : LineNo → Tick → Bool

end Sys2Proof
end

