-- ==== Sys2Proof/Machine/State.lean ====
section
/-! DEFINITION. The state of the PX96 as plain data, the reasons a step can stop, and the state after reset. -/

namespace Sys2Proof.Machine

/-! ### Scan unit -/

/-- A loop level: CLOSED (make) or OPEN (break). -/
inductive Level where
  | closed
  | opened
  deriving DecidableEq, Repr

/-- The polarity an OPEN order names (R6). -/
inductive Polarity where
  | presentHigh
  | presentLow
  deriving DecidableEq, Repr

/-- An accepted edge: its new level and its stamp (R10). -/
structure Edge where
  level : Level
  stamp : Tick
  deriving DecidableEq, Repr

/-- What the scan unit keeps for a line in service beside the raw sample (R6, R8, R10). -/
structure Scan where
  polarity : Polarity
  /-- The debounced level. -/
  level : Level
  /-- The run count, 0 to 15. -/
  run : Nat
  /-- The candidate stamp, held while the run count is above 0. -/
  candidate : Option Tick
  /-- The stamp of the latest accepted edge, or the tick of the OPEN (R12). -/
  edgeStamp : Tick
  deriving DecidableEq, Repr

/-! ### Line supervisor -/

/-- The five line states (R17). -/
inductive LineMode where
  | out
  | idle
  | seizing
  | active
  | lockout
  deriving DecidableEq, Repr

/-- The sending disciplines (R82). -/
inductive Discipline where
  | immediate
  | gather
  | held
  deriving DecidableEq, Repr

/-- The classes of the sender pool (R82). -/
inductive SenderClass where
  | a
  | b
  deriving DecidableEq, Repr

/-- The call context (R23). -/
structure CallContext where
  discipline : Discipline
  gatherN : Nat
  gatherWait : Nat
  cls : SenderClass
  reportSent : Bool
  flashOut : Nat
  recallGuard : Nat
  senderWait : Nat
  generation : Nat
  deriving DecidableEq, Repr

/-- A running timer: the line ticks counted and the count at which it expires (R25, R74, R103). -/
structure Timer where
  count : Nat
  limit : Nat
  deriving DecidableEq, Repr

/-- A running seizure: the seize start and the seize_time read with it (R20). -/
structure Seizure where
  start : Tick
  seizeTime : Nat
  deriving DecidableEq, Repr

/-! ### Pulse decoder -/

/-- The decoder's sub-states QUIET, BREAK and MAKE (R37). -/
inductive SubState where
  | quiet
  | inBreak
  | inMake
  deriving DecidableEq, Repr

/-- The digit maps (R54). -/
inductive DigitMap where
  | direct
  | offset
  | inverse
  deriving DecidableEq, Repr

/-- The train context (R39). -/
structure TrainContext where
  breakMin : Nat
  breakMax : Nat
  makeMin : Nat
  flashMax : Nat
  map : DigitMap
  tId : Nat
  pLo16 : Nat
  pHi16 : Nat
  deriving DecidableEq, Repr

/-- The pulse decoder's items (R37). -/
structure Decoder where
  sub : SubState
  ctx : Option TrainContext
  breakStart : Option Tick
  makeStart : Option Tick
  /-- Set in MAKE while the pulse is not yet counted. -/
  pulsePending : Bool
  pulses : Nat
  countedBreakStart : Option Tick
  candidateMake : Option Nat
  /-- The period tally: the number of full periods, their sum, and the sum of their makes. -/
  periods : Nat
  periodSum : Nat
  makeSum : Nat
  hits : Bool
  deriving DecidableEq, Repr

/-- A decoder in QUIET with no train, as it starts and as a line without a running decoder shows it (R37). -/
def Decoder.atRest : Decoder :=
  { sub := .quiet, ctx := none, breakStart := none, makeStart := none, pulsePending := false,
    pulses := 0, countedBreakStart := none, candidateMake := none, periods := 0, periodSum := 0,
    makeSum := 0, hits := false }

/-! ### Speed estimator -/

/-- The modes a profile can name (R82). -/
inductive SpeedMode where
  | fixed
  | tracking
  deriving DecidableEq, Repr

/-- The speed source (R62). -/
inductive SpeedSource where
  | profile
  | learned
  deriving DecidableEq, Repr

/-- The working mode (R62). -/
inductive WorkingMode where
  | fixed
  | tracking
  | learned
  deriving DecidableEq, Repr

/-- A pending LEARN: its slot, its timer and the passed-over count (R62, R73). -/
structure Learn where
  slot : SlotNo
  timer : Timer
  passedOver : Nat
  deriving DecidableEq, Repr

/-- The speed estimator of a line in service (R62). `learn` is present while learn-pending is set. -/
structure Estimator where
  p16 : Nat
  source : SpeedSource
  mode : WorkingMode
  learnMark : Bool
  learn : Option Learn
  deriving DecidableEq, Repr

/-! ### Queue unit -/

/-- The origin of an entry (R98). -/
inductive Origin where
  | dialled
  | ordered
  deriving DecidableEq, Repr

/-- The kind of an entry, with its code or its length in ms (R98). -/
inductive EntryKind where
  | tone (code : Nat)
  | recall
  | pause (ms : Nat)
  deriving DecidableEq, Repr

/-- An entry of the held queue (R98). `owner` is the slot of the owning INJECT. -/
structure Entry where
  kind : EntryKind
  origin : Origin
  owner : Option SlotNo
  deriving DecidableEq, Repr

/-- The entry in flight. `owned` says that its finish counts for the order record now held: an entry
whose RELEASE or INJECT was withdrawn or flushed no longer does (R116, R117; log 19). -/
structure Flight where
  entry : Entry
  owned : Bool
  deriving DecidableEq, Repr

/-- The execution state, with the start tick of the present step (R97). -/
inductive Execution where
  | none
  | recallBreak (start : Tick)
  | recallGuard (start : Tick)
  | pause (start : Tick)
  deriving DecidableEq, Repr

/-- The order record of the line's ACCEPTED RELEASE or INJECT (R97). -/
inductive OrderRecord where
  | release (slot : SlotNo) (sent : Nat) (lastCredit : Bool)
  | inject (slot : SlotNo) (sent : Nat) (remaining : Nat)
  deriving DecidableEq, Repr

/-- The queue unit (R97). -/
structure QueueUnit where
  /-- The held queue, head first. -/
  entries : List Entry
  flight : Option Flight
  execution : Execution
  waiting : Bool
  gatherCount : Nat
  satisfied : Bool
  gatherTimer : Option Timer
  credit : Nat
  order : Option OrderRecord
  deriving DecidableEq, Repr

/-- The queue unit of a line that is not ACTIVE (R97). -/
def QueueUnit.empty : QueueUnit :=
  { entries := [], flight := Option.none, execution := .none, waiting := false, gatherCount := 0,
    satisfied := false, gatherTimer := Option.none, credit := 0, order := Option.none }

/-! ### The line -/

/-- Everything the part holds for one line. -/
structure Line where
  /-- The raw sample, true for high (R5). -/
  raw : Bool
  /-- The scan unit's items of a line in service, absent in OUT (R11). -/
  scan : Option Scan
  hold : Bool
  mute : Bool
  mode : LineMode
  profile : Option ProfileNo
  seizure : Option Seizure
  call : Option CallContext
  overflowReported : Bool
  dialSpeedReported : Bool
  hitCount : Nat
  digits : Nat
  firstDigit : Option Timer
  decoder : Decoder
  estimator : Option Estimator
  queue : QueueUnit
  deriving DecidableEq, Repr

/-- A line OUT, holding nothing but its raw sample (R11, R14, R33, R36). -/
def Line.outOfService (raw : Bool) : Line :=
  { raw := raw, scan := none, hold := false, mute := false, mode := .out, profile := none,
    seizure := none, call := none, overflowReported := false, dialSpeedReported := false,
    hitCount := 0, digits := 0, firstDigit := none, decoder := .atRest, estimator := none,
    queue := .empty }

/-! ### Profile unit -/

/-- An adopted set: the 23 raw values, the three derived speeds and the generation (R81, R82). -/
structure AdoptedSet where
  mode : SpeedMode
  map : DigitMap
  discipline : Discipline
  cls : SenderClass
  reportSent : Bool
  /-- The debounce count D. -/
  debounce : Nat
  gatherN : Nat
  gatherWait : Nat
  seizeTime : Nat
  breakMin : Nat
  breakMax : Nat
  makeMin : Nat
  flashMax : Nat
  nominal : Nat
  bandLow : Nat
  bandHigh : Nat
  /-- The gap factor G, in eighths. -/
  gapFactor : Nat
  gapMin : Nat
  gapMax : Nat
  firstDigitWait : Nat
  senderWait : Nat
  flashOut : Nat
  recallGuard : Nat
  pNom16 : Nat
  pLo16 : Nat
  pHi16 : Nat
  generation : Nat
  deriving DecidableEq, Repr

/-- What the profile unit holds for one profile (R81). -/
structure Profile where
  adopted : Option AdoptedSet
  generation : Nat
  deriving DecidableEq, Repr

/-! ### Sender pool and synthesiser -/

/-- TONE or GAP, the states of a bound sender (R122). -/
inductive SendPhase where
  | tone
  | gap
  deriving DecidableEq, Repr

/-- The clamped tone values of a binding and their phase increments (R122, R144, R146). -/
structure ToneValues where
  low : Nat
  high : Nat
  onMs : Nat
  offMs : Nat
  levelLow : Nat
  levelHigh : Nat
  incLow : BitVec 16
  incHigh : BitVec 16
  deriving DecidableEq, Repr

/-- A bound sender (R122). `started` says that the frame in progress is one of the frames of its present
TONE or GAP: a binding made between boundaries begins with the next frame (R128; log 14). -/
structure Binding where
  phase : SendPhase
  line : LineNo
  code : Nat
  origin : Origin
  tone : ToneValues
  accLow : BitVec 16
  accHigh : BitVec 16
  countdown : Nat
  started : Bool
  deriving DecidableEq, Repr

/-- A request in the wait list (R123). -/
structure Request where
  line : LineNo
  cls : SenderClass
  senderWait : Nat
  waitCount : Nat
  expired : Bool
  age : Nat
  deriving DecidableEq, Repr

/-! ### Order unit -/

/-- The kinds an order in the acceptance list can have (R159). -/
inductive HeldKind where
  | learn
  | release
  | inject
  | mark
  deriving DecidableEq, Repr

/-- The order unit's copy of a slot's kind-and-line word and parameter words (R158). -/
structure OrderCopy where
  kindLine : Word
  p0 : Word
  p1 : Word
  p2 : Word
  p3 : Word
  p4 : Word
  deriving DecidableEq, Repr

/-- An order of the acceptance list (R155). `line` is absent for a MARK. -/
structure HeldOrder where
  slot : SlotNo
  kind : HeldKind
  line : Option LineNo
  copy : OrderCopy
  ahead : Nat
  deriving DecidableEq, Repr

/-- The order unit (R155, R156). `sweepAt` is the next slot of the sweep under way, and `sweepHeld`
the held request. -/
structure OrderBoard where
  accepted : List HeldOrder
  sweepAt : Option Nat
  sweepHeld : Bool
  deriving DecidableEq, Repr

/-! ### Capture unit -/

/-- What is held of a filling page (R167): the page itself is `Capture.nextPage`. -/
structure Filling where
  position : Nat
  count : Nat
  age : Nat
  deriving DecidableEq, Repr

/-- The capture unit (R167). -/
structure Capture where
  filling : Option Filling
  nextPage : Fin 24
  sequence : Nat
  loss : Nat
  deriving DecidableEq, Repr

/-! ### Registers, time base and scan bus -/

/-- The four STATUS causes, or the four masks of CONTROL (R179). -/
structure Causes where
  page : Bool
  fault : Bool
  mark : Bool
  order : Bool
  deriving DecidableEq, Repr

/-- CONTROL: SEND-HOLD and the masks (R179). -/
structure Control where
  sendHold : Bool
  mask : Causes
  deriving DecidableEq, Repr

/-- The time base (R1, R2). The last three fields are the model's own: how much of the frame boundary
now falling has been taken (log 6). -/
structure TimeBase where
  clock : Tick
  frameIndex : Fin 8
  /-- Part of the boundary that ends the frame in progress has been taken. -/
  begun : Bool
  /-- The tick part of that boundary has been taken. -/
  tickTaken : Bool
  /-- The page age has risen at that boundary and the test of R169 is still to be made. -/
  ageDue : Bool
  deriving DecidableEq, Repr

/-- The scan bus (R3). `sampled`, `strobedHold` and `strobedMute` are the model's own (logs 13, 14). -/
structure ScanBus where
  /-- HLD0 to HLD11, taken at the start of the phase in progress. -/
  hldOut : Vector Bool 12
  /-- MUT0 to MUT11, taken at the start of the phase in progress. -/
  mutOut : Vector Bool 12
  /-- The groups whose line has been sampled in the phase in progress. -/
  sampled : Vector Bool 12
  /-- The HOLD levels that STB has handed to the shelf, by line. -/
  strobedHold : Vector Bool 96
  /-- The MUTE levels that STB has handed to the shelf, by line. -/
  strobedMute : Vector Bool 96
  deriving DecidableEq, Repr

/-! ### The machine -/

/-- No command stops the block with a fault: the spec gives none (INVENTORY, Faults). A fault of the spec
is a report in a fault slot (R174). -/
inductive Fault where
  deriving DecidableEq, Repr

/-- The reasons a command has no meaning. -/
inductive Refusal where
  /-- Raised by `exec` for a row that is not modelled yet; safe. No row is refused. -/
  | notModelled (mnemonic : String)
  deriving DecidableEq, Repr

/-- The state of the part and the queue of waiting commands. -/
structure State where
  /-- The commands that are waiting, first in first out (log 1). -/
  pending : List Instr
  /-- STATUS.READY: false while store initialisation runs (R180, R181). -/
  ready : Bool
  timeBase : TimeBase
  scanBus : ScanBus
  lines : Vector Line 96
  profiles : Vector Profile 8
  senders : Vector (Option Binding) 12
  waitList : List Request
  /-- The content of the frame in progress, by slot (R152). -/
  highway : Vector (BitVec 16) 128
  board : OrderBoard
  capture : Capture
  control : Control
  causes : Causes
  /-- The common store: the words that are not 0, addresses strictly rising (R177, R181). -/
  store : List (Nat × Word)
  deriving DecidableEq, Repr

/-! ### Reset -/

/-- The default frequencies of the tone plan, low and high, for codes 0 to 15 (R145). -/
def defaultTones : List (Nat × Nat) :=
  [(941, 1336), (697, 1209), (697, 1336), (697, 1477), (770, 1209), (770, 1336), (770, 1477),
   (852, 1209), (852, 1336), (852, 1477), (941, 1209), (941, 1477), (697, 1633), (770, 1633),
   (852, 1633), (941, 1633)]

/-- The store words that store initialisation leaves different from 0 (R181): the signature, the layout
version, the sender status words and the tone plan defaults (R138, R145). -/
def initialStore : List (Nat × Word) :=
  [(0x000, 0x5058#16), (0x001, 0x0001#16)] ++
  (List.range 12).map (fun k => (0x008 + k, 0xFFFF#16)) ++
  defaultTones.zipIdx.flatMap fun ((low, high), c) =>
    [(0x1C0 + 8 * c, BitVec.ofNat 16 low), (0x1C1 + 8 * c, BitVec.ofNat 16 high),
     (0x1C2 + 8 * c, 70#16), (0x1C3 + 8 * c, 70#16), (0x1C4 + 8 * c, 1800#16),
     (0x1C5 + 8 * c, 2300#16)]

/-- No cause set, or no cause masked. -/
def Causes.clear : Causes := { page := false, fault := false, mark := false, order := false }

/-- The part at the completion of store initialisation (R181; log 2). -/
def State.reset : State :=
  { pending := []
    ready := true
    timeBase :=
      { clock := 0, frameIndex := 0, begun := false, tickTaken := false, ageDue := false }
    scanBus :=
      { hldOut := Vector.replicate 12 false, mutOut := Vector.replicate 12 false,
        sampled := Vector.replicate 12 false, strobedHold := Vector.replicate 96 false,
        strobedMute := Vector.replicate 96 false }
    lines := Vector.replicate 96 (Line.outOfService false)
    profiles := Vector.replicate 8 { adopted := none, generation := 0 }
    senders := Vector.replicate 12 none
    waitList := []
    highway := Vector.replicate 128 0
    board := { accepted := [], sweepAt := none, sweepHeld := false }
    capture := { filling := none, nextPage := 0, sequence := 1, loss := 0 }
    control := { sendHold := false, mask := .clear }
    causes := .clear
    store := initialStore }

end Sys2Proof.Machine
end

