-- ==== Sys2Proof/Machine/Ops.lean ====
section
/-! DEFINITION. The named operations over the common store and over the fields of the state, the addresses of
the store's regions, and the differences of tick numbers. -/

namespace Sys2Proof.Machine

/-! ### The common store -/

/-- What a word that no entry lists reads as: 0, as store initialisation leaves it (R181). -/
def unlistedWord : Word := 0

/-- The number of words of the store (R177): its addresses have 12 bits. -/
def storeSize : Nat := 4096

/-- One word of the store. -/
def readWord : List (Nat × Word) → Nat → Word
  | [], _ => unlistedWord
  | (b, w) :: rest, a => if a = b then w else readWord rest a

/-- Puts an entry at its place; an entry equal to an unlisted word is left out. -/
def putEntry (a : Nat) (v : Word) (rest : List (Nat × Word)) : List (Nat × Word) :=
  if v = unlistedWord then rest else (a, v) :: rest

/-- Writes one word into a list of entries. -/
def insertWord : List (Nat × Word) → Nat → Word → List (Nat × Word)
  | [], a, v => putEntry a v []
  | (b, w) :: rest, a, v =>
    if a < b then putEntry a v ((b, w) :: rest)
    else if a = b then putEntry a v rest
    else (b, w) :: insertWord rest a v

/-- Writes one word of the store. There is no word beyond the store's 4096, so such a write has no effect
(log 15). -/
def writeWord (m : List (Nat × Word)) (a : Nat) (v : Word) : List (Nat × Word) :=
  if a < storeSize then insertWord m a v else m

/-- Writes several words, in order. -/
def writeWords (m : List (Nat × Word)) (l : List (Nat × Word)) : List (Nat × Word) :=
  l.foldl (fun m p => writeWord m p.1 p.2) m

/-- The entries stand at rising addresses from `low` on, inside the store, and none is an unlisted word. -/
def entriesWf : Nat → List (Nat × Word) → Bool
  | _, [] => true
  | low, (a, v) :: rest =>
    decide (low ≤ a) && decide (a < storeSize) && decide (v ≠ unlistedWord) && entriesWf (a + 1) rest

/-- The canonical form of the store: equal stores are equal lists. -/
def storeWf (m : List (Nat × Word)) : Bool := entriesWf 0 m

/-! ### Fields of the state -/

/-- One line of the part. -/
def State.line (s : State) (n : LineNo) : Line := s.lines[n]

/-- The state with one line replaced. -/
def State.setLine (s : State) (n : LineNo) (l : Line) : State :=
  { s with lines := s.lines.set n l }

/-- The state with one line changed by a function. -/
def State.modLine (s : State) (n : LineNo) (f : Line → Line) : State := s.setLine n (f (s.line n))

/-- One sender: absent when FREE. -/
def State.sender (s : State) (k : SenderNo) : Option Binding := s.senders[k]

/-- The state with one sender replaced. -/
def State.setSender (s : State) (k : SenderNo) (b : Option Binding) : State :=
  { s with senders := s.senders.set k b }

/-- One profile. -/
def State.profile (s : State) (p : ProfileNo) : Profile := s.profiles[p]

/-- The state with one profile replaced. -/
def State.setProfile (s : State) (p : ProfileNo) (x : Profile) : State :=
  { s with profiles := s.profiles.set p x }

/-- The state with the wait list replaced. -/
def State.setWaitList (s : State) (l : List Request) : State := { s with waitList := l }

/-- The state with the acceptance list replaced. -/
def State.setAccepted (s : State) (l : List HeldOrder) : State :=
  { s with board := { s.board with accepted := l } }

/-- The state with the sweep replaced. -/
def State.setSweep (s : State) (at? : Option Nat) (held : Bool) : State :=
  { s with board := { s.board with sweepAt := at?, sweepHeld := held } }

/-- The state with the capture unit replaced. -/
def State.setCapture (s : State) (c : Capture) : State := { s with capture := c }

/-- The state with the STATUS causes replaced. -/
def State.setCauses (s : State) (c : Causes) : State := { s with causes := c }

/-- The state with CONTROL replaced. -/
def State.setControl (s : State) (c : Control) : State := { s with control := c }

/-- The state with the time base replaced. -/
def State.setTimeBase (s : State) (t : TimeBase) : State := { s with timeBase := t }

/-- The state with the scan bus replaced. -/
def State.setScanBus (s : State) (b : ScanBus) : State := { s with scanBus := b }

/-- The state with the highway frame replaced. -/
def State.setHighway (s : State) (h : Vector (BitVec 16) 128) : State := { s with highway := h }

/-- The state with the store replaced. -/
def State.setStore (s : State) (m : List (Nat × Word)) : State := { s with store := m }

/-- The number of the current tick (R2). -/
def State.clock (s : State) : Tick := s.timeBase.clock

/-- CONTROL.SEND-HOLD. -/
def State.sendHold (s : State) : Bool := s.control.sendHold

/-- One store word. -/
def State.peek (s : State) (a : Nat) : Word := readWord s.store a

/-- One store word written. -/
def State.poke (s : State) (a : Nat) (v : Word) : State := s.setStore (writeWord s.store a v)

/-- Several store words written, in order. -/
def State.pokes (s : State) (l : List (Nat × Word)) : State := s.setStore (writeWords s.store l)

/-- A number as a store word. -/
def asWord (n : Nat) : Word := BitVec.ofNat 16 n

/-! ### Addresses (R172, R177, R183) -/

/-- CLOSE-AGE. -/
def closeAgeAddress : Nat := 0x002
/-- FILL-PAGE. -/
def fillPageAddress : Nat := 0x003
/-- LAST-SEQ. -/
def lastSeqAddress : Nat := 0x004
/-- FAULT-OVERFLOW. -/
def faultOverflowAddress : Nat := 0x005
/-- GAP-PENDING. -/
def gapPendingAddress : Nat := 0x006
/-- The status word of a sender. -/
def senderStatusAddress (k : Nat) : Nat := 0x008 + k
/-- WAIT-COUNT. -/
def waitCountAddress : Nat := 0x014
/-- The first word of an order slot. -/
def slotAddress (k : SlotNo) : Nat := 0x020 + 8 * k.val
/-- The first word of a fault slot. -/
def faultSlotAddress (k : Nat) : Nat := 0x0A0 + 4 * k
/-- The first word of a profile record. -/
def profileAddress (p : ProfileNo) : Nat := 0x0C0 + 32 * p.val
/-- The first word of a tone plan entry. -/
def toneAddress (code : Nat) : Nat := 0x1C0 + 8 * code
/-- The first word of the host area. -/
def hostAreaFirst : Nat := 0x240
/-- The last word of the host area. -/
def hostAreaLast : Nat := 0x3FF
/-- The first word of a line image. -/
def imageAddress (n : LineNo) : Nat := 0x400 + 16 * n.val
/-- The first word of a capture page. -/
def pageAddress (p : Fin 24) : Nat := 0xA00 + 64 * p.val

/-! ### Arithmetic of the rules -/

/-- The ticks from stamp `s` to tick `t`, modulo 65536 (R2). -/
def since (t s : Tick) : Nat := (t - s).toNat

/-- A value clamped to a range (00, Conventions). -/
def clamp (low high v : Nat) : Nat := if v < low then low else if high < v then high else v

/-- A count raised by one that stops at its maximum (00, Conventions). -/
def saturate (top v : Nat) : Nat := if v < top then v + 1 else top

/-- The adopted set that a line works from (R81, R91). A line in service always has one in force (R18). -/
def State.setInForce (s : State) (n : LineNo) : Option AdoptedSet :=
  (s.line n).profile.bind fun p => (s.profile p).adopted

/-! ### Events -/

/-- The outcome of a command that takes place only when `due`: an event that is not due does not occur, and
the state stands (log 3). -/
def occurs (due : Bool) (after before : State) : Host.Outcome State Fault Refusal :=
  .next (if due then after else before)

end Sys2Proof.Machine
end

