-- ==== Sys2Proof/Machine/Operands.lean ====
section
/-! DEFINITION. The operands of orders as they stand in the words of a slot, the result word, and the layouts
of records and PEEK words (R166, R183). -/

namespace Sys2Proof.Machine

/-! ### Orders -/

/-- The state of a slot, by its value (09, introduction). -/
def slotEmpty : Word := 0
/-- POSTED. -/
def slotPosted : Word := 1
/-- ACCEPTED. -/
def slotAccepted : Word := 2
/-- DONE. -/
def slotDone : Word := 3
/-- REFUSED. -/
def slotRefused : Word := 4
/-- WITHDRAW. -/
def slotWithdraw : Word := 5

/-- The result codes (R166). -/
inductive ResultCode where
  | ok
  | lineRange
  | lineBusy
  | lineState
  | profileNotInForce
  | fieldRange
  | relation
  | unknownKind
  | noRoom
  | badTarget
  | discipline
  | cancelled
  | callEnded
  | reset
  | notLearned
  | badParameter
  deriving DecidableEq, Repr

/-- The value of a result code (R166). -/
def resultValue : ResultCode → Nat
  | .ok => 0
  | .lineRange => 1
  | .lineBusy => 2
  | .lineState => 3
  | .profileNotInForce => 4
  | .fieldRange => 5
  | .relation => 6
  | .unknownKind => 7
  | .noRoom => 8
  | .badTarget => 9
  | .discipline => 10
  | .cancelled => 11
  | .callEnded => 12
  | .reset => 13
  | .notLearned => 14
  | .badParameter => 15

/-- A result word: bits 12 to 15 the code, bits 0 to 11 the detail (R183). -/
def resultWord (code : ResultCode) (detail : Nat) : Word :=
  asWord (resultValue code * 4096 + detail % 4096)

/-- The state word of a slot. -/
def State.slotState (s : State) (k : SlotNo) : Word := s.peek (slotAddress k)

/-- The copy of a slot that the order unit takes at its examination, in one step (R158; DESIGN CHOICE, log 24). -/
def State.orderCopy (s : State) (k : SlotNo) : OrderCopy :=
  let at' := slotAddress k
  { kindLine := s.peek (at' + 1), p0 := s.peek (at' + 2), p1 := s.peek (at' + 3),
    p2 := s.peek (at' + 4), p3 := s.peek (at' + 5), p4 := s.peek (at' + 6) }

/-- The kind field: bits 8 to 15 of the kind-and-line word (R183). -/
def OrderCopy.kind (c : OrderCopy) : Nat := c.kindLine.toNat / 256

/-- The line or profile field: bits 0 to 7 of the kind-and-line word (R183). -/
def OrderCopy.lineField (c : OrderCopy) : Nat := c.kindLine.toNat % 256

/-- The line a per-line order names, if it is 0 to 95 (R159). -/
def OrderCopy.line? (c : OrderCopy) : Option LineNo :=
  if h : c.lineField < 96 then some ⟨c.lineField, h⟩ else none

/-- The profile an ADOPT names, if it is 0 to 7 (R159). -/
def OrderCopy.profile? (c : OrderCopy) : Option ProfileNo :=
  if h : c.lineField < 8 then some ⟨c.lineField, h⟩ else none

/-- The profile an OPEN's parameter names, if it is 0 to 7 (R18, R183). -/
def OrderCopy.openProfile? (c : OrderCopy) : Option ProfileNo :=
  if h : c.p0.toNat < 8 then some ⟨c.p0.toNat, h⟩ else none

/-- The polarity an OPEN's parameter names: 0 present reads high, 1 present reads low (R183). -/
def OrderCopy.polarity? (c : OrderCopy) : Option Polarity :=
  if c.p1 = 0 then some .presentHigh else if c.p1 = 1 then some .presentLow else none

/-- The count of an INJECT: bits 0 to 7 of p0 (R183). -/
def OrderCopy.injectCount (c : OrderCopy) : Nat := c.p0.toNat % 256

/-- The pause length of an INJECT: bits 8 to 15 of p0, in units of 10 ms, clamped to 100 to 2000 ms
(R114, R183). -/
def OrderCopy.injectPause (c : OrderCopy) : Nat := clamp 100 2000 (c.p0.toNat / 256 * 10)

/-- The three codes of an INJECT code word, 5 bits each from bit 0 (R183). -/
def codesOfWord (w : Word) : List Nat :=
  [w.toNat % 32, w.toNat / 32 % 32, w.toNat / 1024 % 32]

/-- The codes of an INJECT, as many as its count (R114): codes beyond the count are not read. -/
def OrderCopy.injectCodes (c : OrderCopy) : List Nat :=
  ([c.p1, c.p2, c.p3, c.p4].flatMap codesOfWord).take c.injectCount

/-- The position, from 1, of the first code that is not 0 to 17 (R114). -/
def badCodePosition (codes : List Nat) : Option Nat :=
  (codes.findIdx? fun c => decide (17 < c)).map (· + 1)

/-- The entry an INJECT makes of a code: a TONE for 0 to 15, a PAUSE for 16, a RECALL for 17 (R114). -/
def injectEntry (slot : SlotNo) (pauseMs code : Nat) : Entry :=
  { kind := if code = 16 then .pause pauseMs else if code = 17 then .recall else .tone code
    origin := .ordered
    owner := some slot }

/-- A target that lies in the host area with `extra` words after it (R118, R163). -/
def inHostArea (target : Word) (extra : Nat) : Bool :=
  decide (hostAreaFirst ≤ target.toNat) && decide (target.toNat + extra ≤ hostAreaLast)

/-! ### Entry words of PEEK -/

/-- The kind of an entry in a PEEK word (R183). -/
def entryKindValue : EntryKind → Nat
  | .tone _ => 0
  | .recall => 1
  | .pause _ => 2

/-- The code of a TONE or the length of a PAUSE in a PEEK word, 0 for a RECALL (R183). -/
def entryKindBody : EntryKind → Nat
  | .tone code => code
  | .recall => 0
  | .pause ms => ms

/-- The origin of an entry as a bit: 0 DIALLED, 1 ORDERED (R183). -/
def originBit : Origin → Nat
  | .dialled => 0
  | .ordered => 1

/-- A PEEK entry word (R183). -/
def peekWord (inFlight : Bool) (e : Entry) : Word :=
  asWord (entryKindValue e.kind * 16384 + originBit e.origin * 8192 + inFlight.toNat * 4096
    + entryKindBody e.kind % 4096)

/-! ### Records -/

/-- The kinds of capture records (R168). -/
inductive RecordKind where
  | seize
  | digit
  | mutilated
  | flash
  | clear
  | sent
  | lockout
  | gap
  deriving DecidableEq, Repr

/-- The value of a record kind (R168). -/
def recordValue : RecordKind → Nat
  | .seize => 1
  | .digit => 2
  | .mutilated => 3
  | .flash => 4
  | .clear => 5
  | .sent => 6
  | .lockout => 7
  | .gap => 8

/-- The words of a record: the header (kind, length, line), the time and the body (R168, R183). -/
def recordWords (kind : RecordKind) (line : Nat) (time : Tick) (body : List Word) : List Word :=
  asWord (recordValue kind * 4096 + (body.length + 2) * 256 + line % 128) :: time :: body

/-- The class of a call as a bit: 0 A, 1 B (R183). -/
def classBit : SenderClass → Nat
  | .a => 0
  | .b => 1

/-- The body of a SEIZE record. -/
def seizeBody (cls : SenderClass) (generation : Nat) : List Word :=
  [asWord (classBit cls * 256 + generation % 256)]

/-- The body of a DIGIT record: the long form when the train has statistics (R55). -/
def digitBody (code count : Nat) (offBand hits lost : Bool) (p16 : Nat)
    (stats : Option (Nat × Nat)) : List Word :=
  asWord (code % 16 + count % 16 * 16 + offBand.toNat * 256 + hits.toNat * 512 + lost.toNat * 1024)
    :: asWord p16
    :: (match stats with
        | some (mean, makePercent) => [asWord mean, asWord makePercent]
        | none => [])

/-- The reasons of a MUTILATED record (R183). -/
inductive MutilatedReason where
  | longBreak
  | tooMany
  deriving DecidableEq, Repr

/-- The body of a MUTILATED record. -/
def mutilatedBody (reason : MutilatedReason) (count : Nat) : List Word :=
  [asWord ((match reason with | .longBreak => 1 | .tooMany => 2) * 256 + count % 256)]

/-- The body of a FLASH record. -/
def flashBody (breakMs : Nat) (lost : Bool) : List Word :=
  [asWord (breakMs % 2048 + lost.toNat * 32768)]

/-- The body of a CLEAR record. -/
def clearBody (discarded : Nat) (trainDiscarded : Bool) (digits : Nat) : List Word :=
  [asWord (discarded % 32 + trainDiscarded.toNat * 256), asWord digits]

/-- The body of a SENT record. -/
def sentBody (code : Nat) (origin : Origin) (sender : Nat) : List Word :=
  [asWord (code % 16 + originBit origin * 16 + sender % 16 * 256)]

/-- The causes of a LOCKOUT record (R183). -/
inductive LockoutCause where
  | firstDigit
  | openedClosed
  deriving DecidableEq, Repr

/-- The body of a LOCKOUT record. -/
def lockoutBody : LockoutCause → List Word
  | .firstDigit => [1]
  | .openedClosed => [2]

/-- The kinds of faults (R174). -/
inductive FaultKind where
  | permanentLoop
  | queueOverflow
  | senderWait
  | dialSpeed
  deriving DecidableEq, Repr

/-- The value of a fault kind (R174). -/
def faultValue : FaultKind → Word
  | .permanentLoop => 1
  | .queueOverflow => 2
  | .senderWait => 3
  | .dialSpeed => 4

/-- The code of an entry in a QUEUE-OVERFLOW fault: the digit, or 17 for a RECALL (R44, R100). -/
def lostCode : EntryKind → Nat
  | .tone code => code
  | .recall => 17
  | .pause _ => 16

end Sys2Proof.Machine
end

