-- ==== Sys2Proof/Machine/Flags.lean ====
section
/-! DEFINITION. Everything the part computes as a flag or a shown field: the STATUS causes and ATTN, the register
words, MUTE, the words of a line image, and the writing of what an event has changed. -/

namespace Sys2Proof.Machine

/-! ### STATUS causes and ATTN -/

/-- Sets STATUS.PAGE (R176). -/
def State.raisePage (s : State) : State := s.setCauses { s.causes with page := true }

/-- Sets STATUS.FAULT (R176). -/
def State.raiseFault (s : State) : State := s.setCauses { s.causes with fault := true }

/-- Sets STATUS.MARK (R166). -/
def State.raiseMark (s : State) : State := s.setCauses { s.causes with mark := true }

/-- Sets STATUS.ORDER (R166). -/
def State.raiseOrder (s : State) : State := s.setCauses { s.causes with order := true }

/-- ATTN: at least one cause is set and not masked (R180). It is released while store initialisation runs
(R181). -/
def State.attn (s : State) : Bool :=
  s.ready &&
    ((s.causes.page && !s.control.mask.page) || (s.causes.fault && !s.control.mask.fault) ||
     (s.causes.mark && !s.control.mask.mark) || (s.causes.order && !s.control.mask.order))

/-- The four causes or masks at their bits 1 to 4 (R179). -/
def causeBits (c : Causes) : Nat :=
  c.page.toNat * 2 + c.fault.toNat * 4 + c.mark.toNat * 8 + c.order.toNat * 16

/-- What a read of STATUS gives (R179). -/
def State.statusWord (s : State) : Word := asWord (causeBits s.causes + s.ready.toNat * 32768)

/-- What a read of CONTROL gives (R179). -/
def State.controlWord (s : State) : Word :=
  asWord (s.control.sendHold.toNat + causeBits s.control.mask)

/-- The causes or masks a register word names in bits 1 to 4 (R179). -/
def causesOf (v : Word) : Causes :=
  { page := v.getLsbD 1, fault := v.getLsbD 2, mark := v.getLsbD 3, order := v.getLsbD 4 }

/-- The causes that a STATUS write leaves (R179). -/
def causesCleared (c : Causes) (v : Word) : Causes :=
  { page := c.page && !v.getLsbD 1, fault := c.fault && !v.getLsbD 2,
    mark := c.mark && !v.getLsbD 3, order := c.order && !v.getLsbD 4 }

/-! ### MUTE -/

/-- A sender is bound to the line. -/
def boundTo (n : LineNo) (b : Option Binding) : Bool :=
  match b with
  | some b => b.line == n
  | none => false

/-- The sender bound to a line (R122). -/
def State.boundSender (s : State) (n : LineNo) : Option SenderNo :=
  (List.finRange 12).find? fun k => boundTo n (s.sender k)

/-- A RECALL execution is in progress, in its break or its guard (R32). -/
def recallRunning : Execution → Bool
  | .recallBreak _ | .recallGuard _ => true
  | .none | .pause _ => false

/-- The line's MUTE by the three conditions of R32. -/
def State.muteOn (s : State) (n : LineNo) : Bool :=
  match (s.line n).mode with
  | .active =>
    decide ((s.line n).decoder.sub ≠ .quiet) || (s.boundSender n).isSome ||
      recallRunning (s.line n).queue.execution
  | .out | .idle | .seizing | .lockout => false

/-- Every MUTE latch re-evaluated (R32). -/
def State.settleMutes (s : State) : State :=
  { s with lines := Vector.ofFn fun n => { s.line n with mute := s.muteOn n } }

/-! ### Line images (R178, R183) -/

/-- The code of a line state (R183). -/
def modeValue : LineMode → Nat
  | .out => 0
  | .idle => 1
  | .seizing => 2
  | .active => 3
  | .lockout => 4

/-- The code of a decoder sub-state (R183). -/
def subValue : SubState → Nat
  | .quiet => 0
  | .inBreak => 1
  | .inMake => 2

/-- The code of a polarity (R183). -/
def polarityValue : Polarity → Nat
  | .presentHigh => 0
  | .presentLow => 1

/-- The code of a working mode in the speed source field (R62, R183). -/
def workingValue : WorkingMode → Nat
  | .fixed => 1
  | .tracking => 2
  | .learned => 3

/-- The slot of an order record. -/
def OrderRecord.slot : OrderRecord → SlotNo
  | .release k _ _ => k
  | .inject k _ _ => k

/-- The slot of the line's ACCEPTED LEARN, RELEASE or INJECT (R97). -/
def Line.pendingSlot (l : Line) : Option SlotNo :=
  match l.queue.order with
  | some r => some r.slot
  | none => (l.estimator.bind (·.learn)).map (·.slot)

/-- The generation a line image shows: that of the call context in ACTIVE, that of the set in force in
IDLE, SEIZING and LOCKOUT (R17). -/
def State.shownGeneration (s : State) (n : LineNo) : Nat :=
  match (s.line n).mode with
  | .active => ((s.line n).call.map (·.generation)).getD 0
  | .idle | .seizing | .lockout => ((s.setInForce n).map (·.generation)).getD 0
  | .out => 0

/-- Word 0 of an image: state, sub-state, profile, polarity and speed source. -/
def imageWord0 (l : Line) : Word :=
  asWord (modeValue l.mode + subValue l.decoder.sub * 16
    + ((l.profile.map (·.val)).getD 0) * 256
    + ((l.scan.map fun c => polarityValue c.polarity).getD 0) * 4096
    + ((l.estimator.map fun e => workingValue e.mode).getD 0) * 8192)

/-- Word 6 of an image: bound sender, waiting, HOLD, MUTE, learn-pending and gather satisfied. -/
def imageWord6 (l : Line) (sender : Option SenderNo) : Word :=
  asWord (((sender.map (·.val + 1)).getD 0) + l.queue.waiting.toNat * 16 + l.hold.toNat * 32
    + l.mute.toNat * 64 + (l.estimator.bind (·.learn)).isSome.toNat * 128
    + l.queue.satisfied.toNat * 256)

/-- Words 0 to 11 of a line's image; the image of a line in OUT is all zero words (R178). -/
def State.imageWords (s : State) (n : LineNo) : List Word :=
  let l := s.line n
  match l.mode with
  | .out => List.replicate 12 0
  | .idle | .seizing | .active | .lockout =>
    [ imageWord0 l,
      asWord (s.shownGeneration n),
      asWord ((l.estimator.map (·.p16)).getD 0),
      asWord ((l.decoder.ctx.map (·.tId)).getD 0),
      asWord l.decoder.pulses,
      asWord l.queue.entries.length,
      imageWord6 l (s.boundSender n),
      asWord l.queue.credit,
      asWord l.hitCount,
      asWord l.digits,
      asWord ((l.pendingSlot.map (·.val + 1)).getD 0),
      asWord (l.overflowReported.toNat + l.dialSpeedReported.toNat * 2) ]

/-! ### What an event writes -/

/-- Writes the words of `new` that differ from `old`, from address `a` on. -/
def writeChanged (m : List (Nat × Word)) : Nat → List Word → List Word → List (Nat × Word)
  | a, o :: old, w :: new =>
    writeChanged (if o = w then m else writeWord m a w) (a + 1) old new
  | _, _, _ => m

/-- The image words of one line that an event has changed are written (R178). A line that is OUT before
and after has none. -/
def writeImage (before after : State) (m : List (Nat × Word)) (n : LineNo) : List (Nat × Word) :=
  if (before.line n).mode = .out ∧ (after.line n).mode = .out then m
  else writeChanged m (imageAddress n) (before.imageWords n) (after.imageWords n)

/-- The status word that shows a sender's binding (R138). -/
def senderStatusWord (b : Option Binding) : Word :=
  match b with
  | some b => asWord b.line.val
  | none => 0xFFFF

/-- The sender status word of one sender is written if its bound line has changed (R138). -/
def writeSenderStatus (before after : State) (m : List (Nat × Word)) (k : SenderNo) :
    List (Nat × Word) :=
  if senderStatusWord (before.sender k) = senderStatusWord (after.sender k) then m
  else writeWord m (senderStatusAddress k.val) (senderStatusWord (after.sender k))

/-- WAIT-COUNT is written if the number of requests has changed (R139). -/
def writeWaitCount (before after : State) (m : List (Nat × Word)) : List (Nat × Word) :=
  if before.waitList.length = after.waitList.length then m
  else writeWord m waitCountAddress (asWord after.waitList.length)

/-- The store with every shown word written that the event from `before` to `after` has changed. -/
def shownStore (before after : State) : List (Nat × Word) :=
  writeWaitCount before after
    ((List.finRange 12).foldl (writeSenderStatus before after)
      ((List.finRange 96).foldl (writeImage before after) after.store))

/-- The end of an event: the MUTE latches are settled (R32), and each image word, sender status word and
WAIT-COUNT that the event has changed is written once, with its value after the event (R124, R139, R178;
log 10). -/
def settle (before after : State) : State :=
  after.settleMutes.setStore (shownStore before after.settleMutes)

/-- One event of the part: its effect, and then what it shows. -/
def event (f : State → State) (s : State) : State := settle s (f s)

end Sys2Proof.Machine
end

