-- ==== Sys2Proof/Machine/Capture.lean ====
section
/-! DEFINITION. The capture unit and the fault unit (10, R167 to R176), and the row PAGE_CLOSE_AGE. -/

namespace Sys2Proof.Machine

/-! ### Pages -/

/-- Writes GAP-PENDING when the pending loss changes (R167). -/
def setLoss (loss : Nat) (s : State) : State :=
  let s' := s.setCapture { s.capture with loss := loss }
  if loss = s.capture.loss then s' else s'.poke gapPendingAddress (asWord loss)

/-- The sequence number after one: 255 is followed by 1 (R169). -/
def nextSequence (q : Nat) : Nat := if q = 255 then 1 else q + 1

/-- Closes the filling page: USED, then PAGE-MARK, then LAST-SEQ, STATUS.PAGE, and the next page in the
cycle (R169). Without a filling page nothing is closed. -/
def closePage (s : State) : State :=
  match s.capture.filling with
  | none => s
  | some f =>
    let page := s.capture.nextPage
    let next := page + 1
    let s1 := s.pokes
      [ (pageAddress page + 1, asWord f.position),
        (pageAddress page, asWord (s.capture.sequence * 256 + f.count)),
        (lastSeqAddress, asWord s.capture.sequence),
        (fillPageAddress, asWord next.val) ]
    (s1.setCapture
      { s.capture with filling := none, nextPage := next, sequence := nextSequence s.capture.sequence }
      ).raisePage

/-- The PAGE-MARK word of the next page reads 0 (R168, R171). -/
def nextPageFree (s : State) : Bool := s.peek (pageAddress s.capture.nextPage) == 0

/-- Writes the words of a record into the next page at a position. -/
def putRecord (position : Nat) (ws : List Word) (s : State) : State :=
  s.pokes (ws.zipIdx.map fun (w, i) => (pageAddress s.capture.nextPage + position + i, w))

/-- Makes the next page the filling page, with its first record at word 2 (R168, R171). -/
def openPage (ws : List Word) (s : State) : State :=
  let s1 := putRecord 2 ws s
  s1.setCapture
    { s1.capture with filling := some { position := 2 + ws.length, count := 1, age := 0 } }

/-- Discards a record: the pending loss goes up by 1, saturating at 65535 (R170). -/
def loseRecord (s : State) : State := setLoss (saturate 65535 s.capture.loss) s

/-- Opens the next page for a record if it is free, or discards the record (R168, step 4). -/
def recordInNextPage (ws : List Word) (s : State) : State :=
  if nextPageFree s then openPage ws s else loseRecord s

/-- Places a record when no loss is pending (R168, steps 2 to 4). -/
def placeRecord (ws : List Word) (s : State) : State :=
  match s.capture.filling with
  | none => recordInNextPage ws s
  | some f =>
    if f.position + ws.length ≤ 64 then
      let s1 := putRecord f.position ws s
      s1.setCapture
        { s1.capture with
          filling := some { f with position := f.position + ws.length, count := f.count + 1 } }
    else recordInNextPage ws (closePage s)

/-- The re-check of a pending loss: a next page found free is opened with a GAP record (R171). -/
def recheckLoss (s : State) : State :=
  if s.capture.loss = 0 then s
  else if nextPageFree s then
    setLoss 0 (openPage (recordWords .gap 0 s.clock [asWord s.capture.loss]) s)
  else s

/-- The words of a record handed to the capture unit (R168). -/
def captureWords (ws : List Word) (s : State) : State :=
  let s1 := recheckLoss s
  if s1.capture.loss = 0 then placeRecord ws s1 else loseRecord s1

/-- A record handed to the capture unit: its time is the CLOCK value of the event (R167, R168). -/
def capture (kind : RecordKind) (n : LineNo) (body : List Word) (s : State) : State :=
  captureWords (recordWords kind n.val s.clock body) s

/-! ### Age -/

/-- CLOSE-AGE as read at a tick boundary, clamped to 2 to 1000 (R169). -/
def closeAge (s : State) : Nat := clamp 2 1000 (s.peek closeAgeAddress).toNat

/-- The page age goes up by 1 at a tick boundary while a page is filling (R169). -/
def raisePageAge (s : State) : State :=
  s.setCapture { s.capture with filling := s.capture.filling.map fun f => { f with age := f.age + 1 } }

/-- The filling page's age has reached the clamped CLOSE-AGE at the tick boundary now falling (R169). -/
def ageCloseDue (s : State) : Bool :=
  s.timeBase.ageDue &&
    (match s.capture.filling with
     | some f => decide (closeAge s ≤ f.age)
     | none => false)

/-- The test of the page age is made: the page is closed if it is due (R169). -/
def takeAgeClose (s : State) : State :=
  let s1 := if ageCloseDue s then closePage s else s
  s1.setTimeBase { s1.timeBase with ageDue := false }

/-! ### Faults -/

/-- The lowest-numbered fault slot whose mark reads 0 (R175). -/
def freeFaultSlot (s : State) : Option Nat :=
  (List.range 8).find? fun k => s.peek (faultSlotAddress k) == 0

/-- A fault reported to the fault unit: dropped under FAULT-OVERFLOW, written into the lowest free slot, or
dropped with FAULT-OVERFLOW written 1 (R175). -/
def reportFault (kind : FaultKind) (n : LineNo) (detail : Nat) (s : State) : State :=
  if s.peek faultOverflowAddress = 0 then
    match freeFaultSlot s with
    | some k =>
      (s.pokes
        [ (faultSlotAddress k + 1, asWord n.val), (faultSlotAddress k + 2, s.clock),
          (faultSlotAddress k + 3, asWord detail), (faultSlotAddress k, faultValue kind) ]).raiseFault
    | none => (s.poke faultOverflowAddress 1).raiseFault
  else s

/-! ### The row -/

/-- PAGE_CLOSE_AGE (R169): at the tick boundary now falling, the filling page's age has reached the clamped
CLOSE-AGE, and the page is closed. -/
def execPageCloseAge (s : State) : Host.Outcome State Fault Refusal :=
  occurs (s.ready && ageCloseDue s) (event takeAgeClose s) s

end Sys2Proof.Machine
end

