-- ==== Sys2Proof/Machine/Board.lean ====
section
/-! DEFINITION. The order unit's own work: the acceptance list, the writing of results, completions and the
MARKs behind them, and sweep requests (09, R155 to R164). -/

namespace Sys2Proof.Machine

/-! ### Results -/

/-- Writes a slot's result word, then its state word, then sets STATUS.ORDER (R160, R161). -/
def writeOutcome (slot : SlotNo) (code : ResultCode) (detail : Nat) (state : Word) (s : State) : State :=
  (s.pokes
    [ (slotAddress slot + 7, resultWord code detail), (slotAddress slot, state) ]).raiseOrder

/-- A refused order (R160). -/
def refuse (slot : SlotNo) (code : ResultCode) (detail : Nat) (s : State) : State :=
  writeOutcome slot code detail slotRefused s

/-- An order finished within its examination (R160). -/
def finishNow (slot : SlotNo) (code : ResultCode) (detail : Nat) (s : State) : State :=
  writeOutcome slot code detail slotDone s

/-! ### The acceptance list -/

/-- A slot is held while an order of the acceptance list names it (R155). -/
def State.slotHeld (s : State) (k : SlotNo) : Bool := s.board.accepted.any fun o => o.slot == k

/-- An order accepted to run over time: its slot is written ACCEPTED and it joins the tail of the
acceptance list (R155, R160). -/
def accept (slot : SlotNo) (kind : HeldKind) (line : Option LineNo) (c : OrderCopy) (s : State) :
    State :=
  let s1 := s.poke (slotAddress slot) slotAccepted
  s1.setAccepted
    (s1.board.accepted ++
      [{ slot := slot, kind := kind, line := line, copy := c, ahead := s1.board.accepted.length }])

/-- LEARN, RELEASE and INJECT, the kinds of which a line may have one ACCEPTED (R159). -/
def HeldKind.perLine : HeldKind → Bool
  | .learn | .release | .inject => true
  | .mark => false

/-- The slot of the LEARN, RELEASE or INJECT that holds a line (R159). -/
def lineHolder (s : State) (n : LineNo) : Option SlotNo :=
  (s.board.accepted.find? fun o => o.kind.perLine && (o.line == some n)).map (·.slot)

/-! ### MARK -/

/-- The writes of a completed MARK: target word, result, DONE, then STATUS.MARK if its flag is 1 and
STATUS.ORDER (R163). -/
def markDone (slot : SlotNo) (c : OrderCopy) (ahead : Nat) (s : State) : State :=
  let s1 := finishNow slot .ok ahead (s.poke c.p0.toNat c.p1)
  if c.p2 = 1 then s1.raiseMark else s1

/-- The MARKs that stand at the head of what is left of the acceptance list complete, in order; the rest of
the list stands (R163). -/
def completeMarks : List HeldOrder → State → State
  | [], s => s.setAccepted []
  | o :: rest, s =>
    match o.kind with
    | .mark => completeMarks rest (markDone o.slot o.copy o.ahead s)
    | .learn | .release | .inject => s.setAccepted (o :: rest)

/-- An ACCEPTED order completes: it leaves the list, its result and DONE are written, and MARKs with nothing
left ahead of them complete after it (R161, R163). -/
def completeOrder (slot : SlotNo) (code : ResultCode) (detail : Nat) (s : State) : State :=
  completeMarks (s.board.accepted.filter fun o => o.slot != slot) (finishNow slot code detail s)

/-- At a soft reset every held order is written REFUSED with RESET, in list order, and the list is emptied
(R164). -/
def refuseHeld (s : State) : State :=
  (s.board.accepted.foldl (fun s o => refuse o.slot .reset 0 s) s).setAccepted []

/-! ### Sweeps -/

/-- A sweep is requested: it begins at once, or the request is held while one is under way (R156). -/
def requestSweep (s : State) : State :=
  match s.board.sweepAt with
  | none => s.setSweep (some 0) s.board.sweepHeld
  | some k => s.setSweep (some k) true

/-- The sweep under way ends: a pending loss is re-checked (R156, R171; log 8), and a held request begins
one further sweep. -/
def endSweep (s : State) : State :=
  let s1 := recheckLoss s
  s1.setSweep (if s1.board.sweepHeld then some 0 else none) false

end Sys2Proof.Machine
end

