-- ==== Sys2Proof/Machine/Queue.lean ====
section
/-! DEFINITION. The queue unit of one line: sendability, the head leaving, finishes, the gather and hand-overs
into the queue (06, R97 to R116). -/

namespace Sys2Proof.Machine

/-- The state with one line's queue unit changed. -/
def State.modQueue (s : State) (n : LineNo) (f : QueueUnit → QueueUnit) : State :=
  s.modLine n fun l => { l with queue := f l.queue }

/-- The discipline of the line's call. -/
def Line.discipline (l : Line) : Discipline := (l.call.map (·.discipline)).getD .immediate

/-! ### Sendability -/

/-- An entry at the head of the line's queue is sendable (R101). -/
def Line.sendable (l : Line) (e : Entry) : Bool :=
  match e.origin with
  | .ordered => true
  | .dialled =>
    match l.discipline with
    | .immediate => true
    | .gather => l.queue.satisfied
    | .held => decide (0 < l.queue.credit)

/-- The line is ACTIVE with nothing in flight, and its head is a sendable TONE (R105, R109). -/
def Line.toneReady (l : Line) : Bool :=
  decide (l.mode = .active) && l.queue.flight.isNone &&
    (match l.queue.entries with
     | e :: _ => (match e.kind with
       | .tone _ => l.sendable e
       | .recall | .pause _ => false)
     | [] => false)

/-! ### The head leaves -/

/-- The entry uses release credit: it is DIALLED and the call is HELD (R104). -/
def Line.usesCredit (l : Line) (e : Entry) : Bool :=
  decide (e.origin = .dialled) && decide (l.discipline = .held)

/-- The entry belongs to the line's ACCEPTED RELEASE or INJECT (R108). -/
def Line.belongs (l : Line) (e : Entry) : Bool :=
  match l.queue.order with
  | some (.release _ _ _) => l.usesCredit e
  | some (.inject slot _ _) => decide (e.origin = .ordered) && decide (e.owner = some slot)
  | none => false

/-- The order record after an entry that belongs to it has left the head: the sent count goes up, and for a
RELEASE the last-credit flag is set when the credit has come to 0 (R108). -/
def OrderRecord.leave (r : OrderRecord) (creditLeft : Nat) : OrderRecord :=
  match r with
  | .release slot sent last => .release slot (sent + 1) (last || creditLeft == 0)
  | .inject slot sent remaining => .inject slot (sent + 1) remaining

/-- The queue side of a bind or a start: the head becomes the entry in flight, the waiting flag is cleared,
and the credit and the order record are taken into account (R108, R110, R111). -/
def Line.leaveHead (l : Line) : Line :=
  match l.queue.entries with
  | [] => l
  | e :: rest =>
    let credit := if l.usesCredit e then l.queue.credit - 1 else l.queue.credit
    let owned := l.belongs e
    { l with
      queue :=
        { l.queue with
          entries := rest
          flight := some { entry := e, owned := owned }
          waiting := false
          credit := credit
          order := if owned then l.queue.order.map (·.leave credit) else l.queue.order } }

/-! ### The entry in flight finishes -/

/-- What the finish of an owned entry makes of the order record: the record that stays, and the slot and sent
count of an order that is now done (R109, R113, R115). -/
def OrderRecord.finish (r : OrderRecord) : Option OrderRecord × Option (SlotNo × Nat) :=
  match r with
  | .release slot sent true => (none, some (slot, sent))
  | .release slot sent false => (some (.release slot sent false), none)
  | .inject slot sent remaining =>
    if remaining ≤ 1 then (none, some (slot, sent))
    else (some (.inject slot sent (remaining - 1)), none)

/-- The entry in flight has finished: it is cleared, and its RELEASE or INJECT completes if it is now done
(R109 to R111, R113, R115). -/
def finishFlight (n : LineNo) (s : State) : State :=
  let q := (s.line n).queue
  let cleared := s.modQueue n fun q => { q with flight := none }
  match q.flight, q.order with
  | some { entry := _, owned := true }, some r =>
    let s1 := cleared.modQueue n fun q => { q with order := r.finish.1 }
    match r.finish.2 with
    | some (slot, sent) => completeOrder slot .ok sent s1
    | none => s1
  | _, _ => cleared

/-! ### Arrivals -/

/-- Stops the first-digit timer: a pulse has been counted or an entry appended (R25). -/
def stopFirstDigit (n : LineNo) (s : State) : State :=
  s.modLine n fun l => { l with firstDigit := none }

/-- The gather becomes satisfied: the flag is set and the timer stops (R102). -/
def QueueUnit.satisfy (q : QueueUnit) : QueueUnit :=
  { q with satisfied := true, gatherTimer := none }

/-- Under GATHER, while the gather is unsatisfied, a DIALLED hand-over restarts the gather wait timer
(R103). -/
def Line.restartGather (l : Line) : Line :=
  match l.discipline with
  | .gather =>
    if l.queue.satisfied then l
    else
      { l with
        queue :=
          { l.queue with
            gatherTimer := some { count := 0, limit := (l.call.map (·.gatherWait)).getD 0 } } }
  | .immediate | .held => l

/-- A DIALLED entry appended at the tail; under GATHER the gather count goes up and may satisfy the gather
(R100, R102). -/
def Line.appendDialled (l : Line) (e : Entry) : Line :=
  let q := { l.queue with entries := l.queue.entries ++ [e] }
  match l.discipline with
  | .gather =>
    let count := saturate 255 q.gatherCount
    let q' := { q with gatherCount := count }
    { l with
      queue :=
        if !q.satisfied && (count == (l.call.map (·.gatherN)).getD 0) then q'.satisfy else q' }
  | .immediate | .held => { l with queue := q }

/-- The most entries a held queue holds (R97). -/
def queueRoom : Nat := 24

/-- The held queue has room for an entry (R100). -/
def Line.hasRoom (l : Line) : Bool := decide (l.queue.entries.length < queueRoom)

/-- QUEUE-OVERFLOW is reported once a call, with the code of the lost entry (R100). -/
def reportOverflow (n : LineNo) (e : Entry) (s : State) : State :=
  if (s.line n).overflowReported then s
  else
    (reportFault .queueOverflow n (lostCode e.kind) s).modLine n
      fun l => { l with overflowReported := true }

/-! ### Orders on the queue -/

/-- The number of DIALLED entries in the held queue (R112). -/
def QueueUnit.dialledCount (q : QueueUnit) : Nat :=
  q.entries.countP fun e => decide (e.origin = .dialled)

/-- The entries of a withdrawn INJECT leave the held queue (R116). -/
def QueueUnit.dropOwned (q : QueueUnit) (slot : SlotNo) : QueueUnit :=
  { q with entries := q.entries.filter fun e => decide (e.owner ≠ some slot) }

/-- The order record is dropped, and the finish of an entry in flight no longer completes anything
(R116, R117). -/
def QueueUnit.dropOrder (q : QueueUnit) : QueueUnit :=
  { q with order := none, flight := q.flight.map fun f => { f with owned := false } }

/-- The sent count of an order record. -/
def OrderRecord.sent : OrderRecord → Nat
  | .release _ sent _ => sent
  | .inject _ sent _ => sent

/-- The line's ACCEPTED RELEASE or INJECT completes with its sent count, and its record is dropped
(R113, R115, R117, R119). -/
def endQueueOrder (n : LineNo) (code : ResultCode) (s : State) : State :=
  let s1 := s.modQueue n QueueUnit.dropOrder
  match (s.line n).queue.order with
  | some r => completeOrder r.slot code r.sent s1
  | none => s1

/-- The entries a clear or a CLOSE discards: those queued and the one in flight (R119). -/
def QueueUnit.discardCount (q : QueueUnit) : Nat := q.entries.length + q.flight.isSome.toNat

end Sys2Proof.Machine
end

