-- ==== Sys2Proof/Machine/Synthesis.lean ====
section
/-! DEFINITION. The synthesiser: tone plan entries, phase increments, the sine table and the sample (08). -/

namespace Sys2Proof.Machine

/-- The phase increment of a clamped frequency (R146). -/
def phaseIncrement (f : Nat) : BitVec 16 := BitVec.ofNat 16 ((f * 65536 + 4000) / 8000)

/-- The tone plan entry of a code as a sender reads and clamps it at a binding (R143, R144, R146). DESIGN CHOICE: the
six words are read from one store, with no host write between two of the reads (log 24). -/
def readTone (m : List (Nat × Word)) (code : Nat) : ToneValues :=
  let field (i : Nat) : Nat := (readWord m (toneAddress code + i)).toNat
  let low := clamp 200 3800 (field 0)
  let high := clamp 200 3800 (field 1)
  { low := low
    high := high
    onMs := clamp 30 500 (field 2)
    offMs := clamp 30 500 (field 3)
    levelLow := clamp 0 4095 (field 4)
    levelHigh := clamp 0 4095 (field 5)
    incLow := phaseIncrement low
    incHigh := phaseIncrement high }

/-- The first quarter of the sine table, entries 0 to 64: 8191 × sin(2πk / 256), rounded half away from
zero (R147). -/
def sineQuarter : List Nat :=
  [0, 201, 402, 603, 803, 1003, 1202, 1400, 1598, 1795, 1990,
   2185, 2378, 2569, 2759, 2948, 3135, 3319, 3502, 3683, 3861, 4037,
   4211, 4382, 4551, 4716, 4879, 5039, 5196, 5350, 5501, 5648, 5792,
   5932, 6069, 6202, 6332, 6457, 6579, 6697, 6811, 6920, 7026, 7127,
   7224, 7316, 7405, 7488, 7567, 7642, 7712, 7778, 7838, 7894, 7946,
   7992, 8034, 8070, 8102, 8129, 8152, 8169, 8181, 8189, 8191]

/-- Entry k of the sine table, by the symmetries R147 gives. -/
def sine (k : Nat) : Int :=
  if k ≤ 64 then (sineQuarter.getD k 0 : Nat)
  else if k ≤ 128 then (sineQuarter.getD (128 - k) 0 : Nat)
  else if k ≤ 192 then -((sineQuarter.getD (k - 128) 0 : Nat) : Int)
  else -((sineQuarter.getD (256 - k) 0 : Nat) : Int)

/-- The sample of a frame: the weighted sum of the two table values, divided by 4096 toward minus infinity
(R148). -/
def sampleValue (accLow accHigh : BitVec 16) (levelLow levelHigh : Nat) : Int :=
  (sine (accLow.toNat / 256) * levelLow + sine (accHigh.toNat / 256) * levelHigh) / 4096

/-- What a sender contributes to its line's slot in the frame that begins: the sample in TONE, 0 in GAP
(R129, R131, R152). -/
def frameSample (b : Binding) : BitVec 16 :=
  match b.phase with
  | .tone => BitVec.ofInt 16 (sampleValue b.accLow b.accHigh b.tone.levelLow b.tone.levelHigh)
  | .gap => 0

/-- The sender after its frame has been settled: the accumulators advance in TONE and stand in GAP (R148), and
the frame in progress is one of its own. -/
def afterSample (b : Binding) : Binding :=
  match b.phase with
  | .tone =>
    { b with
      accLow := b.accLow + b.tone.incLow, accHigh := b.accHigh + b.tone.incHigh, started := true }
  | .gap => { b with started := true }

end Sys2Proof.Machine
end

