-- ==== Sys2Proof/Machine/Pool.lean ====
section
/-! DEFINITION. The sender pool: binding, grants, requests, the head examination that joins queue unit and pool,
tone and gap ends, and releases (06 R105 to R111; 07). The rows TONE_END and GAP_END. -/

namespace Sys2Proof.Machine

/-! ### Binding and grants -/

/-- A sender as a binding makes it: TONE from zero phase, with its countdown set to on × 8 frames. Its first
frame is the next to begin (R128). -/
def newBinding (n : LineNo) (code : Nat) (origin : Origin) (t : ToneValues) : Binding :=
  { phase := .tone, line := n, code := code, origin := origin, tone := t, accLow := 0, accHigh := 0,
    countdown := t.onMs * 8, started := false }

/-- A sender is bound to a line and takes its head TONE, reading the tone plan entry as one step (R108, R128, R143;
log 24). -/
def bindSender (k : SenderNo) (n : LineNo) (s : State) : State :=
  match (s.line n).queue.entries with
  | { kind := .tone code, origin := origin, owner := _ } :: _ =>
    (s.modLine n Line.leaveHead).setSender k
      (some (newBinding n code origin (readTone s.store code)))
  | _ => s

/-- The lowest-numbered FREE sender (R125). -/
def State.freeSender (s : State) : Option SenderNo :=
  (List.finRange 12).find? fun k => (s.sender k).isNone

/-- The request a grant chooses: the oldest of class A, or else the oldest (R125). -/
def bestRequest (l : List Request) : Option Request :=
  match l.find? fun r => decide (r.cls = .a) with
  | some r => some r
  | none => l.head?

/-- The wait list without a line's request. -/
def withoutRequest (n : LineNo) (l : List Request) : List Request := l.filter fun r => r.line != n

/-- An occasion for one grant: made when SEND-HOLD is clear, a sender is FREE and the list is not empty
(R125, R126). -/
def grantOnce (s : State) : State :=
  if s.sendHold then s
  else
    match s.freeSender, bestRequest s.waitList with
    | some k, some r => bindSender k r.line (s.setWaitList (withoutRequest r.line s.waitList))
    | _, _ => s

/-- Grants repeated, as at the clearing of SEND-HOLD: twelve are as many as there are senders (R126). -/
def grantAll (s : State) : State := (List.range 12).foldl (fun s _ => grantOnce s) s

/-! ### Requests -/

/-- The request a line posts: at the tail, with fresh counts (R106, R124). -/
def newRequest (n : LineNo) (l : Line) : Request :=
  { line := n
    cls := (l.call.map (·.cls)).getD .a
    senderWait := (l.call.map (·.senderWait)).getD 0
    waitCount := 0
    expired := false
    age := 0 }

/-- The queue unit posts a request; the join is an occasion for a grant (R106, R124). -/
def postRequest (n : LineNo) (s : State) : State :=
  let s1 := s.setWaitList (s.waitList ++ [newRequest n (s.line n)])
  grantOnce (s1.modQueue n fun q => { q with waiting := true })

/-- The queue unit withdraws its line's request, if it has one (R107, R133). -/
def withdrawRequest (n : LineNo) (s : State) : State :=
  if (s.line n).queue.waiting then
    (s.setWaitList (withoutRequest n s.waitList)).modQueue n fun q => { q with waiting := false }
  else s

/-! ### RECALL and PAUSE -/

/-- A RECALL starts: the head is in flight, RECALL BREAK begins and HOLD goes off (R110). -/
def startRecall (n : LineNo) (s : State) : State :=
  (s.modLine n Line.leaveHead).modLine n fun l =>
    { l with queue := { l.queue with execution := .recallBreak s.clock }, hold := false }

/-- A PAUSE starts: the head is in flight, and HOLD and MUTE stay as they are (R111). -/
def startPause (n : LineNo) (s : State) : State :=
  (s.modLine n Line.leaveHead).modQueue n fun q => { q with execution := .pause s.clock }

/-! ### The head examination -/

/-- The queue unit of an ACTIVE line examines its head (R105). -/
def examineHead (n : LineNo) (s : State) : State :=
  let l := s.line n
  if l.mode ≠ .active ∨ l.queue.flight.isSome then s
  else
    match l.queue.entries with
    | [] => withdrawRequest n s
    | e :: _ =>
      match e.kind with
      | .tone _ =>
        if l.sendable e then (if l.queue.waiting then s else postRequest n s)
        else withdrawRequest n s
      | .recall =>
        let s1 := withdrawRequest n s
        if l.sendable e && !s.sendHold then startRecall n s1 else s1
      | .pause _ =>
        let s1 := withdrawRequest n s
        if l.sendable e && !s.sendHold then startPause n s1 else s1

/-- A DIALLED entry handed over by the decoder: appended, or lost at a full queue (R100). The answer says
whether it was lost. -/
def handOver (n : LineNo) (e : Entry) (s : State) : State × Bool :=
  let s1 := s.modLine n Line.restartGather
  if (s.line n).hasRoom then
    (examineHead n (stopFirstDigit n (s1.modLine n fun l => l.appendDialled e)), false)
  else (reportOverflow n e s1, true)

/-- The gather becomes satisfied by time, and the head is examined (R102, R103). -/
def satisfyGather (n : LineNo) (s : State) : State :=
  examineHead n (s.modQueue n QueueUnit.satisfy)

/-! ### Tone end and gap end -/

/-- A sender at the end of its TONE changes to GAP, and a SENT record is written if the call asks for one
(R129, R130). -/
def toneEnds (k : SenderNo) (s : State) : State :=
  match s.sender k with
  | none => s
  | some b =>
    let s1 := s.setSender k
      (some { b with phase := .gap, countdown := b.tone.offMs * 8, started := false })
    if ((s.line b.line).call.map (·.reportSent)).getD false then
      capture .sent b.line (sentBody b.code b.origin k.val) s1
    else s1

/-- A sender at the end of its GAP: the entry finishes, and the sender continues with a sendable TONE head or
becomes FREE, which is an occasion for a grant (R109, R131). -/
def gapEnds (k : SenderNo) (s : State) : State :=
  match s.sender k with
  | none => s
  | some b =>
    let s1 := finishFlight b.line s
    if (s1.line b.line).toneReady && !s1.sendHold then bindSender k b.line s1
    else grantOnce (examineHead b.line (s1.setSender k none))

/-- The present TONE or GAP of a sender ends with the frame in progress: its countdown stands at its last
frame. -/
def phaseEnds (b : Binding) : Bool := b.started && decide (b.countdown ≤ 1)

/-- The sender's part of a frame boundary: its countdown goes down by 1, and at 0 its TONE or GAP ends
(R129, R131). A sender whose present TONE or GAP has not begun a frame yet stands. -/
def senderBoundary (k : SenderNo) (s : State) : State :=
  match s.sender k with
  | none => s
  | some b =>
    if !b.started then s
    else if phaseEnds b then
      match b.phase with
      | .tone => event (toneEnds k) s
      | .gap => event (gapEnds k) s
    else s.setSender k (some { b with countdown := b.countdown - 1 })

/-! ### Release and discard at the end of a call -/

/-- The sender bound to a line becomes FREE at once, and is an occasion for a grant (R132). -/
def releaseSender (n : LineNo) (s : State) : State :=
  match s.boundSender n with
  | some k => grantOnce (s.setSender k none)
  | none => s

/-- A clear or a CLOSE discards the line's whole queue state; its RELEASE or INJECT completes CALL-ENDED with
its sent count (R119). -/
def discardQueue (n : LineNo) (s : State) : State :=
  (endQueueOrder n .callEnded (withdrawRequest n s)).modQueue n fun _ => .empty

/-! ### The rows -/

/-- The sender's TONE or GAP ends at the boundary now falling, in the given phase. -/
def senderEndDue (k : SenderNo) (p : SendPhase) (s : State) : Bool :=
  s.ready &&
    (match s.sender k with
     | some b => decide (b.phase = p) && phaseEnds b
     | none => false)

/-- The frame boundary that ends the frame in progress has begun to be taken (log 6). -/
def beginBoundary (s : State) : State := s.setTimeBase { s.timeBase with begun := true }

/-- TONE_END (R129): at the frame boundary now falling, the sender's TONE countdown reaches 0. -/
def execToneEnd (k : SenderNo) (s : State) : Host.Outcome State Fault Refusal :=
  occurs (senderEndDue k .tone s) (beginBoundary (event (toneEnds k) s)) s

/-- GAP_END (R131): at the frame boundary now falling, the sender's GAP countdown reaches 0. -/
def execGapEnd (k : SenderNo) (s : State) : Host.Outcome State Fault Refusal :=
  occurs (senderEndDue k .gap s) (beginBoundary (event (gapEnds k) s)) s

end Sys2Proof.Machine
end

