-- ==== Sys2Proof/Machine/Estimator.lean ====
section
/-! DEFINITION. The speed estimator of one line: train starts, the tracking update, train statistics and the
LEARN measurement (04, R62 to R79). -/

namespace Sys2Proof.Machine

/-- The state with one line's estimator changed, if it has one. -/
def State.modEstimator (s : State) (n : LineNo) (f : Estimator → Estimator) : State :=
  s.modLine n fun l => { l with estimator := l.estimator.map f }

/-! ### Open and train start -/

/-- The working mode that a profile's mode gives under source PROFILE (R62). -/
def SpeedMode.working : SpeedMode → WorkingMode
  | .fixed => .fixed
  | .tracking => .tracking

/-- The estimator of a line taken up by an OPEN (R63). -/
def Estimator.opened (a : AdoptedSet) : Estimator :=
  { p16 := a.pNom16, source := .profile, mode := a.mode.working, learnMark := false, learn := none }

/-- The train-start adjustment of P16 and the working mode, and the learn mark (R64). -/
def Estimator.trainStart (e : Estimator) (a : AdoptedSet) : Estimator :=
  let marked := { e with learnMark := e.learn.isSome }
  match e.source, a.mode with
  | .profile, .fixed => { marked with p16 := a.pNom16, mode := .fixed }
  | .profile, .tracking => { marked with p16 := clamp a.pLo16 a.pHi16 e.p16, mode := .tracking }
  | .learned, _ => { marked with p16 := clamp a.pLo16 a.pHi16 e.p16, mode := .learned }

/-- The inter-digit threshold of a train: P16 × G / 128 rounded half up, clamped to the gap limits (R65). -/
def interDigit (p16 : Nat) (a : AdoptedSet) : Nat :=
  clamp a.gapMin a.gapMax ((p16 * a.gapFactor + 64) / 128)

/-! ### Periods -/

/-- The tracking update: P16 moves by one eighth of its error, truncated toward zero, and is clamped to the
band of the train context (R66). -/
def trackP16 (p16 period low high : Nat) : Nat :=
  let d : Int := (period * 16 : Nat) - (p16 : Int)
  clamp low high ((p16 : Int) + d.tdiv 8).toNat

/-- A completed full period handed to the estimator: only TRACKING moves P16 (R66). -/
def Estimator.period (e : Estimator) (period : Nat) (c : TrainContext) : Estimator :=
  match e.mode with
  | .tracking => { e with p16 := trackP16 e.p16 period c.pLo16 c.pHi16 }
  | .fixed | .learned => e

/-! ### Train end -/

/-- The mean period, rounded half up (R69). -/
def meanPeriod (n sum : Nat) : Nat := (sum + n / 2) / n

/-- The make percent, rounded half up (R69). -/
def makePercent (sum makes : Nat) : Nat := (100 * makes + sum / 2) / sum

/-- The mean period and make percent of a train with one or more full periods (R69). -/
def trainStatistics (d : Decoder) : Option (Nat × Nat) :=
  if d.periods = 0 then none
  else some (meanPeriod d.periods d.periodSum, makePercent d.periodSum d.makeSum)

/-- The OFF-BAND flag of a train (R70). -/
def offBand (stats : Option (Nat × Nat)) (c : TrainContext) : Bool :=
  match stats with
  | some (mean, _) => decide (mean * 16 < c.pLo16) || decide (c.pHi16 < mean * 16)
  | none => false

/-- The value a qualifying train teaches (R75). -/
def learnedP16 (d : Decoder) (c : TrainContext) : Nat :=
  clamp c.pLo16 c.pHi16 (16 * d.periodSum / d.periods)

/-- A marked train is passed over while the LEARN is pending: the count goes up, saturating at 4095
(R72, R76). The learn mark is cleared with the train. -/
def Estimator.passOver (e : Estimator) : Estimator :=
  { e with
    learnMark := false
    learn :=
      if e.learnMark then e.learn.map fun x => { x with passedOver := saturate 4095 x.passedOver }
      else e.learn }

/-- The estimator that has learned a value (R75). -/
def Estimator.learnValue (e : Estimator) (p16 : Nat) : Estimator :=
  { e with p16 := p16, source := .learned, mode := .learned, learnMark := false, learn := none }

/-- The LEARN part of a valid train end: a marked train with two or more full periods completes the pending
LEARN, any other marked train is passed over (R68, R75, R76). -/
def learnFromTrain (n : LineNo) (s : State) : State :=
  let l := s.line n
  match l.estimator with
  | none => s
  | some e =>
    match e.learnMark, e.learn, l.decoder.ctx with
    | true, some x, some c =>
      if 2 ≤ l.decoder.periods then
        let p16 := learnedP16 l.decoder c
        completeOrder x.slot .ok p16 (s.modEstimator n (·.learnValue p16))
      else s.modEstimator n Estimator.passOver
    | _, _, _ => s.modEstimator n Estimator.passOver

/-- DIAL-SPEED is reported at the first OFF-BAND train end of a call (R71). -/
def reportDialSpeed (n : LineNo) (mean : Nat) (s : State) : State :=
  if (s.line n).dialSpeedReported then s
  else
    (reportFault .dialSpeed n mean s).modLine n fun l => { l with dialSpeedReported := true }

/-- A train that ended without a digit (R72). -/
def trainWithoutDigit (n : LineNo) (s : State) : State := s.modEstimator n Estimator.passOver

/-! ### The learn timer -/

/-- LEARN's window: 120000 line ticks (R73). -/
def learnWindow : Nat := 120000

/-- The estimator with the pending LEARN and its mark gone (R74, R77). -/
def Estimator.dropLearn (e : Estimator) : Estimator := { e with learnMark := false, learn := none }

/-- The line's pending LEARN. -/
def Line.learnPending (l : Line) : Option Learn := l.estimator.bind (·.learn)

/-- The line's pending LEARN ends with a result and a detail (R74, R77, R79). -/
def endLearn (n : LineNo) (code : ResultCode) (detail : Learn → Nat) (s : State) : State :=
  match (s.line n).learnPending with
  | none => s
  | some x => completeOrder x.slot code (detail x) (s.modEstimator n Estimator.dropLearn)

end Sys2Proof.Machine
end

