-- ==== Sys2Proof/Machine/Decoder.lean ====
section
/-! DEFINITION. The pulse decoder of one line and the call's end at a clear: what one line tick of an ACTIVE line
does, edge first and then the test of the sub-state (03, R37 to R60; 02, R27, R28). -/

namespace Sys2Proof.Machine

/-- The decisions of a line tick that the table gives a row of their own. -/
inductive TickEvent where
  | seizureComplete
  | firstDigitExpiry
  | lockoutReturn
  | clear
  | pulseCounted
  | trainEnd
  | gatherWaitExpiry
  | recallBreakEnd
  | recallFinished
  | pauseFinished
  | senderWait
  | learnExpiry
  deriving DecidableEq, Repr

/-- A state reached within a line tick, with the decisions taken on the way. -/
structure Ticked where
  state : State
  events : List TickEvent

/-- No decision taken. -/
def quietly (s : State) : Ticked := { state := s, events := [] }

/-- A decision taken. -/
def noting (e : TickEvent) (s : State) : Ticked := { state := s, events := [e] }

/-- One part of a line tick after another. -/
def Ticked.andThen (x : Ticked) (f : State → Ticked) : Ticked :=
  { state := (f x.state).state, events := x.events ++ (f x.state).events }

/-- The state with one line's decoder changed. -/
def State.modDecoder (s : State) (n : LineNo) (f : Decoder → Decoder) : State :=
  s.modLine n fun l => { l with decoder := f l.decoder }

/-! ### Values the decoder reads -/

/-- A limit of the train context held. -/
def Decoder.limit (d : Decoder) (f : TrainContext → Nat) : Nat := (d.ctx.map f).getD 0

/-- The ticks from the break start. -/
def Decoder.sinceBreak (d : Decoder) (t : Tick) : Nat := since t (d.breakStart.getD 0)

/-- The ticks from the make start. -/
def Decoder.sinceMake (d : Decoder) (t : Tick) : Nat := since t (d.makeStart.getD 0)

/-- The line's debounced level. -/
def Line.level (l : Line) : Option Level := l.scan.map (·.level)

/-! ### Train start -/

/-- The train context taken at a train start (R39). -/
def trainContext (a : AdoptedSet) (tId : Nat) : TrainContext :=
  { breakMin := a.breakMin, breakMax := a.breakMax, makeMin := a.makeMin, flashMax := a.flashMax,
    map := a.map, tId := tId, pLo16 := a.pLo16, pHi16 := a.pHi16 }

/-- An OPEN edge taken in QUIET starts a train: the estimator adjusts P16 and gives T_id, and the decoder
takes the context and goes to BREAK (R39, R40, R64, R65). -/
def startTrain (n : LineNo) (stamp : Tick) (s : State) : State :=
  match s.setInForce n, (s.line n).estimator with
  | some a, some e =>
    let e' := e.trainStart a
    (s.modEstimator n fun _ => e').modDecoder n fun _ =>
      { Decoder.atRest with
        sub := .inBreak, ctx := some (trainContext a (interDigit e'.p16 a)),
        breakStart := some stamp }
  | _, _ => s

/-! ### The call's end at a clear -/

/-- The call's end, common to clear and first-digit expiry: HOLD off, the train reported as ended without a
digit and discarded, the first-digit timer and the call context dropped (R26, R27, R59, R72). MUTE goes
off with the state (R32). -/
def dropCall (n : LineNo) (mode : LineMode) (s : State) : State :=
  (trainWithoutDigit n s).modLine n fun l =>
    { l with mode := mode, hold := false, decoder := .atRest, firstDigit := none, call := none }

/-- Clear: the call ends, the queue is discarded, the sender is released, RELEASE and INJECT end CALL-ENDED, and
a CLEAR record is written (R27, R28). -/
def clearCall (n : LineNo) (s : State) : State :=
  let l := s.line n
  let body := clearBody l.queue.discardCount (decide (0 < l.decoder.pulses)) l.digits
  capture .clear n body (releaseSender n (dropCall n .idle (discardQueue n s)))

/-- A CLOSED edge in IDLE starts a seizure, with the seize_time read at this line tick (R20). -/
def startSeizing (n : LineNo) (stamp : Tick) (s : State) : State :=
  let time := ((s.setInForce n).map (·.seizeTime)).getD 0
  s.modLine n fun l =>
    { l with mode := .seizing, seizure := some { start := stamp, seizeTime := time } }

/-! ### BREAK -/

/-- The clear test of BREAK: an open break that has reached flash_max is a clear (R41). -/
def breakTest (n : LineNo) (s : State) : Ticked :=
  let l := s.line n
  if l.decoder.sub = .inBreak ∧ l.level = some .opened ∧
      l.decoder.limit (·.flashMax) ≤ l.decoder.sinceBreak s.clock then
    noting .clear (clearCall n s)
  else quietly s

/-- The hit count of the call goes up by 1, saturating at 255 (R24, R58). -/
def raiseHits (n : LineNo) (s : State) : State :=
  s.modLine n fun l => { l with hitCount := saturate 255 l.hitCount }

/-- The train ends without a digit: the estimator is told, the context is discarded and the decoder is in
QUIET (R43 to R45, R53, R72). -/
def abandonTrain (n : LineNo) (s : State) : State :=
  (trainWithoutDigit n s).modDecoder n fun _ => .atRest

/-- A hit in a break that began in MAKE: back to MAKE with the pulse counted, the make start unchanged and
the candidate make dropped (R43). The break start is again that of the pulse last counted (R37). -/
def hitInMake (n : LineNo) (s : State) : State :=
  (raiseHits n s).modDecoder n fun d =>
    { d with
      sub := .inMake, pulsePending := false, breakStart := d.countedBreakStart,
      candidateMake := none, hits := true }

/-- A candidate pulse: MAKE with the pulse pending (R42). -/
def candidatePulse (n : LineNo) (stamp : Tick) (s : State) : State :=
  s.modDecoder n fun d => { d with sub := .inMake, pulsePending := true, makeStart := some stamp }

/-- The entry a flash hands over. -/
def dialledRecall : Entry := { kind := .recall, origin := .dialled, owner := none }

/-- A flash: a DIALLED RECALL is handed over and a FLASH record is written (R44, R57). -/
def flash (n : LineNo) (breakMs : Nat) (s : State) : State :=
  let (s1, lost) := handOver n dialledRecall (abandonTrain n s)
  capture .flash n (flashBody breakMs lost) s1

/-- A long break mutilates the train (R45, R56). -/
def longBreak (n : LineNo) (s : State) : State :=
  abandonTrain n (capture .mutilated n (mutilatedBody .longBreak (s.line n).decoder.pulses) s)

/-! ### Pulses and train ends -/

/-- The period tally with one more full period; n stops at 254 (R51). -/
def Decoder.addPeriod (d : Decoder) (period make : Nat) : Decoder :=
  { d with
    periods := d.periods + 1, periodSum := d.periodSum + period, makeSum := d.makeSum + make }

/-- A counted pulse completes the full period from the counted break before it (R51). -/
def completePeriod (n : LineNo) (s : State) : State :=
  let d := (s.line n).decoder
  if 1 ≤ d.pulses ∧ d.periods < 254 then
    let period := since (d.breakStart.getD 0) (d.countedBreakStart.getD 0)
    let s1 := s.modDecoder n (·.addPeriod period (d.candidateMake.getD 0))
    match d.ctx with
    | some c => s1.modEstimator n (·.period period c)
    | none => s1
  else s

/-- The pending pulse is counted: the period it completes is handed on, and the first-digit timer stops
(R47, R51, R52). -/
def countPulse (n : LineNo) (s : State) : State :=
  (stopFirstDigit n (completePeriod n s)).modDecoder n fun d =>
    { d with
      pulsePending := false, pulses := saturate 255 d.pulses, countedBreakStart := d.breakStart,
      candidateMake := none }

/-- The digit that a map gives a pulse count (R54). -/
def mapDigit (m : DigitMap) (count : Nat) : Option Nat :=
  if count = 0 ∨ 10 < count then none
  else
    match m with
    | .direct => some (if count = 10 then 0 else count)
    | .offset => some (count - 1)
    | .inverse => some (if count = 10 then 0 else 10 - count)

/-- The entry a digit hands over. -/
def dialledTone (code : Nat) : Entry := { kind := .tone code, origin := .dialled, owner := none }

/-- A train ends as a valid digit: statistics and LEARN, DIAL-SPEED, the hand-over and the DIGIT record
(R53 to R55, R68). -/
def digitEnds (n : LineNo) (digit : Nat) (c : TrainContext) (s : State) : State :=
  let d := (s.line n).decoder
  let stats := trainStatistics d
  let off := offBand stats c
  let s1 := learnFromTrain n s
  let s2 := if off then reportDialSpeed n (meanPeriod d.periods d.periodSum) s1 else s1
  let s3 := s2.modLine n fun l => { l with digits := saturate 65535 l.digits, decoder := .atRest }
  let (s4, lost) := handOver n (dialledTone digit) s3
  let p16 := ((s2.line n).estimator.map (·.p16)).getD 0
  capture .digit n (digitBody digit d.pulses off d.hits lost p16 stats) s4

/-- The train ends: a digit, or a train mutilated as TOO-MANY (R53). -/
def endTrain (n : LineNo) (s : State) : State :=
  let d := (s.line n).decoder
  match d.ctx with
  | none => s
  | some c =>
    match mapDigit c.map d.pulses with
    | some digit => digitEnds n digit c s
    | none => abandonTrain n (capture .mutilated n (mutilatedBody .tooMany d.pulses) s)

/-! ### MAKE -/

/-- The test of MAKE: the confirmation test of a pending pulse, or the inter-digit test (R47, R49). -/
def makeTest (n : LineNo) (s : State) : Ticked :=
  let d := (s.line n).decoder
  let t := s.clock
  if d.pulsePending then
    if d.limit (·.makeMin) ≤ d.sinceMake t then noting .pulseCounted (countPulse n s) else quietly s
  else if d.limit (·.tId) ≤ d.sinceMake t then noting .trainEnd (endTrain n s)
  else quietly s

/-- A make too short to confirm its pulse is absorbed into the break (R48). -/
def absorbMake (n : LineNo) (s : State) : State :=
  (raiseHits n s).modDecoder n fun d =>
    { d with sub := .inBreak, pulsePending := false, makeStart := none, hits := true }

/-- The next break of the train begins (R50). -/
def nextBreak (n : LineNo) (stamp : Tick) (s : State) : State :=
  s.modDecoder n fun d =>
    { d with
      sub := .inBreak, breakStart := some stamp, candidateMake := some (d.sinceMake stamp) }

/-- A CLOSED edge ends a break, classified by its length and the pulse count (R42 to R46). -/
def breakEnds (n : LineNo) (stamp : Tick) (s : State) : Ticked :=
  let d := (s.line n).decoder
  let b := d.sinceBreak stamp
  if b < d.limit (·.breakMin) then
    if d.pulses = 0 then quietly (abandonTrain n (raiseHits n s))
    else makeTest n (hitInMake n s)
  else if b ≤ d.limit (·.breakMax) then makeTest n (candidatePulse n stamp s)
  else if b < d.limit (·.flashMax) then
    quietly (if d.pulses = 0 then flash n b s else longBreak n s)
  else noting .clear (startSeizing n stamp (clearCall n s))

/-- An OPEN edge in MAKE with the pulse counted begins the next break, or, when the make had reached T_id, ends
the train and starts a new one (R50). -/
def openInMake (n : LineNo) (stamp : Tick) (s : State) : Ticked :=
  let d := (s.line n).decoder
  if d.sinceMake stamp < d.limit (·.tId) then breakTest n (nextBreak n stamp s)
  else
    (noting .trainEnd (startTrain n stamp (endTrain n s))).andThen (breakTest n)

/-- One line tick of the decoder of an ACTIVE line: the edge is taken, and then the test of the sub-state is
made (R38). An edge that the sub-state cannot receive is no edge (R40). -/
def decodeTick (n : LineNo) (edge : Option Edge) (s : State) : Ticked :=
  let d := (s.line n).decoder
  match d.sub, edge with
  | .quiet, some { level := .opened, stamp } => breakTest n (startTrain n stamp s)
  | .quiet, _ => quietly s
  | .inBreak, some { level := .closed, stamp } => breakEnds n stamp s
  | .inBreak, _ => breakTest n s
  | .inMake, some { level := .opened, stamp } =>
    if d.pulsePending then
      if d.sinceMake stamp < d.limit (·.makeMin) then breakTest n (absorbMake n s)
      else (noting .pulseCounted (countPulse n s)).andThen (openInMake n stamp)
    else openInMake n stamp s
  | .inMake, _ => makeTest n s

end Sys2Proof.Machine
end

