-- ==== Sys2Proof/Machine/Supervisor.lean ====
section
/-! DEFINITION. The line supervisor: taking a line up and out of service, seizure, first-digit expiry and the
lockout return (01 R12, R14; 02). -/

namespace Sys2Proof.Machine

/-! ### Samples and debounce -/

/-- The level a sample shows under a polarity (R6). -/
def corrected (p : Polarity) (high : Bool) : Level :=
  match p with
  | .presentHigh => if high then .closed else .opened
  | .presentLow => if high then .opened else .closed

/-- The debounce of one corrected sample at tick `t` under the count D: the scan unit's items after it, and
the edge it accepts (R8, R9). -/
def debounce (d : Nat) (c : Level) (t : Tick) (sc : Scan) : Scan × Option Edge :=
  if c = sc.level then ({ sc with run := 0, candidate := none }, none)
  else
    let stamp := if sc.run = 0 then t else sc.candidate.getD t
    if d ≤ sc.run + 1 then
      ({ sc with level := c, run := 0, candidate := none, edgeStamp := stamp },
        some { level := c, stamp := stamp })
    else ({ sc with run := sc.run + 1, candidate := some stamp }, none)

/-! ### Into and out of service -/

/-- The line as an accepted OPEN takes it up, from its latest raw sample (R12, R19, R63). -/
def Line.opened (l : Line) (p : ProfileNo) (pol : Polarity) (a : AdoptedSet) (t : Tick) : Line :=
  let level := corrected pol l.raw
  { Line.outOfService l.raw with
    scan :=
      some { polarity := pol, level := level, run := 0, candidate := none, edgeStamp := t }
    mode := match level with | .opened => .idle | .closed => .lockout
    profile := some p
    estimator := some (.opened a) }

/-- An OPEN brings the line into service: IDLE, or LOCKOUT with its record when the loop is closed (R19). -/
def takeUp (n : LineNo) (p : ProfileNo) (pol : Polarity) (a : AdoptedSet) (s : State) : State :=
  let s1 := s.setLine n ((s.line n).opened p pol a s.clock)
  match corrected pol (s.line n).raw with
  | .opened => s1
  | .closed => capture .lockout n (lockoutBody .openedClosed) s1

/-- Words 0 to 11 of a line's image are written 0: the image of a line in OUT (R178; log 11). -/
def clearImage (n : LineNo) (s : State) : State :=
  s.pokes ((List.range 12).map fun i => (imageAddress n + i, 0))

/-- A CLOSE takes a line out of service: its ACCEPTED orders end CALL-ENDED, its queue is discarded, its
sender is released, and it holds nothing but its raw sample (R14, R33, R79, R119). -/
def takeOut (n : LineNo) (s : State) : State :=
  let s1 := discardQueue n (endLearn n .callEnded (fun _ => 0) s)
  clearImage n (releaseSender n (s1.setLine n (Line.outOfService (s1.line n).raw)))

/-! ### Seizure, expiry, lockout -/

/-- The call context of an adopted set (R23). -/
def callContext (a : AdoptedSet) : CallContext :=
  { discipline := a.discipline, gatherN := a.gatherN, gatherWait := a.gatherWait, cls := a.cls,
    reportSent := a.reportSent, flashOut := a.flashOut, recallGuard := a.recallGuard,
    senderWait := a.senderWait, generation := a.generation }

/-- The first-digit timer of a call: stopped when first_digit_wait is 0 (R25). -/
def firstDigitTimer (a : AdoptedSet) : Option Timer :=
  if a.firstDigitWait = 0 then none
  else some { count := 0, limit := a.firstDigitWait * 1000 }

/-- The line as a completed seizure makes it: the call context, the once-per-call items cleared, and the queue
unit as it is at the start of a call, empty with nothing in flight (R22 to R25, R99). -/
def Line.seized (l : Line) (a : AdoptedSet) : Line :=
  { l with
    mode := .active
    seizure := none
    decoder := .atRest
    hold := true
    call := some (callContext a)
    overflowReported := false
    dialSpeedReported := false
    hitCount := 0
    digits := 0
    firstDigit := firstDigitTimer a
    queue := .empty }

/-- A seizure completes, and a SEIZE record is written (R22). -/
def completeSeizure (n : LineNo) (s : State) : State :=
  match s.setInForce n with
  | some a =>
    capture .seize n (seizeBody a.cls a.generation) (s.modLine n fun l => l.seized a)
  | none => s

/-- The first-digit timer expires: LOCKOUT, PERMANENT-LOOP, and a LOCKOUT record (R26). -/
def expireFirstDigit (n : LineNo) (s : State) : State :=
  capture .lockout n (lockoutBody .firstDigit)
    (reportFault .permanentLoop n 0 (dropCall n .lockout s))

/-- An OPEN edge abandons a seizure (R21). -/
def abandonSeizure (n : LineNo) (s : State) : State :=
  s.modLine n fun l => { l with mode := .idle, seizure := none }

/-- A line tick in SEIZING (R21). -/
def seizingTick (n : LineNo) (edge : Option Edge) (s : State) : Ticked :=
  match (s.line n).seizure with
  | none => quietly s
  | some z =>
    match edge with
    | some { level := .opened, stamp } =>
      if since stamp z.start < z.seizeTime then quietly (abandonSeizure n s)
      else (noting .seizureComplete (completeSeizure n s)).andThen (decodeTick n edge)
    | _ =>
      if z.seizeTime ≤ since s.clock z.start then noting .seizureComplete (completeSeizure n s)
      else quietly s

/-- A line tick in LOCKOUT, after its edge: a loop open for flash_max of the set in force returns the line to
IDLE (R29). -/
def lockoutTick (n : LineNo) (s : State) : Ticked :=
  match (s.line n).scan, s.setInForce n with
  | some sc, some a =>
    if sc.level = .opened ∧ a.flashMax ≤ since s.clock sc.edgeStamp then
      noting .lockoutReturn (s.modLine n fun l => { l with mode := .idle })
    else quietly s
  | _, _ => quietly s

/-- What the supervisor and the decoder do at a line tick with the edge it delivers (R10, R20, R21, R29,
R38). -/
def superviseTick (n : LineNo) (edge : Option Edge) (s : State) : Ticked :=
  match (s.line n).mode, edge with
  | .out, _ => quietly s
  | .idle, some { level := .closed, stamp } => quietly (startSeizing n stamp s)
  | .idle, _ => quietly s
  | .seizing, e => seizingTick n e s
  | .active, e => decodeTick n e s
  | .lockout, _ => lockoutTick n s

end Sys2Proof.Machine
end

