-- ==== Sys2Proof/Machine/LineTick.lean ====
section
/-! DEFINITION. The line tick: sample, debounce, edge, decisions and timers of one line, whole (R7), and the
thirteen rows that are line ticks. A row that names a decision is the line tick in which that decision
is taken (log 4). -/

namespace Sys2Proof.Machine

/-! ### The timers -/

/-- A timer's count raised by one line tick. -/
def Timer.raise (t : Timer) : Timer := { t with count := t.count + 1 }

/-- A timer has reached its limit. -/
def Timer.expired (t : Timer) : Bool := decide (t.limit ≤ t.count)

/-- A request's counts raised by one line tick of its line: the wait count while SEND-HOLD is clear and it
has not expired, the age always (R136). -/
def Request.raise (r : Request) (sendHold : Bool) : Request :=
  { r with
    waitCount := if sendHold || r.expired then r.waitCount else r.waitCount + 1
    age := saturate 65535 r.age }

/-- The running timers of a line raised by one line tick: first-digit, gather wait and LEARN (R25, R74,
R103). -/
def Line.raiseTimers (l : Line) : Line :=
  { l with
    firstDigit := l.firstDigit.map Timer.raise
    queue := { l.queue with gatherTimer := l.queue.gatherTimer.map Timer.raise }
    estimator := l.estimator.map fun e =>
      { e with learn := e.learn.map fun x => { x with timer := x.timer.raise } } }

/-- Every running timer of the line counts this line tick. It is tested after the edge and the verdicts of
the line tick, and one that they start, restart, stop or drop does not count it (R25, R74, R103, R136). -/
def raiseTimers (n : LineNo) (s : State) : State :=
  (s.modLine n Line.raiseTimers).setWaitList
    (s.waitList.map fun r => if r.line = n then r.raise s.sendHold else r)

/-- The first-digit timer has expired (R25). -/
def firstDigitDue (n : LineNo) (s : State) : Bool :=
  decide ((s.line n).mode = .active) && ((s.line n).firstDigit.map Timer.expired).getD false

/-- The learn timer has expired (R74). -/
def learnDue (n : LineNo) (s : State) : Bool :=
  ((s.line n).learnPending.map fun x => x.timer.expired).getD false

/-- First-digit expiry, if due. -/
def firstDigitTest (n : LineNo) (s : State) : Ticked :=
  if firstDigitDue n s then noting .firstDigitExpiry (expireFirstDigit n s) else quietly s

/-- The LEARN completes NOT-LEARNED with the passed-over count, if its timer has expired (R74). -/
def learnTest (n : LineNo) (s : State) : Ticked :=
  if learnDue n s then noting .learnExpiry (endLearn n .notLearned (·.passedOver) s) else quietly s

/-- The gather is satisfied by time, if its timer has expired (R103). -/
def gatherTest (n : LineNo) (s : State) : Ticked :=
  if decide ((s.line n).mode = .active) && ((s.line n).queue.gatherTimer.map Timer.expired).getD false
  then noting .gatherWaitExpiry (satisfyGather n s)
  else quietly s

/-- The entry executed by the queue unit has finished: the execution state becomes none, the finish is taken,
and the head is examined (R110, R111). -/
def executionFinished (n : LineNo) (s : State) : State :=
  examineHead n (finishFlight n (s.modQueue n fun q => { q with execution := .none }))

/-- The recall guard's test (R110). -/
def guardTest (n : LineNo) (start : Tick) (s : State) : Ticked :=
  if ((s.line n).call.map (·.recallGuard)).getD 0 ≤ since s.clock start then
    noting .recallFinished (executionFinished n s)
  else quietly s

/-- The recall break ends: HOLD goes back on and the guard begins at this tick (R110). -/
def endRecallBreak (n : LineNo) (s : State) : State :=
  s.modLine n fun l =>
    { l with hold := true, queue := { l.queue with execution := .recallGuard s.clock } }

/-- The length of the PAUSE in flight. -/
def Line.pauseLength (l : Line) : Nat :=
  match l.queue.flight with
  | some { entry := { kind := .pause ms, .. }, .. } => ms
  | _ => 0

/-- The tests of a RECALL or PAUSE in execution on an ACTIVE line (R97, R110, R111). A guard of 0 ends with
the break. -/
def executionTest (n : LineNo) (s : State) : Ticked :=
  if (s.line n).mode ≠ .active then quietly s
  else match (s.line n).queue.execution with
  | .none => quietly s
  | .recallBreak start =>
    if ((s.line n).call.map (·.flashOut)).getD 0 ≤ since s.clock start then
      (noting .recallBreakEnd (endRecallBreak n s)).andThen (guardTest n s.clock)
    else quietly s
  | .recallGuard start => guardTest n start s
  | .pause start =>
    if (s.line n).pauseLength ≤ since s.clock start then
      noting .pauseFinished (executionFinished n s)
    else quietly s

/-- The line's request. -/
def State.request (s : State) (n : LineNo) : Option Request := s.waitList.find? fun r => r.line == n

/-- The request's wait timer has expired and SENDER-WAIT has not been reported for it (R136). -/
def Request.waitDue (r : Request) : Bool := !r.expired && decide (r.senderWait ≤ r.waitCount)

/-- SENDER-WAIT is reported with the request's age, and the expired flag is set (R136, R137). -/
def expireWait (n : LineNo) (r : Request) (s : State) : State :=
  (reportFault .senderWait n r.age s).setWaitList
    (s.waitList.map fun x => if x.line = n then { x with expired := true } else x)

/-- The test of the request's wait timer (R137). -/
def waitTest (n : LineNo) (s : State) : Ticked :=
  match s.request n with
  | some r => if r.waitDue then noting .senderWait (expireWait n r s) else quietly s
  | none => quietly s

/-- First-digit and LEARN expiry of one line tick. Where both fall together the spec does not order them, and
the order is a free value (log 9). -/
def expiryTests (n : LineNo) (s : State) : Ticked :=
  if firstDigitDue n s && learnDue n s && Config.learnExpiryFirst n s.clock then
    (learnTest n s).andThen (firstDigitTest n)
  else (firstDigitTest n s).andThen (learnTest n)

/-- The timers' tests, after the edge and the verdicts of the line tick (R25, R74, R103, R110, R111,
R136). -/
def timerTests (n : LineNo) (s : State) : Ticked :=
  (((expiryTests n s).andThen (gatherTest n)).andThen (executionTest n)).andThen (waitTest n)

/-! ### The line tick -/

/-- The group of a line (R4). -/
def lineGroup (n : LineNo) : Fin 12 := ⟨n.val / 8, by have := n.isLt; omega⟩

/-- The select phase of a line (R4). -/
def linePhase (n : LineNo) : Fin 8 := ⟨n.val % 8, by omega⟩

/-- The line's sample is still to be taken in the phase in progress (R5, R7; log 5). -/
def lineTickDue (n : LineNo) (s : State) : Bool :=
  s.ready && !s.timeBase.begun && decide (s.timeBase.frameIndex = linePhase n) &&
    !s.scanBus.sampled[lineGroup n]

/-- The sample: the raw sample is replaced (R5), and for a line in service it is debounced (R8). -/
def takeSample (n : LineNo) (high : Bool) (s : State) : State × Option Edge :=
  let s1 := s.setScanBus { s.scanBus with sampled := s.scanBus.sampled.set (lineGroup n) true }
  let l := s.line n
  match l.scan with
  | none => (s1.setLine n { l with raw := high }, none)
  | some sc =>
    let d := ((s.setInForce n).map (·.debounce)).getD 0
    let (sc', edge) := debounce d (corrected sc.polarity high) s.clock sc
    (s1.setLine n { l with raw := high, scan := some sc' }, edge)

/-- The effects of a line tick, with the decisions taken in it (R7). -/
def lineTickEffects (n : LineNo) (high : Bool) (s : State) : Ticked :=
  let (s1, edge) := takeSample n high s
  (superviseTick n edge (raiseTimers n s1)).andThen (timerTests n)

/-- One whole line tick as an event of the part. -/
def lineTick (n : LineNo) (high : Bool) (s : State) : State :=
  event (fun s => (lineTickEffects n high s).state) s

/-- The line tick now due, with this sample, holds the decision. -/
def tickHolds (e : TickEvent) (n : LineNo) (high : Bool) (s : State) : Bool :=
  lineTickDue n s && (lineTickEffects n high s).events.contains e

/-- The line tick in which a decision is taken. -/
def tickWith (e : TickEvent) (n : LineNo) (high : Bool) (s : State) :
    Host.Outcome State Fault Refusal :=
  occurs (tickHolds e n high s) (lineTick n high s) s

/-! ### The rows -/

/-- LINE_TICK (R7). -/
def execLineTick (n : LineNo) (high : Bool) (s : State) : Host.Outcome State Fault Refusal :=
  occurs (lineTickDue n s) (lineTick n high s) s

/-- SEIZURE_COMPLETE (R22). -/
def execSeizureComplete (n : LineNo) (high : Bool) (s : State) : Host.Outcome State Fault Refusal :=
  tickWith .seizureComplete n high s

/-- FIRST_DIGIT_EXPIRY (R26). -/
def execFirstDigitExpiry (n : LineNo) (high : Bool) (s : State) : Host.Outcome State Fault Refusal :=
  tickWith .firstDigitExpiry n high s

/-- LOCKOUT_RETURN (R29). -/
def execLockoutReturn (n : LineNo) (high : Bool) (s : State) : Host.Outcome State Fault Refusal :=
  tickWith .lockoutReturn n high s

/-- CLEAR (R27). -/
def execClear (n : LineNo) (high : Bool) (s : State) : Host.Outcome State Fault Refusal :=
  tickWith .clear n high s

/-- PULSE_COUNTED (R47). -/
def execPulseCounted (n : LineNo) (high : Bool) (s : State) : Host.Outcome State Fault Refusal :=
  tickWith .pulseCounted n high s

/-- TRAIN_END (R53). -/
def execTrainEnd (n : LineNo) (high : Bool) (s : State) : Host.Outcome State Fault Refusal :=
  tickWith .trainEnd n high s

/-- GATHER_WAIT_EXPIRY (R103). -/
def execGatherWaitExpiry (n : LineNo) (high : Bool) (s : State) : Host.Outcome State Fault Refusal :=
  tickWith .gatherWaitExpiry n high s

/-- RECALL_BREAK_END (R110). -/
def execRecallBreakEnd (n : LineNo) (high : Bool) (s : State) : Host.Outcome State Fault Refusal :=
  tickWith .recallBreakEnd n high s

/-- RECALL_FINISHED (R110). -/
def execRecallFinished (n : LineNo) (high : Bool) (s : State) : Host.Outcome State Fault Refusal :=
  tickWith .recallFinished n high s

/-- PAUSE_FINISHED (R111). -/
def execPauseFinished (n : LineNo) (high : Bool) (s : State) : Host.Outcome State Fault Refusal :=
  tickWith .pauseFinished n high s

/-- SENDER_WAIT (R137). -/
def execSenderWait (n : LineNo) (high : Bool) (s : State) : Host.Outcome State Fault Refusal :=
  tickWith .senderWait n high s

/-- LEARN_EXPIRY (R74). -/
def execLearnExpiry (n : LineNo) (high : Bool) (s : State) : Host.Outcome State Fault Refusal :=
  tickWith .learnExpiry n high s

end Sys2Proof.Machine
end

