-- ==== Sys2Proof/Machine/Profiles.lean ====
section
/-! DEFINITION. The profile unit: the checks of an ADOPT, the derived values, and the adopted sets (05, R81 to
R95). -/

namespace Sys2Proof.Machine

/-- The accepted values of the 23 raw fields, by word index (R82). -/
def fieldRanges : List (Nat × Nat) :=
  [(0, 1), (0, 2), (0, 2), (0, 1), (0, 1), (1, 15), (1, 24), (500, 20000), (20, 500), (5, 60),
   (60, 200), (5, 60), (150, 1500), (50, 200), (50, 200), (50, 200), (12, 40), (100, 800),
   (100, 1500), (0, 60), (100, 10000), (50, 1000), (0, 2000)]

/-- The 23 raw words of a profile, as an ADOPT reads them, in one step (R83; DESIGN CHOICE, log 24). -/
def rawFields (s : State) (p : ProfileNo) : List Nat :=
  (List.range 23).map fun i => (s.peek (profileAddress p + i)).toNat

/-- The word index of the first field outside its accepted values (R84). -/
def firstOutOfRange (raw : List Nat) : Option Nat :=
  (raw.zip fieldRanges).findIdx? fun (v, low, high) => decide (v < low) || decide (high < v)

/-- P_from: a speed in pps10 as a period in sixteenths of a millisecond, rounded half up (R86). -/
def periodFrom (v : Nat) : Nat := (160000 + v / 2) / v

/-- The digit map a raw field names (R82). -/
def mapOf (v : Nat) : DigitMap := if v = 0 then .direct else if v = 1 then .offset else .inverse

/-- The discipline a raw field names (R82). -/
def disciplineOf (v : Nat) : Discipline :=
  if v = 0 then .immediate else if v = 1 then .gather else .held

/-- The adopted set of raw fields and a generation (R81, R86). -/
def adoptedSet (raw : List Nat) (generation : Nat) : AdoptedSet :=
  let f (i : Nat) : Nat := raw.getD i 0
  { mode := if f 0 = 0 then .fixed else .tracking
    map := mapOf (f 1)
    discipline := disciplineOf (f 2)
    cls := if f 3 = 0 then .a else .b
    reportSent := f 4 == 1
    debounce := f 5
    gatherN := f 6
    gatherWait := f 7
    seizeTime := f 8
    breakMin := f 9
    breakMax := f 10
    makeMin := f 11
    flashMax := f 12
    nominal := f 13
    bandLow := f 14
    bandHigh := f 15
    gapFactor := f 16
    gapMin := f 17
    gapMax := f 18
    firstDigitWait := f 19
    senderWait := f 20
    flashOut := f 21
    recallGuard := f 22
    pNom16 := periodFrom (f 13)
    pLo16 := periodFrom (f 15)
    pHi16 := periodFrom (f 14)
    generation := generation }

/-- The number of the first relation that does not hold (R85). -/
def brokenRelation (a : AdoptedSet) : Option Nat :=
  if ¬(a.breakMin < a.breakMax ∧ a.breakMax < a.flashMax) then some 1
  else if ¬(a.makeMin < a.gapMin ∧ a.gapMin ≤ a.gapMax) then some 2
  else if ¬(a.bandLow ≤ a.nominal ∧ a.nominal ≤ a.bandHigh) then some 3
  else none

/-- The refusal of an ADOPT's raw fields: the range check, and then the relations (R83 to R85). -/
def profileRefusal (raw : List Nat) : Option (ResultCode × Nat) :=
  match firstOutOfRange raw with
  | some i => some (.fieldRange, i)
  | none => (brokenRelation (adoptedSet raw 0)).map fun r => (.relation, r)

/-- The generation after one: from 255 the counter goes to 1 (R87). -/
def nextGeneration (g : Nat) : Nat := if g = 255 then 1 else g + 1

/-- The values of a profile's status word (R89). -/
inductive ProfileStatus where
  | never
  | adopted
  | rejected
  | rejectedKeeping
  deriving DecidableEq, Repr

/-- The status word of a profile (R89). -/
def statusValue : ProfileStatus → Word
  | .never => 0
  | .adopted => 1
  | .rejected => 2
  | .rejectedKeeping => 3

/-- Writes the derived words of a profile record, the status word last (R87, R88, R183). -/
def writeDerived (p : ProfileNo) (a : Option AdoptedSet) (reason : Word) (st : ProfileStatus)
    (s : State) : State :=
  let value (f : AdoptedSet → Nat) : Word := asWord ((a.map f).getD 0)
  let base := profileAddress p
  s.pokes
    [ (base + 24, value (·.pNom16)), (base + 25, value (·.pLo16)), (base + 26, value (·.pHi16)),
      (base + 27, value (·.generation)), (base + 29, reason), (base + 28, statusValue st) ]

/-- A successful ADOPT: a new generation, a new adopted set and the derived words (R87). -/
def adoptSet (p : ProfileNo) (raw : List Nat) (s : State) : State :=
  let g := nextGeneration (s.profile p).generation
  let a := adoptedSet raw g
  writeDerived p (some a) 0 .adopted (s.setProfile p { adopted := some a, generation := g })

/-- A failed ADOPT: the set in force stays, and the derived words show it and the reason (R88). -/
def rejectSet (p : ProfileNo) (code : ResultCode) (detail : Nat) (s : State) : State :=
  let kept := (s.profile p).adopted
  writeDerived p kept (resultWord code detail)
    (if kept.isSome then .rejectedKeeping else .rejected) s

/-- At a soft reset every adopted set is dropped and every status word is written 0; the generation counters
are kept (R94). -/
def dropProfiles (s : State) : State :=
  ({ s with profiles := s.profiles.map fun x => { x with adopted := none } } : State).pokes
    ((List.finRange 8).map fun p => (profileAddress p + 28, statusValue .never))

end Sys2Proof.Machine
end

