-- ==== Sys2Proof/Machine/Orders.lean ====
section
/-! DEFINITION. The nine kinds of order, WITHDRAW, the examination of a slot, and the sweep (09; 02 R18, R33; 04
R73; 05 R83; 06 R112 to R118). The rows SWEEP, OPEN to MARK, UNKNOWN_KIND and WITHDRAW. -/

namespace Sys2Proof.Machine

/-! ### Common checks -/

/-- The order names a line that the line check accepts, or it is refused LINE-RANGE (R159). -/
def withLine (slot : SlotNo) (c : OrderCopy) (f : LineNo → State → State) (s : State) : State :=
  match c.line? with
  | some n => f n s
  | none => refuse slot .lineRange 0 s

/-- No other LEARN, RELEASE or INJECT of the line is ACCEPTED, or the order is refused LINE-BUSY with the
slot that holds the line (R159). -/
def ifLineFree (slot : SlotNo) (n : LineNo) (f : State → State) (s : State) : State :=
  match lineHolder s n with
  | some holder => refuse slot .lineBusy holder.val s
  | none => f s

/-! ### OPEN, CLOSE, ADOPT -/

/-- OPEN (R18, R19): the line must be OUT, the profile in force and the polarity named. -/
def openOrder (slot : SlotNo) (c : OrderCopy) (s : State) : State :=
  withLine slot c (fun n s =>
    if (s.line n).mode ≠ .out then refuse slot .lineState 0 s
    else
      match c.openProfile?.bind fun p => ((s.profile p).adopted.map fun a => (p, a)) with
      | none => refuse slot .profileNotInForce 0 s
      | some (p, a) =>
        match c.polarity? with
        | none => refuse slot .badParameter 0 s
        | some pol => finishNow slot .ok a.generation (takeUp n p pol a s)) s

/-- CLOSE (R33): the line must be in service; the detail is the number of entries discarded. -/
def closeOrder (slot : SlotNo) (c : OrderCopy) (s : State) : State :=
  withLine slot c (fun n s =>
    if (s.line n).mode = .out then refuse slot .lineState 0 s
    else finishNow slot .ok (s.line n).queue.discardCount (takeOut n s)) s

/-- ADOPT (R83 to R88). -/
def adoptOrder (slot : SlotNo) (c : OrderCopy) (s : State) : State :=
  match c.profile? with
  | none => refuse slot .lineRange 0 s
  | some p =>
    let raw := rawFields s p
    match profileRefusal raw with
    | some (code, detail) => refuse slot code detail (rejectSet p code detail s)
    | none => finishNow slot .ok (nextGeneration (s.profile p).generation) (adoptSet p raw s)

/-! ### LEARN, RELEASE, INJECT -/

/-- A LEARN is taken up by the line's estimator (R73). -/
def startLearn (slot : SlotNo) (n : LineNo) (s : State) : State :=
  s.modEstimator n fun e =>
    { e with
      learnMark := false
      learn := some
        { slot := slot, timer := { count := 0, limit := learnWindow }, passedOver := 0 } }

/-- LEARN (R73). -/
def learnOrder (slot : SlotNo) (c : OrderCopy) (s : State) : State :=
  withLine slot c (fun n =>
    ifLineFree slot n fun s =>
      if (s.line n).mode = .out then refuse slot .lineState 0 s
      else startLearn slot n (accept slot .learn (some n) c s)) s

/-- The credit a RELEASE gives: the smaller of n and the DIALLED entries queued (R112). -/
def releaseCredit (n : Nat) (q : QueueUnit) : Nat := min n q.dialledCount

/-- RELEASE (R112): at credit 0 it completes at once, else it is ACCEPTED and the head is examined. -/
def releaseOrder (slot : SlotNo) (c : OrderCopy) (s : State) : State :=
  withLine slot c (fun n =>
    ifLineFree slot n fun s =>
      if (s.line n).mode ≠ .active then refuse slot .lineState 0 s
      else if c.p0.toNat < 1 ∨ 24 < c.p0.toNat then refuse slot .badParameter 0 s
      else if (s.line n).discipline ≠ .held then refuse slot .discipline 0 s
      else
        let credit := releaseCredit c.p0.toNat (s.line n).queue
        if credit = 0 then finishNow slot .ok 0 (s.modQueue n fun q => { q with credit := 0 })
        else
          examineHead n
            ((accept slot .release (some n) c s).modQueue n fun q =>
              { q with credit := credit, order := some (.release slot 0 false) })) s

/-- An accepted INJECT: the whole string is appended as ORDERED entries, the first-digit timer stops, and the
head is examined (R25, R114). -/
def injectEntries (slot : SlotNo) (n : LineNo) (c : OrderCopy) (s : State) : State :=
  let new := c.injectCodes.map (injectEntry slot c.injectPause)
  examineHead n
    ((stopFirstDigit n s).modQueue n fun q =>
      { q with entries := q.entries ++ new, order := some (.inject slot 0 c.injectCount) })

/-- INJECT (R114). -/
def injectOrder (slot : SlotNo) (c : OrderCopy) (s : State) : State :=
  withLine slot c (fun n =>
    ifLineFree slot n fun s =>
      let room := queueRoom - (s.line n).queue.entries.length
      if (s.line n).mode ≠ .active then refuse slot .lineState 0 s
      else if c.injectCount < 1 ∨ 12 < c.injectCount then refuse slot .badParameter 0 s
      else
        match badCodePosition c.injectCodes with
        | some position => refuse slot .badParameter position s
        | none =>
          if room < c.injectCount then refuse slot .noRoom room s
          else injectEntries slot n c (accept slot .inject (some n) c s)) s

/-! ### FLUSH, PEEK, MARK -/

/-- A FLUSH discards the held queue, zeroes the credit, cancels the RELEASE or INJECT, and withdraws the
request; the entry in flight and the gather stay (R117). -/
def flushQueue (n : LineNo) (s : State) : State :=
  (endQueueOrder n .cancelled (withdrawRequest n s)).modQueue n fun q =>
    { q with entries := [], credit := 0 }

/-- FLUSH (R117). -/
def flushOrder (slot : SlotNo) (c : OrderCopy) (s : State) : State :=
  withLine slot c (fun n s =>
    if (s.line n).mode = .out then refuse slot .lineState 0 s
    else finishNow slot .ok (s.line n).queue.entries.length (flushQueue n s)) s

/-- The entry words of a PEEK: the entry in flight first, then the queue, head first (R118). -/
def peekWords (q : QueueUnit) : List Word :=
  ((q.flight.map fun f => peekWord true f.entry).toList) ++ q.entries.map (peekWord false)

/-- PEEK (R118). -/
def peekOrder (slot : SlotNo) (c : OrderCopy) (s : State) : State :=
  withLine slot c (fun n s =>
    if (s.line n).mode = .out then refuse slot .lineState 0 s
    else if inHostArea c.p0 25 then
      let ws := peekWords (s.line n).queue
      finishNow slot .ok ws.length
        (s.pokes ((asWord ws.length :: ws).zipIdx.map fun (w, i) => (c.p0.toNat + i, w)))
    else refuse slot .badTarget 0 s) s

/-- MARK (R163). -/
def markOrder (slot : SlotNo) (c : OrderCopy) (s : State) : State :=
  if !inHostArea c.p0 0 then refuse slot .badTarget 0 s
  else if c.p2 ≠ 0 ∧ c.p2 ≠ 1 then refuse slot .badParameter 0 s
  else if s.board.accepted.length = 0 then markDone slot c 0 s
  else accept slot .mark none c s

/-- A posted order whose kind is none of the nine (R159). -/
def unknownOrder (slot : SlotNo) (s : State) : State := refuse slot .unknownKind 0 s

/-! ### WITHDRAW -/

/-- The held order of a slot is withdrawn through its owner and completes CANCELLED (R77, R116, R162). -/
def withdrawOrder (slot : SlotNo) (s : State) : State :=
  match s.board.accepted.find? fun o => o.slot == slot with
  | none => s
  | some o =>
    match o.kind, o.line with
    | .learn, some n => endLearn n .cancelled (·.passedOver) s
    | .release, some n =>
      examineHead n (endQueueOrder n .cancelled (s.modQueue n fun q => { q with credit := 0 }))
    | .inject, some n =>
      examineHead n (endQueueOrder n .cancelled (s.modQueue n (·.dropOwned slot)))
    | .mark, _ => completeOrder slot .cancelled 0 s
    | _, none => s

/-! ### The examination and the sweep -/

/-- The examination of a posted order, by its kind (R158, R159). -/
def postedOrder (slot : SlotNo) (s : State) : State :=
  let c := s.orderCopy slot
  match c.kind with
  | 1 => openOrder slot c s
  | 2 => closeOrder slot c s
  | 3 => adoptOrder slot c s
  | 4 => learnOrder slot c s
  | 5 => releaseOrder slot c s
  | 6 => injectOrder slot c s
  | 7 => flushOrder slot c s
  | 8 => peekOrder slot c s
  | 9 => markOrder slot c s
  | _ => unknownOrder slot s

/-- The slot holds a posted order and is not held (R157). -/
def slotIsPosted (slot : SlotNo) (s : State) : Bool :=
  !s.slotHeld slot && s.slotState slot == slotPosted

/-- The slot is held and WITHDRAW stands in it (R157). -/
def slotIsWithdrawn (slot : SlotNo) (s : State) : Bool :=
  s.slotHeld slot && s.slotState slot == slotWithdraw

/-- The examination of the slot acts (R157). -/
def slotActs (slot : SlotNo) (s : State) : Bool := slotIsPosted slot s || slotIsWithdrawn slot s

/-- The examination of one slot (R157). -/
def examineSlot (slot : SlotNo) (s : State) : State :=
  if slotIsPosted slot s then postedOrder slot s
  else if slotIsWithdrawn slot s then withdrawOrder slot s
  else s

/-- The sweep under way has come to this slot: no slot before it, from the sweep's next one on, acts. -/
def sweepReaches (slot : SlotNo) (s : State) : Bool :=
  match s.board.sweepAt with
  | none => false
  | some k =>
    s.ready && decide (k ≤ slot.val) &&
      (List.finRange 16).all fun j => !(decide (k ≤ j.val) && decide (j.val < slot.val) && slotActs j s)

/-- The sweep goes on behind a slot, and ends behind slot 15 (R156). -/
def sweepPast (slot : SlotNo) (s : State) : State :=
  if slot.val = 15 then event endSweep s
  else s.setSweep (some (slot.val + 1)) s.board.sweepHeld

/-- The sweep under way has come to a slot in which an order of this kind is posted. -/
def orderDue (kind : Nat) (slot : SlotNo) (s : State) : Bool :=
  sweepReaches slot s && slotIsPosted slot s && (s.orderCopy slot).kind == kind

/-- The examination of one slot by the sweep under way, with the effect `f` of what stands in it. -/
def examined (slot : SlotNo) (f : State → State) (s : State) : State := sweepPast slot (event f s)

/-- The sweep under way takes the slot it stands at: an examination that acts is an event of its own, and a
slot in which nothing acts is passed (R156, R157). -/
def sweepOne (slot : SlotNo) (s : State) : State :=
  if slotActs slot s then examined slot (examineSlot slot) s else sweepPast slot s

/-- The sweep under way goes on from slot `k` to its end, in ascending order (R156). -/
def sweepThrough (k : Nat) (s : State) : State :=
  (List.finRange 16).foldl (fun s j => if k ≤ j.val then sweepOne j s else s) s

/-- An order row is the examination of its slot by the sweep under way: where the sweep has come to the order
that the row names (`due`), with the effect `f`; where nothing acts, the slot is left alone and the sweep
passes it (R157; log 8). -/
def examination (slot : SlotNo) (due : Bool) (f : State → State) (s : State) :
    Host.Outcome State Fault Refusal :=
  if due then .next (examined slot f s)
  else occurs (sweepReaches slot s && !slotActs slot s) (sweepPast slot s) s

/-! ### The rows -/

/-- SWEEP (R156): the sweep under way examines the slots it has left, one after another; behind slot 15 it
re-checks a pending capture loss and ends. -/
def execSweep (s : State) : Host.Outcome State Fault Refusal :=
  match s.board.sweepAt with
  | none => .next s
  | some k => occurs s.ready (sweepThrough k s) s

/-- OPEN (R18). -/
def execOpen (slot : SlotNo) (s : State) : Host.Outcome State Fault Refusal :=
  examination slot (orderDue 1 slot s) (openOrder slot (s.orderCopy slot)) s

/-- CLOSE (R33). -/
def execClose (slot : SlotNo) (s : State) : Host.Outcome State Fault Refusal :=
  examination slot (orderDue 2 slot s) (closeOrder slot (s.orderCopy slot)) s

/-- ADOPT (R83). -/
def execAdopt (slot : SlotNo) (s : State) : Host.Outcome State Fault Refusal :=
  examination slot (orderDue 3 slot s) (adoptOrder slot (s.orderCopy slot)) s

/-- LEARN (R73). -/
def execLearn (slot : SlotNo) (s : State) : Host.Outcome State Fault Refusal :=
  examination slot (orderDue 4 slot s) (learnOrder slot (s.orderCopy slot)) s

/-- RELEASE (R112). -/
def execRelease (slot : SlotNo) (s : State) : Host.Outcome State Fault Refusal :=
  examination slot (orderDue 5 slot s) (releaseOrder slot (s.orderCopy slot)) s

/-- INJECT (R114). -/
def execInject (slot : SlotNo) (s : State) : Host.Outcome State Fault Refusal :=
  examination slot (orderDue 6 slot s) (injectOrder slot (s.orderCopy slot)) s

/-- FLUSH (R117). -/
def execFlush (slot : SlotNo) (s : State) : Host.Outcome State Fault Refusal :=
  examination slot (orderDue 7 slot s) (flushOrder slot (s.orderCopy slot)) s

/-- PEEK (R118). -/
def execPeek (slot : SlotNo) (s : State) : Host.Outcome State Fault Refusal :=
  examination slot (orderDue 8 slot s) (peekOrder slot (s.orderCopy slot)) s

/-- MARK (R163). -/
def execMark (slot : SlotNo) (s : State) : Host.Outcome State Fault Refusal :=
  examination slot (orderDue 9 slot s) (markOrder slot (s.orderCopy slot)) s

/-- UNKNOWN_KIND (R159). -/
def execUnknownKind (slot : SlotNo) (s : State) : Host.Outcome State Fault Refusal :=
  examination slot
    (sweepReaches slot s && slotIsPosted slot s &&
      (decide ((s.orderCopy slot).kind = 0) || decide (9 < (s.orderCopy slot).kind)))
    (unknownOrder slot) s

/-- WITHDRAW (R162). -/
def execWithdraw (slot : SlotNo) (s : State) : Host.Outcome State Fault Refusal :=
  examination slot (sweepReaches slot s && slotIsWithdrawn slot s) (withdrawOrder slot) s

end Sys2Proof.Machine
end

