-- ==== Sys2Proof/Machine/TimeBase.lean ====
section
/-! DEFINITION. The time base, the scan bus outputs and the tone highway: the rows TICK_BOUNDARY and
FRAME_BOUNDARY (01 R1 to R4, R13; 08 R151, R152; 09 R156; 10 R169). -/

namespace Sys2Proof.Machine

/-! ### The tick part of a boundary -/

/-- The boundary that ends the frame in progress is a tick boundary, and its tick part is still to be taken
(R1). -/
def tickDue (s : State) : Bool :=
  decide (s.timeBase.frameIndex = 7) && !s.timeBase.tickTaken

/-- The tick part of a boundary: CLOCK goes up by 1, a sweep is requested when it becomes even, and the
filling page's age rises (R2, R156, R169). -/
def takeTick (s : State) : State :=
  let t := s.timeBase
  let s1 := s.setTimeBase
    { t with clock := t.clock + 1, begun := true, tickTaken := true, ageDue := true }
  let s2 := if s1.clock.toNat % 2 = 0 then requestSweep s1 else s1
  raisePageAge s2

/-! ### The scan bus -/

/-- The line that group `g` serves in select phase `p` (R4). -/
def phaseLine (g : Fin 12) (p : Fin 8) : LineNo :=
  ⟨g.val * 8 + p.val, by have := g.isLt; have := p.isLt; omega⟩

/-- STB falls at the end of a phase: the shelf takes the presented levels of the twelve selected lines
(R3, R13; log 13). -/
def strobe (s : State) : State :=
  let b := s.scanBus
  let p := s.timeBase.frameIndex
  s.setScanBus
    { b with
      strobedHold := Vector.ofFn fun n =>
        if linePhase n = p then b.hldOut[lineGroup n] else b.strobedHold[n]
      strobedMute := Vector.ofFn fun n =>
        if linePhase n = p then b.mutOut[lineGroup n] else b.strobedMute[n] }

/-- A select phase starts: SEL takes the phase number, the latches of its twelve lines are presented, and
none of them has been sampled in it (R3, R13; log 7). -/
def startPhase (p : Fin 8) (s : State) : State :=
  (s.setTimeBase
    { s.timeBase with frameIndex := p, begun := false, tickTaken := false, ageDue := false }
  ).setScanBus
    { s.scanBus with
      hldOut := Vector.ofFn fun g => (s.line (phaseLine g p)).hold
      mutOut := Vector.ofFn fun g => (s.line (phaseLine g p)).mute
      sampled := Vector.replicate 12 false }

/-! ### The highway -/

/-- The content of a line's slot in the frame that begins: its bound sender's sample in TONE, and 0 in GAP,
without a sender, or for a line that is not ACTIVE (R152). -/
def slotSample (s : State) (n : LineNo) : BitVec 16 :=
  match (s.line n).mode with
  | .active => ((s.boundSender n).bind s.sender).elim 0 frameSample
  | .out | .idle | .seizing | .lockout => 0

/-- The frame content is settled for every slot (R152), and the accumulators of the senders in TONE advance
(R148). -/
def settleFrame (s : State) : State :=
  { s with
    highway := Vector.ofFn fun i => if h : i.val < 96 then slotSample s ⟨i.val, h⟩ else 0
    senders := s.senders.map fun b => b.map afterSample }

/-! ### The whole boundary -/

/-- The senders' part of a boundary, for the senders it has not been taken for: in ascending order (R127,
R152; log 6). -/
def sendersBoundary (s : State) : State :=
  (List.finRange 12).foldl (fun s k => senderBoundary k s) s

/-- A frame boundary: what is left of it to take, in the order tick, page age, senders; then the strobe, the
next phase and the content of the next frame (R1, R3, R152; log 6). -/
def frameBoundary (s : State) : State :=
  let s1 := if tickDue s then takeTick s else s
  let s2 := if ageCloseDue s1 then event takeAgeClose s1 else s1
  let s3 := sendersBoundary s2
  settleFrame (startPhase (s3.timeBase.frameIndex + 1) (strobe s3))

/-! ### Output pins -/

/-- SEL0 to SEL2 as a number (R3, R16). -/
def State.sel (s : State) : Nat := s.timeBase.frameIndex.val

/-- HWS in a bit period of the frame in progress: high in bit period 0; not pulsed while store initialisation
runs (R151, R153). -/
def State.hws (s : State) (bitPeriod : Fin 2048) : Bool := s.ready && decide (bitPeriod.val = 0)

/-- HWD in a bit period of the frame in progress: slot n in bit periods 16n to 16n + 15, most significant bit
first; low while store initialisation runs (R151, R153). -/
def State.hwd (s : State) (bitPeriod : Fin 2048) : Bool :=
  s.ready &&
    (s.highway[bitPeriod.val / 16]'(by have := bitPeriod.isLt; omega)).getLsbD
      (15 - bitPeriod.val % 16)

/-! ### The rows -/

/-- TICK_BOUNDARY (R2): the tick part of the boundary now falling, at which the frame index returns from 7 to
0. -/
def execTickBoundary (s : State) : Host.Outcome State Fault Refusal :=
  occurs (s.ready && tickDue s) (takeTick s) s

/-- FRAME_BOUNDARY (R152). -/
def execFrameBoundary (s : State) : Host.Outcome State Fault Refusal :=
  occurs s.ready (frameBoundary s) s

end Sys2Proof.Machine
end

