-- ==== Sys2Proof/Machine/Registers.lean ====
section
/-! DEFINITION. The host port: store and register accesses, SEND-HOLD, soft reset, pin reset and store
initialisation (11 R177 to R182; 07 R134, R135; 01 R15, R16). -/

namespace Sys2Proof.Machine

/-! ### SEND-HOLD -/

/-- Every line of the part examines its head, as at the clearing of SEND-HOLD (R105, R135). -/
def examineAll (s : State) : State := (List.finRange 96).foldl (fun s n => examineHead n s) s

/-- A CONTROL write with SOFT-RESET at 0 takes SEND-HOLD and the masks (R179). -/
def takeControl (v : Word) (s : State) : State :=
  s.setControl { sendHold := v.getLsbD 0, mask := causesOf v }

/-- What clearing SEND-HOLD starts: grants, and the RECALLs and PAUSEs that wait (R135). -/
def resumeSending (s : State) : State := examineAll (grantAll s)

/-! ### Soft reset -/

/-- Every line goes to OUT and keeps its raw sample (R15, R36, R79, R120). -/
def linesOut (s : State) : State :=
  { s with lines := s.lines.map fun l => Line.outOfService l.raw }

/-- Every sender is FREE and the wait list is empty; the header words are written (R140, R182). -/
def freePool (s : State) : State :=
  (({ s with senders := Vector.replicate 12 none, waitList := [] } : State).pokes
    ((List.range 12).map fun k => (senderStatusAddress k, 0xFFFF))).poke waitCountAddress 0

/-- The image of every line is written as OUT (R178, R182). -/
def clearImages (s : State) : State := (List.finRange 96).foldl (fun s n => clearImage n s) s

/-- Soft reset (R15, R36, R94, R120, R140, R164, R173, R182). The frame sequence, the frame in progress, the
presented levels, a sweep and its held request, CONTROL and the other causes go on (R1, R15, R153,
R164). -/
def softReset (s : State) : State :=
  let s1 := dropProfiles (clearImages (freePool (linesOut (refuseHeld s))))
  let s2 := closePage s1
  s2.setTimeBase { s2.timeBase with clock := 0 }

/-! ### The host port -/

/-- A write of CONTROL (R179, R182): a soft reset with bit 15 at 1, else SEND-HOLD and the masks are taken,
and a SEND-HOLD that goes off lets sending resume. -/
def writeControl (v : Word) (s : State) : State :=
  if v.getLsbD 15 then event softReset s
  else if s.sendHold && !v.getLsbD 0 then event (fun s => resumeSending (takeControl v s)) s
  else takeControl v s

/-- A write of STATUS: a 1 in bits 1 to 4 clears that cause (R179). -/
def writeStatus (v : Word) (s : State) : State := s.setCauses (causesCleared s.causes v)

/-- A host write of one word (R177, R179): the store below 1000h, the registers from there on. While store
initialisation runs every write is ignored (R181). -/
def hostWrite (address : Nat) (v : Word) (s : State) : State :=
  if !s.ready then s
  else if address < 0x1000 then s.poke address v
  else if address = 0x1001 then writeControl v s
  else if address = 0x1002 then writeStatus v s
  else if address = 0x1003 then requestSweep s
  else s

/-- A host read of one word (R177, R179); it changes nothing. While store initialisation runs the store,
STATUS, CONTROL and CLOCK read 0 (R181). -/
def hostRead (address : Nat) (s : State) : Word :=
  if address = 0x1000 then 0x960A
  else if !s.ready then 0
  else if address < 0x1000 then s.peek address
  else if address = 0x1001 then s.controlWord
  else if address = 0x1002 then s.statusWord
  else if address = 0x1004 then s.clock
  else 0

/-! ### Pin reset and store initialisation -/

/-- The part while store initialisation runs (R16, R153, R181): nothing is in service, the outputs are off,
the registers read 0. The commands waiting, the shelf's latches and the words of the store, which
cannot be read, stand (logs 13, 16). -/
def initialising (s : State) : State :=
  { State.reset with
    pending := s.pending
    ready := false
    scanBus :=
      { State.reset.scanBus with
        strobedHold := s.scanBus.strobedHold, strobedMute := s.scanBus.strobedMute }
    store := s.store }

/-- The part at the completion of store initialisation (R181). -/
def initialised (s : State) : State :=
  { State.reset with
    pending := s.pending
    scanBus :=
      { State.reset.scanBus with
        strobedHold := s.scanBus.strobedHold, strobedMute := s.scanBus.strobedMute } }

/-! ### The rows -/

/-- PIN_RESET (R181). -/
def execPinReset (s : State) : Host.Outcome State Fault Refusal := .next (initialising s)

/-- STORE_INITIALISATION_COMPLETE (R181). -/
def execStoreInitialisationComplete (s : State) : Host.Outcome State Fault Refusal :=
  occurs (!s.ready) (initialised s) s

/-- NUDGE (R156, R179). -/
def execNudge (v : Word) (s : State) : Host.Outcome State Fault Refusal :=
  .next (hostWrite 0x1003 v s)

/-- SEND_HOLD_SET (R134, R179). -/
def execSendHoldSet (v : Word) (s : State) : Host.Outcome State Fault Refusal :=
  .next (hostWrite 0x1001 v s)

/-- SEND_HOLD_CLEAR (R135, R179). -/
def execSendHoldClear (v : Word) (s : State) : Host.Outcome State Fault Refusal :=
  .next (hostWrite 0x1001 v s)

/-- CONTROL_MASK_WRITE (R179, R180). -/
def execControlMaskWrite (v : Word) (s : State) : Host.Outcome State Fault Refusal :=
  .next (hostWrite 0x1001 v s)

/-- SOFT_RESET (R182). -/
def execSoftReset (v : Word) (s : State) : Host.Outcome State Fault Refusal :=
  .next (hostWrite 0x1001 v s)

/-- STATUS_CLEAR (R179). -/
def execStatusClear (v : Word) (s : State) : Host.Outcome State Fault Refusal :=
  .next (hostWrite 0x1002 v s)

/-- REGISTER_WRITE_IGNORED (R179). -/
def execRegisterWriteIgnored (address : BitVec 13) (v : Word) (s : State) :
    Host.Outcome State Fault Refusal :=
  .next (hostWrite address.toNat v s)

/-- STORE_WRITE (R177). -/
def execStoreWrite (address : BitVec 12) (v : Word) (s : State) : Host.Outcome State Fault Refusal :=
  .next (hostWrite address.toNat v s)

end Sys2Proof.Machine
end

