-- ==== Sys2Proof/Machine/Dispatch.lean ====
section
/-! DEFINITION. The dispatch: one arm per command, each a direct call of its meaning. -/

namespace Sys2Proof.Machine

/-- The effect of a command on everything but the queue. -/
def exec (i : Instr) (s : State) : Host.Outcome State Fault Refusal :=
  match i with
  | .pinReset => Sys2Proof.Machine.execPinReset s
  | .storeInitialisationComplete => Sys2Proof.Machine.execStoreInitialisationComplete s
  | .tickBoundary => Sys2Proof.Machine.execTickBoundary s
  | .frameBoundary => Sys2Proof.Machine.execFrameBoundary s
  | .lineTick n high => Sys2Proof.Machine.execLineTick n high s
  | .seizureComplete n high => Sys2Proof.Machine.execSeizureComplete n high s
  | .firstDigitExpiry n high => Sys2Proof.Machine.execFirstDigitExpiry n high s
  | .lockoutReturn n high => Sys2Proof.Machine.execLockoutReturn n high s
  | .clear n high => Sys2Proof.Machine.execClear n high s
  | .pulseCounted n high => Sys2Proof.Machine.execPulseCounted n high s
  | .trainEnd n high => Sys2Proof.Machine.execTrainEnd n high s
  | .gatherWaitExpiry n high => Sys2Proof.Machine.execGatherWaitExpiry n high s
  | .recallBreakEnd n high => Sys2Proof.Machine.execRecallBreakEnd n high s
  | .recallFinished n high => Sys2Proof.Machine.execRecallFinished n high s
  | .pauseFinished n high => Sys2Proof.Machine.execPauseFinished n high s
  | .toneEnd k => Sys2Proof.Machine.execToneEnd k s
  | .gapEnd k => Sys2Proof.Machine.execGapEnd k s
  | .senderWait n high => Sys2Proof.Machine.execSenderWait n high s
  | .learnExpiry n high => Sys2Proof.Machine.execLearnExpiry n high s
  | .sweep => Sys2Proof.Machine.execSweep s
  | .openLine slot => Sys2Proof.Machine.execOpen slot s
  | .closeLine slot => Sys2Proof.Machine.execClose slot s
  | .adopt slot => Sys2Proof.Machine.execAdopt slot s
  | .learn slot => Sys2Proof.Machine.execLearn slot s
  | .release slot => Sys2Proof.Machine.execRelease slot s
  | .inject slot => Sys2Proof.Machine.execInject slot s
  | .flush slot => Sys2Proof.Machine.execFlush slot s
  | .peek slot => Sys2Proof.Machine.execPeek slot s
  | .mark slot => Sys2Proof.Machine.execMark slot s
  | .unknownKind slot => Sys2Proof.Machine.execUnknownKind slot s
  | .withdraw slot => Sys2Proof.Machine.execWithdraw slot s
  | .nudge v => Sys2Proof.Machine.execNudge v s
  | .sendHoldSet v => Sys2Proof.Machine.execSendHoldSet v s
  | .sendHoldClear v => Sys2Proof.Machine.execSendHoldClear v s
  | .controlMaskWrite v => Sys2Proof.Machine.execControlMaskWrite v s
  | .softReset v => Sys2Proof.Machine.execSoftReset v s
  | .statusClear v => Sys2Proof.Machine.execStatusClear v s
  | .registerWriteIgnored address v => Sys2Proof.Machine.execRegisterWriteIgnored address v s
  | .storeWrite address v => Sys2Proof.Machine.execStoreWrite address v s
  | .pageCloseAge => Sys2Proof.Machine.execPageCloseAge s

end Sys2Proof.Machine
end

