-- ==== Sys2Proof/Safety.lean ====
section
/-! DEFINITION. What a sound state of the part is, in the terms that claims use: the laws the spec gives the
part, each as a predicate of one state, what it is for every step to keep one, and the names that claims
use for the situations they speak of. -/

namespace Sys2Proof.Machine

/-- Every step that answers a next state keeps the predicate. -/
def KeptByStep (p : State → Prop) : Prop :=
  ∀ s t : State, p s → step s = .next t → p t

/-! ### Laws -/

/-- The store is in its canonical form. -/
abbrev StoreSound (s : State) : Prop := storeWf s.store = true

/-- A line's queue unit is as R97 and R104 say: at most 24 entries (law 1); empty outside ACTIVE (R30) and while
the first-digit timer runs (R26); nothing in execution unless it is in flight; waiting only with a
sendable TONE at the head and nothing in flight (R106); and the credit, given under HELD alone, at most
the DIALLED entries queued (law 12), which no INJECT owns (R98). -/
abbrev Line.QueueSound (l : Line) : Prop :=
  l.queue.entries.length ≤ queueRoom ∧
  (l.mode ≠ .active → l.queue = .empty) ∧
  (l.firstDigit.isSome = true → l.queue = .empty) ∧
  (l.queue.flight = none → l.queue.execution = .none) ∧
  (l.queue.waiting = true → l.toneReady = true) ∧
  l.queue.credit ≤ l.queue.dialledCount ∧
  (0 < l.queue.credit → l.discipline = .held) ∧
  ∀ e ∈ l.queue.entries, e.origin = .dialled → e.owner = none

/-- Laws 1, 3, 4 and 12 together: every queue unit is sound; a sender is bound only to an ACTIVE line, whose
entry in flight it plays, and no two senders to one line (R122); a line is in the wait list at most
once, and exactly while its waiting flag is set (R123). -/
abbrev PoolSound (s : State) : Prop :=
  (∀ n : LineNo, (s.line n).QueueSound) ∧
  (∀ k : SenderNo, ∀ b ∈ s.sender k,
    (s.line b.line).mode = .active ∧ (s.line b.line).queue.flight.isSome = true ∧
      (s.line b.line).queue.execution = .none) ∧
  (∀ j k : SenderNo, ∀ b ∈ s.sender j, ∀ c ∈ s.sender k, b.line = c.line → j = k) ∧
  (s.waitList.Pairwise fun q r => q.line ≠ r.line) ∧
  ∀ n : LineNo, (s.line n).queue.waiting = true ↔ ∃ r ∈ s.waitList, r.line = n

/-- A decoder runs in ACTIVE alone (R37, R40), and a line in service has a set in force to work from (R18, R91,
R94). -/
abbrev ServiceSound (s : State) : Prop :=
  ∀ n : LineNo,
    ((s.line n).mode ≠ .active → (s.line n).decoder = .atRest) ∧
    ((s.line n).mode ≠ .out → (s.setInForce n).isSome = true)

/-- HOLD is on exactly for an ACTIVE line outside the break of a recall execution (R31). -/
abbrev HoldSound (s : State) : Prop :=
  ∀ n : LineNo,
    (s.line n).hold = true ↔
      (s.line n).mode = .active ∧ ¬∃ t : Tick, (s.line n).queue.execution = .recallBreak t

/-- MUTE is on exactly under the conditions of R32. -/
abbrev MuteSound (s : State) : Prop := ∀ n : LineNo, (s.line n).mute = s.muteOn n

/-- A line that is OUT holds nothing but its raw sample (R11, R17, R30). -/
abbrev OutLinesBare (s : State) : Prop :=
  ∀ n : LineNo, (s.line n).mode = .out → s.line n = Line.outOfService (s.line n).raw

/-- Law 11: at most one LEARN, RELEASE or INJECT of a line is in the acceptance list (R159). -/
abbrev OnePerLine (s : State) : Prop :=
  s.board.accepted.Pairwise fun a b =>
    a.kind.perLine = true → b.kind.perLine = true → a.line ≠ b.line

/-- The acceptance list names each slot at most once (R155). -/
abbrev SlotsDistinct (s : State) : Prop := s.board.accepted.Pairwise fun a b => a.slot ≠ b.slot

/-- The target of every MARK accepted lies in the host area (R163). -/
abbrev MarkTargetsSound (s : State) : Prop :=
  ∀ o ∈ s.board.accepted, o.kind = .mark → inHostArea o.copy.p0 0 = true

/-- A sweep under way is at a slot of the board (R156). -/
abbrev SweepSound (s : State) : Prop := ∀ k ∈ s.board.sweepAt, k < 16

/-- The sequence counter is 1 to 255 and the loss at most 65535; a pending loss excludes a filling page (R170);
and a filling page holds at least 3 words a record and ends within its 64 words (R167, R168). -/
abbrev CaptureSound (s : State) : Prop :=
  1 ≤ s.capture.sequence ∧ s.capture.sequence ≤ 255 ∧ s.capture.loss ≤ 65535 ∧
  (0 < s.capture.loss → s.capture.filling = none) ∧
  ∀ f ∈ s.capture.filling, 1 ≤ f.count ∧ 3 * f.count + 2 ≤ f.position ∧ f.position ≤ 64

/-- Every generation counter is 0 to 255, and a set in force carries its profile's counter, then not 0
(R81, R87). -/
abbrev GenerationsSound (s : State) : Prop :=
  ∀ p : ProfileNo, (s.profile p).generation ≤ 255 ∧
    ∀ a ∈ (s.profile p).adopted, a.generation = (s.profile p).generation ∧ 1 ≤ a.generation

/-- The debounce count of a set in force is 1 to 15 (R82), a run count at most 15, and a candidate stamp is held
exactly while the run count is above 0 (R8). -/
abbrev ScanSound (s : State) : Prop :=
  (∀ p : ProfileNo, ∀ a ∈ (s.profile p).adopted, 1 ≤ a.debounce ∧ a.debounce ≤ 15) ∧
  ∀ n : LineNo, ∀ sc ∈ (s.line n).scan, sc.run ≤ 15 ∧ (sc.candidate.isSome = true ↔ 0 < sc.run)

/-- The speeds of an adopted set lie in order within 800 to 3200 (R86). -/
abbrev BandSound (low nominal high : Nat) : Prop :=
  800 ≤ low ∧ low ≤ nominal ∧ nominal ≤ high ∧ high ≤ 3200

/-- Law 5: every speed estimate lies in 800 to 3200 (R62); with the bands it is clamped to (R86, R39). -/
abbrev SpeedsSound (s : State) : Prop :=
  (∀ p : ProfileNo, ∀ a ∈ (s.profile p).adopted, BandSound a.pLo16 a.pNom16 a.pHi16) ∧
  ∀ n : LineNo,
    (∀ e ∈ (s.line n).estimator, 800 ≤ e.p16 ∧ e.p16 ≤ 3200) ∧
    ∀ c ∈ (s.line n).decoder.ctx, BandSound c.pLo16 c.pLo16 c.pHi16

/-- The tone values of a binding lie in the played ranges, its countdown within 4000 frames (R122, R144). -/
abbrev SendersSound (s : State) : Prop :=
  ∀ k : SenderNo, ∀ b ∈ s.sender k,
    200 ≤ b.tone.low ∧ b.tone.low ≤ 3800 ∧ 200 ≤ b.tone.high ∧ b.tone.high ≤ 3800 ∧
    30 ≤ b.tone.onMs ∧ b.tone.onMs ≤ 500 ∧ 30 ≤ b.tone.offMs ∧ b.tone.offMs ≤ 500 ∧
    b.tone.levelLow ≤ 4095 ∧ b.tone.levelHigh ≤ 4095 ∧ b.countdown ≤ 4000

/-- An entry is one that a train, a flash or an INJECT makes: a TONE of code 0 to 15, a RECALL, or a PAUSE of 100 to
2000 ms (R54, R98, R114). -/
def Entry.inRange (e : Entry) : Bool :=
  match e.kind with
  | .tone code => decide (code < 16)
  | .recall => true
  | .pause ms => decide (100 ≤ ms) && decide (ms ≤ 2000)

/-- Every entry queued or in flight is in range. -/
abbrev EntriesSound (s : State) : Prop :=
  ∀ n : LineNo,
    (∀ e ∈ (s.line n).queue.entries, e.inRange = true) ∧
    ∀ f ∈ (s.line n).queue.flight, f.entry.inRange = true

/-! ### Words of the store -/

/-- A run of store words. -/
def State.words (s : State) (base length : Nat) : List Word :=
  (List.range length).map fun i => s.peek (base + i)

/-- The twelve words that the image of a line is to show, by the layout of R183; all 0 in OUT (R178). -/
def State.imageShown (s : State) (n : LineNo) : List Word :=
  let l := s.line n
  let numbered (k : Option Nat) : Nat := match k with | some k => k + 1 | none => 0
  let learn := (l.estimator.bind fun e => e.learn).map fun x => x.slot.val
  let order := l.queue.order.map fun r => match r with | .release k _ _ => k.val | .inject k _ _ => k.val
  let state := match l.mode with
    | .out => 0 | .idle => 1 | .seizing => 2 | .active => 3 | .lockout => 4
  let sub := match l.decoder.sub with | .quiet => 0 | .inBreak => 1 | .inMake => 2
  let profile := match l.profile with | some p => p.val | none => 0
  let polarity := match l.scan with
    | some sc => (match sc.polarity with | .presentHigh => 0 | .presentLow => 1)
    | none => 0
  let speed := match l.estimator with
    | some e => (match e.mode with | .fixed => 1 | .tracking => 2 | .learned => 3)
    | none => 0
  let generation := match l.mode with
    | .active => (match l.call with | some c => c.generation | none => 0)
    | .out | .idle | .seizing | .lockout =>
      (match s.setInForce n with | some a => a.generation | none => 0)
  match l.mode with
  | .out => List.replicate 12 0
  | .idle | .seizing | .active | .lockout =>
    [ asWord (state + 16 * sub + 256 * profile + 4096 * polarity + 8192 * speed),
      asWord generation,
      asWord (match l.estimator with | some e => e.p16 | none => 0),
      asWord (match l.decoder.ctx with | some c => c.tId | none => 0),
      asWord l.decoder.pulses,
      asWord l.queue.entries.length,
      asWord
        (numbered ((s.boundSender n).map fun k => k.val) + (if l.queue.waiting then 16 else 0)
          + (if l.hold then 32 else 0) + (if l.mute then 64 else 0)
          + (if learn.isSome then 128 else 0) + (if l.queue.satisfied then 256 else 0)),
      asWord l.queue.credit,
      asWord l.hitCount,
      asWord l.digits,
      asWord (numbered (order.or learn)),
      asWord ((if l.overflowReported then 1 else 0) + (if l.dialSpeedReported then 2 else 0)) ]

/-- The shown words stand as the part last wrote them, once it is ready: words 0 to 11 of every line's image
(R178), each sender's bound line, or FFFFh (R138), and the number of requests (R139). -/
abbrev ShownSound (s : State) : Prop :=
  s.ready = true →
    (∀ n : LineNo, s.words (0x400 + 16 * n.val) 12 = s.imageShown n) ∧
    (∀ k : SenderNo,
      s.peek (0x008 + k.val) = match s.sender k with | some b => asWord b.line.val | none => 0xFFFF) ∧
    s.peek 0x014 = asWord s.waitList.length

/-- A store word that the part shows an item in: a sender status word, WAIT-COUNT, or a word of a line image. -/
def shownAddress (a : Nat) : Bool :=
  (decide (0x008 ≤ a) && decide (a ≤ 0x014)) || (decide (0x400 ≤ a) && decide (a < 0xA00))

/-- Every store word outside the regions, each a first address and a length, reads as before. -/
def StoreFrame (s t : State) (regions : List (Nat × Nat)) : Prop :=
  ∀ a : Nat, (∀ r ∈ regions, a < r.1 ∨ r.1 + r.2 ≤ a) → t.peek a = s.peek a

/-- The regions that an order's outcome and the image of its line take. -/
def outcomeRegions (slot : SlotNo) (n : LineNo) : List (Nat × Nat) :=
  [(slotAddress slot, 1), (slotAddress slot + 7, 1), (imageAddress n, 12)]

/-- A slot shows a state and a result. -/
def SlotShows (s : State) (slot : SlotNo) (state : Word) (code : ResultCode) (detail : Nat) : Prop :=
  s.peek (slotAddress slot) = state ∧ s.peek (slotAddress slot + 7) = resultWord code detail

/-- The next record of this length goes to this address, in the page now filling. -/
abbrev RecordGoesTo (s : State) (length address : Nat) : Prop :=
  s.capture.loss = 0 ∧
  ∃ f ∈ s.capture.filling,
    f.position + length ≤ 64 ∧ address = pageAddress s.capture.nextPage + f.position

/-- The next fault goes to this slot: FAULT-OVERFLOW is 0 and no lower slot is free (R175). -/
abbrev FaultGoesTo (s : State) (k : Nat) : Prop :=
  s.peek faultOverflowAddress = 0 ∧ k < 8 ∧ s.peek (faultSlotAddress k) = 0 ∧
  ∀ j < k, s.peek (faultSlotAddress j) ≠ 0

/-- The words of a fault slot. -/
def faultWords (kind : FaultKind) (n : LineNo) (time : Tick) (detail : Nat) : List Word :=
  [faultValue kind, asWord n.val, time, asWord detail]

/-! ### Situations -/

/-- The line tick of the line is due, and its sample shows no change of level. -/
abbrev SteadyTick (n : LineNo) (high : Bool) (sc : Scan) (s : State) : Prop :=
  lineTickDue n s = true ∧ (s.line n).scan = some sc ∧ corrected sc.polarity high = sc.level

/-- The line tick of the line is due, and its sample completes a change of level (R8). -/
abbrev EdgeTick (n : LineNo) (high : Bool) (sc : Scan) (a : AdoptedSet) (s : State) : Prop :=
  lineTickDue n s = true ∧ (s.line n).scan = some sc ∧ s.setInForce n = some a ∧
  corrected sc.polarity high ≠ sc.level ∧ a.debounce ≤ sc.run + 1

/-- The stamp of the edge that the sample completes: the tick of the first sample of its run (R8, R9). -/
def edgeStampOf (sc : Scan) (s : State) : Tick :=
  if sc.run = 0 then s.clock else sc.candidate.getD s.clock

/-- The line tick of the line is due, and its sample differs from the debounced level and leaves the run short of
D (R8). -/
abbrev ShortTick (n : LineNo) (high : Bool) (sc : Scan) (a : AdoptedSet) (s : State) : Prop :=
  lineTickDue n s = true ∧ (s.line n).scan = some sc ∧ s.setInForce n = some a ∧
  corrected sc.polarity high ≠ sc.level ∧ sc.run + 1 < a.debounce

/-- The line is ACTIVE on a call. -/
abbrev OnCall (n : LineNo) (c : CallContext) (s : State) : Prop :=
  (s.line n).mode = .active ∧ (s.line n).call = some c

/-- The line is ACTIVE on a call, its first-digit timer stopped. -/
abbrev InCall (n : LineNo) (c : CallContext) (s : State) : Prop :=
  (s.line n).mode = .active ∧ (s.line n).call = some c ∧ (s.line n).firstDigit = none

/-- The first-digit timer is stopped, or does not expire in this line tick (R25). -/
abbrev FirstDigitWaits (n : LineNo) (s : State) : Prop :=
  ∀ tm ∈ (s.line n).firstDigit, tm.count + 1 < tm.limit

/-- No LEARN is pending on the line. -/
abbrev NoLearn (n : LineNo) (s : State) : Prop := (s.line n).learnPending = none

/-- The LEARN pending on the line, if any, does not expire in this line tick (R74). -/
abbrev LearnWaits (n : LineNo) (s : State) : Prop :=
  ∀ x ∈ (s.line n).learnPending, x.timer.count + 1 < x.timer.limit

/-- The sweep has gone on behind a slot: to the next one, or, behind slot 15, to its end, where a held request
begins one further sweep (R156). -/
def SweptPast (slot : SlotNo) (s t : State) : Prop :=
  if slot.val = 15 then
    t.board.sweepAt = (if s.board.sweepHeld then some 0 else none) ∧ t.board.sweepHeld = false
  else t.board.sweepAt = some (slot.val + 1) ∧ t.board.sweepHeld = s.board.sweepHeld

/-- With this line tick's number and no edge, the decoder's test is not met: no clear in BREAK (R41), no pulse
confirmed (R47) and no train end (R49) in MAKE. -/
abbrev DecoderWaits (n : LineNo) (s : State) : Prop :=
  let d := (s.line n).decoder
  (d.sub = .inBreak → d.sinceBreak s.clock < d.limit (·.flashMax)) ∧
  (d.sub = .inMake → d.pulsePending = true → d.sinceMake s.clock < d.limit (·.makeMin)) ∧
  (d.sub = .inMake → d.pulsePending = false → d.sinceMake s.clock < d.limit (·.tId))

/-- A request after a line tick of its line: the wait count goes up by 1 while SEND-HOLD is clear and it has not
expired, the age always, up to 65535 (R136). -/
def Request.ticked (r : Request) (sendHold : Bool) : Request :=
  { r with
    waitCount := if sendHold = true ∨ r.expired = true then r.waitCount else r.waitCount + 1
    age := if r.age < 65535 then r.age + 1 else 65535 }

/-- The line's request, if it has one, has expired before or does not expire in this line tick (R136). -/
abbrev RequestWaits (n : LineNo) (s : State) : Prop :=
  ∀ r ∈ s.request n, r.expired = true ∨ (r.ticked s.sendHold).waitCount < r.senderWait

/-- No timer of the line but the first-digit timer, the LEARN's and a running gather wait can end in this line
tick, nor can a RECALL, a PAUSE or a request that begins in it: the limits of the call and the lengths of the
PAUSEs queued are not 0, as R82 and R114 have them, and a request that stands is not at its last tick (R110,
R111, R136). -/
abbrev TimersWait (n : LineNo) (c : CallContext) (s : State) : Prop :=
  (s.line n).queue.execution = .none ∧ 0 < c.flashOut ∧ 0 < c.gatherWait ∧ 0 < c.senderWait ∧
  (∀ e ∈ (s.line n).queue.entries, e.kind ≠ .pause 0) ∧
  (c.discipline ≠ .gather ∨ (s.line n).queue.satisfied = true →
    (s.line n).queue.gatherTimer = none) ∧
  RequestWaits n s

/-- The gather wait does not expire in this line tick (R103). -/
abbrev GatherWaits (n : LineNo) (s : State) : Prop :=
  ∀ g ∈ (s.line n).queue.gatherTimer, g.count + 1 < g.limit

/-- The RECALL or PAUSE in execution, if any, does not reach its limit at this tick (R110, R111). -/
def Line.executionWaits (l : Line) (t : Tick) : Bool :=
  match l.queue.execution, l.call, l.queue.flight.map (·.entry.kind) with
  | .none, _, _ => true
  | .recallBreak t0, some c, _ => decide (since t t0 < c.flashOut)
  | .recallGuard t0, some c, _ => decide (since t t0 < c.recallGuard)
  | .pause t0, _, some (EntryKind.pause ms) => decide (since t t0 < ms)
  | _, _, _ => false

/-- The line tick holds no decision but what the LEARN's timer brings: a steady sample that completes no seizure, no
lockout return and no decision of the decoder, and no other timer of the line at its end. -/
abbrev OnlyLearnMoves (n : LineNo) (sc : Scan) (s : State) : Prop :=
  ((s.line n).mode = .seizing → ∀ z ∈ (s.line n).seizure, since s.clock z.start < z.seizeTime) ∧
  ((s.line n).mode = .lockout → sc.level = .opened →
    ∀ a ∈ s.setInForce n, since s.clock sc.edgeStamp < a.flashMax) ∧
  ((s.line n).mode = .active →
    DecoderWaits n s ∧ FirstDigitWaits n s ∧ GatherWaits n s ∧
      (s.line n).executionWaits s.clock = true) ∧
  RequestWaits n s

/-- The line has neither a sender nor a request. -/
abbrev Unserved (n : LineNo) (s : State) : Prop := s.boundSender n = none ∧ s.request n = none

/-- The line has nothing to send and no call timer running, as outside ACTIVE (R30). -/
abbrev Resting (n : LineNo) (s : State) : Prop :=
  (s.line n).queue = .empty ∧ (s.line n).firstDigit = none ∧ Unserved n s

/-- The raw sample taken and no change of level left open: what a steady sample makes of a line's scan items
(R5, R8). -/
def Line.sampled (l : Line) (high : Bool) (sc : Scan) : Line :=
  { l with raw := high, scan := some { sc with run := 0, candidate := none } }

/-- The first-digit and gather wait timers of a line raised by a line tick (R25, R103). -/
def Line.ticked (l : Line) : Line :=
  { l with
    firstDigit := l.firstDigit.map fun tm => { tm with count := tm.count + 1 }
    queue :=
      { l.queue with
        gatherTimer := l.queue.gatherTimer.map fun tm => { tm with count := tm.count + 1 } } }

/-- The timer of a LEARN that pends on the line raised by a line tick (R74). -/
def Line.learnTicked (l : Line) : Line :=
  { l with
    estimator := l.estimator.map fun e =>
      { e with
        learn := e.learn.map fun x => { x with timer := { x.timer with count := x.timer.count + 1 } } } }

/-- The wait list after a line tick of a line that moves no request (R136). -/
def State.requestsTicked (s : State) (n : LineNo) : List Request :=
  s.waitList.map fun r => if r.line = n then r.ticked s.sendHold else r

/-- The sample of a line noted in the phase in progress. -/
def State.noteSample (s : State) (n : LineNo) : ScanBus :=
  { s.scanBus with sampled := s.scanBus.sampled.set (lineGroup n) true }

/-! ### What is handed to the queue unit -/

/-- The gather wait that a DIALLED hand-over restarts, under GATHER while the gather is unsatisfied (R103). -/
def QueueUnit.restarted (q : QueueUnit) (c : CallContext) : QueueUnit :=
  if c.discipline = .gather ∧ q.satisfied = false then
    { q with gatherTimer := some { count := 0, limit := c.gatherWait } }
  else q

/-- A DIALLED entry appended: it stands at the tail, and under GATHER it counts, the gather wait restarts, and
the gather is satisfied at gather_n (R100, R102, R103). -/
def QueueUnit.handed (q : QueueUnit) (c : CallContext) (e : Entry) : QueueUnit :=
  let count := if q.gatherCount < 255 then q.gatherCount + 1 else 255
  if c.discipline = .gather then
    if q.satisfied = true then { q with entries := q.entries ++ [e], gatherCount := count }
    else if count = c.gatherN then
      { q with
        entries := q.entries ++ [e], gatherCount := count, satisfied := true, gatherTimer := none }
    else
      { q with
        entries := q.entries ++ [e], gatherCount := count
        gatherTimer := some { count := 0, limit := c.gatherWait } }
  else { q with entries := q.entries ++ [e] }

/-- The line's timers and its request raised by this line tick, and then its queue unit changed: what the head
examination of the line tick finds. -/
def State.queueInTick (s : State) (n : LineNo) (f : QueueUnit → QueueUnit) : State :=
  (raiseTimers n s).modQueue n f

/-- The queue units, HOLD, the senders and the wait list of one state are those of another. -/
abbrev QueuesAs (u t : State) : Prop :=
  (∀ m : LineNo, (t.line m).queue = (u.line m).queue ∧ (t.line m).hold = (u.line m).hold) ∧
  t.senders = u.senders ∧ t.waitList = u.waitList

/-- The lines, the senders and the wait list of one state are those of another, with MUTE re-evaluated (R32). -/
abbrev SettlesAs (u t : State) : Prop :=
  (∀ m : LineNo, t.line m = { u.line m with mute := t.muteOn m }) ∧
  t.senders = u.senders ∧ t.waitList = u.waitList

/-- The regions that an order takes whose head examination may begin to send: its slot, the sender status words
and WAIT-COUNT, and the line images. -/
def sendingRegions (slot : SlotNo) : List (Nat × Nat) :=
  [(slotAddress slot, 1), (slotAddress slot + 7, 1), (0x008, 13), (0x400, 0x600)]

/-- What the finish of an entry leaves of the order record it belongs to: an INJECT counts its remaining entries down,
and at its last entry, as a RELEASE at its last credited one, the record goes (R109, R113, R115). -/
def orderLeft (r : OrderRecord) : Option OrderRecord :=
  match r with
  | .release _ _ true => none
  | .release slot sent false => some (.release slot sent false)
  | .inject slot sent remaining => if remaining ≤ 1 then none else some (.inject slot sent (remaining - 1))

/-- What the finish of the entry in flight leaves of the queue unit, before its head is examined: nothing in execution,
nothing in flight, and the order record the entry belonged to as R113 and R115 have it (R110, R111). -/
def QueueUnit.finished (q : QueueUnit) (f : Flight) : QueueUnit :=
  { q with
    execution := .none, flight := none
    order := if f.owned then q.order.bind orderLeft else q.order }

/-- The head entry has left for flight: it used a credit if it is DIALLED under HELD, and the RELEASE or INJECT it
belongs to has counted it sent, a RELEASE with its last-credit flag set at a credit of 0 (R108, R110, R111). -/
def QueueUnit.headLeft (q : QueueUnit) (d : Discipline) (e : Entry) (rest : List Entry) : QueueUnit :=
  let usesCredit : Bool := decide (e.origin = .dialled ∧ d = .held)
  let credit := if usesCredit then q.credit - 1 else q.credit
  let gone (owned : Bool) (order : Option OrderRecord) : QueueUnit :=
    { q with
      entries := rest, flight := some { entry := e, owned := owned }, waiting := false
      credit := credit, order := order }
  match q.order with
  | some (.release slot sent last) =>
    if usesCredit then gone true (some (.release slot (sent + 1) (last || decide (credit = 0))))
    else gone false q.order
  | some (.inject slot sent remaining) =>
    if e.origin = .ordered ∧ e.owner = some slot then
      gone true (some (.inject slot (sent + 1) remaining))
    else gone false q.order
  | none => gone false none

/-- The digit of a train of `count` pulses, 1 to 10, by the map (R54). -/
def digitOf (m : DigitMap) (count : Nat) : Nat :=
  match m with
  | .direct => count % 10
  | .offset => count - 1
  | .inverse => if count = 10 then 0 else 10 - count

/-- The decoder at a train start from this stamp: BREAK, the context of the set with the T_id of the adjusted P16,
and nothing counted (R39, R40). -/
def startedTrain (a : AdoptedSet) (e : Estimator) (stamp : Tick) : Decoder :=
  { sub := .inBreak
    ctx := some
      { breakMin := a.breakMin, breakMax := a.breakMax, makeMin := a.makeMin, flashMax := a.flashMax
        map := a.map, tId := interDigit (e.trainStart a).p16 a, pLo16 := a.pLo16, pHi16 := a.pHi16 }
    breakStart := some stamp, makeStart := none, pulsePending := false, pulses := 0
    countedBreakStart := none, candidateMake := none, periods := 0, periodSum := 0, makeSum := 0
    hits := false }

/-- The decoder with its pending pulse counted: a pulse after the first completes a full period, from the counted break
start to the break start of the pulse, which joins the tally up to 254 (R47, R51). -/
def Decoder.pulseCounted (d : Decoder) (bs : Tick) : Decoder :=
  let full := 1 ≤ d.pulses ∧ d.periods < 254
  { d with
    pulsePending := false
    pulses := min 255 (d.pulses + 1)
    countedBreakStart := some bs
    candidateMake := none
    periods := if full then d.periods + 1 else d.periods
    periodSum := if full then d.periodSum + since bs (d.countedBreakStart.getD 0) else d.periodSum
    makeSum := if full then d.makeSum + d.candidateMake.getD 0 else d.makeSum }

/-- P16 after a pulse is counted: only TRACKING moves it, by the period that the pulse completes (R66). -/
def Estimator.p16Counted (e : Estimator) (d : Decoder) (bs : Tick) (c : TrainContext) : Nat :=
  if 1 ≤ d.pulses ∧ d.periods < 254 ∧ e.mode = .tracking then
    trackP16 e.p16 (since bs (d.countedBreakStart.getD 0)) c.pLo16 c.pHi16
  else e.p16

/-- The estimator that a qualifying train has taught (R75). -/
def Estimator.taught (p16 : Nat) : Estimator :=
  { p16 := p16, source := .learned, mode := .learned, learnMark := false, learn := none }

/-- A scan unit that has accepted an edge to the other level (R8, R9). -/
def Scan.turned (sc : Scan) (level : Level) (stamp : Tick) : Scan :=
  { sc with level := level, run := 0, candidate := none, edgeStamp := stamp }

/-- The line as a call begins on it: ACTIVE with HOLD on, the call context and the first-digit timer from the set in
force, the once-per-call items cleared, and an empty queue unit (R22 to R25, R99). -/
def Line.callBegun (l : Line) (a : AdoptedSet) : Line :=
  { l with
    mode := .active
    seizure := none
    hold := true
    mute := false
    call := some
      { discipline := a.discipline, gatherN := a.gatherN, gatherWait := a.gatherWait, cls := a.cls
        reportSent := a.reportSent, flashOut := a.flashOut, recallGuard := a.recallGuard
        senderWait := a.senderWait, generation := a.generation }
    overflowReported := false
    dialSpeedReported := false
    hitCount := 0
    digits := 0
    firstDigit :=
      if a.firstDigitWait = 0 then none else some { count := 0, limit := a.firstDigitWait * 1000 }
    queue := .empty }

/-- The estimator after a marked train without a learned value: the LEARN pends on, its timer raised by this line
tick and one more train passed over, up to 4095 (R72, R76). -/
def Estimator.passedOver (e : Estimator) (x : Learn) : Estimator :=
  { e with
    learnMark := false
    learn := some
      { x with
        timer := { x.timer with count := x.timer.count + 1 }
        passedOver := min 4095 (x.passedOver + 1) } }

/-! ### Senders and sweeps -/

/-- A sender one frame on: its countdown down by 1, its accumulators up by the increments in TONE alone (R129,
R131, R148). One whose TONE or GAP has not begun begins with this frame (R128). -/
def Binding.nextFrame (b : Binding) : Binding :=
  { b with
    countdown := if b.started then b.countdown - 1 else b.countdown
    accLow := if b.phase = .tone then b.accLow + b.tone.incLow else b.accLow
    accHigh := if b.phase = .tone then b.accHigh + b.tone.incHigh else b.accHigh
    started := true }

/-- The sender's present TONE or GAP ends at the boundary now falling (R129, R131). -/
abbrev LastFrame (k : SenderNo) (b : Binding) (p : SendPhase) (s : State) : Prop :=
  s.ready = true ∧ s.sender k = some b ∧ b.phase = p ∧ b.started = true ∧ b.countdown ≤ 1

/-- The filling page, if any, does not reach its clamped CLOSE-AGE at the boundary now falling (R169). -/
abbrev PageStaysOpen (s : State) : Prop :=
  ∀ f ∈ s.capture.filling,
    (tickDue s = true → f.age + 1 < max 2 (min 1000 (s.peek 0x002).toNat)) ∧
    (tickDue s = false → s.timeBase.ageDue = true →
      f.age < max 2 (min 1000 (s.peek 0x002).toNat))

/-- An order of the kind stands in the slot, posted and not held, and the sweep under way has come to it; nothing
is lost in the capture unit, which the sweep's end would re-check (R156, R157, R171). -/
abbrev Posted (kind : Nat) (slot : SlotNo) (s : State) : Prop :=
  orderDue kind slot s = true ∧ s.capture.loss = 0

/-- The sweep that stands at this slot takes it as the row does: SWEEP is the row and then SWEEP on from the next
slot, each slot in full before the next; at slot 15 the row ends the sweep (R156). -/
def TakesSlot (slot : SlotNo) (row : Instr) (s : State) : Prop :=
  if slot.val = 15 then exec .sweep s = exec row s
  else ∃ t, exec row s = .next t ∧ t.board.sweepAt = some (slot.val + 1) ∧
    exec .sweep s = exec .sweep t

/-- A refused order: its slot shows REFUSED and the result, STATUS.ORDER is set, the sweep goes on, and nothing
else is touched (R160). -/
def Refuses (slot : SlotNo) (code : ResultCode) (detail : Nat) (s t : State) : Prop :=
  SlotShows t slot slotRefused code detail ∧ SweptPast slot s t ∧
  t.board.accepted = s.board.accepted ∧
  StoreFrame s t [(slotAddress slot, 1), (slotAddress slot + 7, 1)] ∧
  t = { s with store := t.store, board := t.board, causes := { s.causes with order := true } }

/-- Samples of one level at successive ticks from `t` on, under a steady D: the scan items after `k` of them and
the edge the last accepts (R9). -/
def debounceRun (d : Nat) (c : Level) (t : Tick) (sc : Scan) : Nat → Scan × Option Edge
  | 0 => (sc, none)
  | k + 1 => debounce d c (t + BitVec.ofNat 16 k) (debounceRun d c t sc k).1

/-- The part as R181 says that store initialisation leaves it. -/
def Initialised (t : State) : Prop :=
  t.ready = true ∧ t.controlWord = 0 ∧ t.statusWord = 0x8000 ∧ t.attn = false ∧
  t.clock = 0 ∧ t.timeBase.frameIndex = 0 ∧
  (∀ g : Fin 12, t.scanBus.hldOut[g] = false ∧ t.scanBus.mutOut[g] = false) ∧
  (∀ i : Fin 128, t.highway[i] = 0) ∧
  (∀ n : LineNo, t.line n = Line.outOfService false) ∧
  (∀ p : ProfileNo, (t.profile p).adopted = none ∧ (t.profile p).generation = 0) ∧
  (∀ k : SenderNo, t.sender k = none) ∧ t.waitList = [] ∧
  t.board.accepted = [] ∧ t.board.sweepAt = none ∧ t.board.sweepHeld = false ∧
  t.capture.filling = none ∧ t.capture.nextPage = 0 ∧ t.capture.sequence = 1 ∧
  t.capture.loss = 0 ∧
  t.peek 0x000 = 0x5058 ∧ t.peek 0x001 = 0x0001 ∧
  (∀ k < 12, t.peek (0x008 + k) = 0xFFFF) ∧
  (∀ c < 16, t.words (0x1C0 + 8 * c) 6 =
    [asWord ([941, 697, 697, 697, 770, 770, 770, 852, 852, 852, 941, 941, 697, 770, 852, 941].getD c 0),
     asWord ([1336, 1209, 1336, 1477, 1209, 1336, 1477, 1209, 1336, 1477, 1209, 1477, 1633, 1633,
       1633, 1633].getD c 0), 70, 70, 1800, 2300]) ∧
  ∀ a : Nat, a ≠ 0x000 → a ≠ 0x001 → ¬(0x008 ≤ a ∧ a < 0x014) →
    ¬(0x1C0 ≤ a ∧ a < 0x240 ∧ a % 8 < 6) → t.peek a = 0

end Sys2Proof.Machine
end

