-- ==== Sys2Proof/WellFormed.lean ====
section
/-! DEFINITION. Which commands are well formed: the word a register row writes must be one of that row's
words (R179). Every other operand is in range by its type. -/

namespace Sys2Proof

/-- The addresses at which a register write is ignored: IDENT, CLOCK, and 1005h to 1FFFh (R179). -/
def ignoredAddress (address : BitVec 13) : Bool :=
  address == 0x1000#13 || address == 0x1004#13 || decide (0x1005 ≤ address.toNat)

/-- The word written belongs to the row: a CONTROL write with bit 15 at 0 sets SEND-HOLD by bit 0 at 1
and clears it by bit 0 at 0, one with bit 15 at 1 is a soft reset, and a STATUS write clears a cause by a
1 in bits 1 to 4 (R179). -/
def Instr.wellFormed : Instr → Bool
  | .sendHoldSet v => !v.getLsbD 15 && v.getLsbD 0
  | .sendHoldClear v => !v.getLsbD 15 && !v.getLsbD 0
  | .controlMaskWrite v => !v.getLsbD 15
  | .softReset v => v.getLsbD 15
  | .statusClear v => v.getLsbD 1 || v.getLsbD 2 || v.getLsbD 3 || v.getLsbD 4
  | .registerWriteIgnored a _ => ignoredAddress a
  | .pinReset | .storeInitialisationComplete | .tickBoundary | .frameBoundary | .sweep
  | .pageCloseAge | .toneEnd _ | .gapEnd _ | .nudge _ | .storeWrite _ _ => true
  | .lineTick _ _ | .seizureComplete _ _ | .firstDigitExpiry _ _ | .lockoutReturn _ _
  | .clear _ _ | .pulseCounted _ _ | .trainEnd _ _ | .gatherWaitExpiry _ _
  | .recallBreakEnd _ _ | .recallFinished _ _ | .pauseFinished _ _ | .senderWait _ _
  | .learnExpiry _ _ => true
  | .openLine _ | .closeLine _ | .adopt _ | .learn _ | .release _ | .inject _ | .flush _
  | .peek _ | .mark _ | .unknownKind _ | .withdraw _ => true

end Sys2Proof
end

