-- ==== Sys2Proof/Certificates/Slice0/Obligations.lean ====
section
/-! DEFINITION. The statements for the provers: the queue of commands, one statement or more for every row of the
table, the spec's tables and formulas, and the laws that every step keeps. -/

open Sys2Proof Sys2Proof.Machine

/-! ### The queue of commands -/

/-- A step takes the command at the front of the queue and runs it with the queue's rest; on an empty queue the
block idles. The queue is the model's (log 1). -/
def Obligations.StepTakesFrontCommand : Prop :=
  (∀ (c : Instr) (rest : List Instr) (s : State),
    step { s with pending := c :: rest } = exec c { s with pending := rest }) ∧
  ∀ s : State, s.pending = [] → step s = .next s

/-- No command stops the part, and none touches the commands that wait: the spec names no event that stops it. The
queue is the model's (log 1). And no well-formed command but STORE_WRITE and STORE_INITIALISATION_COMPLETE changes the first
three words of the header, the raw words of a profile, or the tone plan (R177). -/
def Obligations.EveryCommandAnswersAndKeepsQueue : Prop :=
  (∀ (c : Instr) (s : State), ∃ t, exec c s = .next t ∧ t.pending = s.pending) ∧
  ∀ (c : Instr) (s : State), c.wellFormed = true → StoreSound s → MarkTargetsSound s →
    (∀ a v, c ≠ .storeWrite a v) → c ≠ .storeInitialisationComplete →
    ∃ t, exec c s = .next t ∧
      ∀ a : Nat,
        a < 0x003 ∨ (0x0C0 ≤ a ∧ a < 0x1C0 ∧ a % 32 < 24) ∨ (0x1C0 ≤ a ∧ a < 0x240) →
        t.peek a = s.peek a

/-! ### Pin reset and store initialisation -/

/-- PIN_RESET: from any state, the registers and the store read 0 but IDENT, ATTN is released, the scan bus and the
highway are still, every HOLD and MUTE is off and every line OUT (R181, R16, R153). Until store initialisation
completes every other command leaves the part as it is (R181; for the rows that are events, the model's
reading that an event that is not due changes nothing, log 3). -/
def Obligations.PinResetStillsThePart : Prop :=
  (∀ s : State, ∃ t, exec .pinReset s = .next t ∧
     t.ready = false ∧ t.attn = false ∧ t.sel = 0 ∧
     (∀ a : Nat, hostRead a t = if a = 0x1000 then 0x960A else 0) ∧
     (∀ b : Fin 2048, t.hws b = false ∧ t.hwd b = false) ∧
     (∀ g : Fin 12, t.scanBus.hldOut[g] = false ∧ t.scanBus.mutOut[g] = false) ∧
     ∀ n : LineNo, t.line n = Line.outOfService false) ∧
  ∀ (c : Instr) (s : State), s.ready = false → c ≠ .pinReset →
    c ≠ .storeInitialisationComplete → exec c s = .next s

/-- STORE_INITIALISATION_COMPLETE: the part and every word of the store are as R181 and R145 say. -/
def Obligations.InitialisationLeavesThePart : Prop :=
  ∀ s : State, s.ready = false →
    ∃ t, exec .storeInitialisationComplete s = .next t ∧ Initialised t

/-! ### Time base, scan bus and highway -/

/-- TICK_BOUNDARY: CLOCK goes up by 1 and wraps (R2), a sweep begins or is held when it becomes even (R156), and the
filling page ages by 1 (R169); nothing else changes. PAGE_CLOSE_AGE: at a tick boundary at which the page age has
reached CLOSE-AGE clamped to 2 to 1000, the page is closed: USED, PAGE-MARK, LAST-SEQ and FILL-PAGE are written,
STATUS.PAGE is set, the page and the sequence advance (R169), and no other word of the store or item of the part
changes. -/
def Obligations.TickAdvancesClockAndAgedPageCloses : Prop :=
  (∀ s : State, s.ready = true → s.timeBase.frameIndex = 7 → s.timeBase.tickTaken = false →
     ∃ t, exec .tickBoundary s = .next t ∧
       t = { s with
         timeBase :=
           { s.timeBase with clock := s.clock + 1, begun := true, tickTaken := true, ageDue := true }
         board := t.board
         capture :=
           { s.capture with
             filling := s.capture.filling.map fun f => { f with age := f.age + 1 } } } ∧
       t.board =
         if (s.clock + 1).toNat % 2 = 0 then
           (if s.board.sweepAt.isSome then { s.board with sweepHeld := true }
             else { s.board with sweepAt := some 0 })
         else s.board) ∧
  ∀ (s : State) (f : Filling), StoreSound s → MuteSound s → s.ready = true →
    s.timeBase.ageDue = true → s.capture.filling = some f →
    max 2 (min 1000 (s.peek 0x002).toNat) ≤ f.age →
    ∃ t, exec .pageCloseAge s = .next t ∧
      t.peek (pageAddress s.capture.nextPage) = asWord (s.capture.sequence * 256 + f.count) ∧
      t.peek (pageAddress s.capture.nextPage + 1) = asWord f.position ∧
      t.peek 0x004 = asWord s.capture.sequence ∧
      t.peek 0x003 = asWord ((s.capture.nextPage.val + 1) % 24) ∧
      StoreFrame s t [(0x003, 2), (pageAddress s.capture.nextPage, 2)] ∧
      t = { s with
        store := t.store
        timeBase := { s.timeBase with ageDue := false }
        capture :=
          { s.capture with
            filling := none, nextPage := s.capture.nextPage + 1
            sequence := if s.capture.sequence = 255 then 1 else s.capture.sequence + 1 }
        causes := { s.causes with page := true } }

/-- FRAME_BOUNDARY: the frame index and select phase advance, CLOCK with the tick boundary alone (R1, R2); the strobe
hands the presented levels of the phase's twelve lines to the shelf (R3, R4), and the next phase presents the
latches of its lines (R13; after the boundary's own changes by the model's choice, log 7). Slot n of the frame
that begins carries the sample of the sender in TONE bound to line n while the line is ACTIVE, computed from its
accumulators before they advance, and 0 otherwise; slots 96 to 127 carry 0 (R148, R152). A bound sender counts down
by 1, its accumulators up by the increments in TONE; at the last frame of its TONE it is in GAP for off × 8 frames
(R129, R131, R148). At the last frame of its GAP, no other sender ending, it takes a sendable TONE head, or is FREE
with nothing queued and nobody waiting (R109, R131). With no TONE or GAP and no page's age ending at the boundary
nothing else changes: no line, no word of the store, no cause; at frame index 7 CLOCK, the sweep request and the
page's age follow the tick boundary, unless they were taken before it (R2, R156, R169; log 6). -/
def Obligations.FrameBoundaryMovesPhaseAndHighway : Prop :=
  (∀ s : State, s.ready = true →
     ∃ t, exec .frameBoundary s = .next t ∧
       t.timeBase.frameIndex = s.timeBase.frameIndex + 1 ∧
       t.clock = (if s.timeBase.frameIndex = 7 ∧ s.timeBase.tickTaken = false then s.clock + 1
         else s.clock) ∧
       (∀ n : LineNo,
         t.scanBus.strobedHold[n] =
           (if n.val % 8 = s.timeBase.frameIndex.val then s.scanBus.hldOut[lineGroup n]
             else s.scanBus.strobedHold[n]) ∧
         t.scanBus.strobedMute[n] =
           (if n.val % 8 = s.timeBase.frameIndex.val then s.scanBus.mutOut[lineGroup n]
             else s.scanBus.strobedMute[n])) ∧
       (∀ n : LineNo, n.val % 8 = t.timeBase.frameIndex.val →
         t.scanBus.hldOut[lineGroup n] = (t.line n).hold ∧
           t.scanBus.mutOut[lineGroup n] = (t.line n).mute) ∧
       ∀ g : Fin 12, t.scanBus.sampled[g] = false) ∧
  (∀ s : State, s.ready = true →
    ∃ t, exec .frameBoundary s = .next t ∧
      (∀ (i : Fin 128), 96 ≤ i.val → t.highway[i] = 0) ∧
      ∀ n : LineNo,
        (∀ (k : SenderNo) (b : Binding), (t.line n).mode = .active → t.boundSender n = some k →
          t.sender k = some b → b.phase = .tone →
          t.highway[n.val] =
            BitVec.ofInt 16
              (sampleValue (b.accLow - b.tone.incLow) (b.accHigh - b.tone.incHigh)
                b.tone.levelLow b.tone.levelHigh)) ∧
        (((t.line n).mode ≠ .active ∨ t.boundSender n = none ∨
            ∃ (k : SenderNo) (b : Binding),
              t.boundSender n = some k ∧ t.sender k = some b ∧ b.phase = .gap) →
          t.highway[n.val] = 0)) ∧
  (∀ s : State, s.ready = true →
     ∃ t, exec .frameBoundary s = .next t ∧
       ∀ (k : SenderNo) (b : Binding), s.sender k = some b →
         (phaseEnds b = false → t.sender k = some b.nextFrame) ∧
         (LastFrame k b .tone s →
           t.sender k =
             some { b with phase := .gap, countdown := b.tone.offMs * 8, started := true })) ∧
  (∀ (s : State) (k : SenderNo) (b : Binding) (f : Flight), MarkTargetsSound s →
     EntriesSound s → LastFrame k b .gap s → (s.line b.line).queue.flight = some f →
     (∀ j : SenderNo, j ≠ k → ∀ c ∈ s.sender j, phaseEnds c = false) → PageStaysOpen s →
     ∃ t, exec .frameBoundary s = .next t ∧
       (∀ (e : Entry) (rest : List Entry) (code : Nat), (s.line b.line).mode = .active →
         (s.line b.line).queue.entries = e :: rest → e.kind = .tone code →
         (s.line b.line).sendable e = true → s.sendHold = false →
         t.sender k =
           some
             (Binding.nextFrame
               { phase := .tone, line := b.line, code := code, origin := e.origin
                 tone := readTone s.store code, accLow := 0, accHigh := 0
                 countdown := (readTone s.store code).onMs * 8, started := false }) ∧
           (t.line b.line).queue.entries = rest) ∧
       ((s.line b.line).queue.entries = [] → (s.line b.line).queue.waiting = false →
         s.waitList = [] → t.sender k = none ∧ (t.line b.line).queue.flight = none)) ∧
  ∀ s : State, s.ready = true → (∀ k : SenderNo, ∀ b ∈ s.sender k, phaseEnds b = false) →
    PageStaysOpen s →
    ∃ t, exec .frameBoundary s = .next t ∧
      (∀ k : SenderNo, t.sender k = (s.sender k).map Binding.nextFrame) ∧
      t = { s with
        timeBase :=
          { clock := if tickDue s then s.clock + 1 else s.clock
            frameIndex := s.timeBase.frameIndex + 1
            begun := false, tickTaken := false, ageDue := false }
        scanBus := t.scanBus, senders := t.senders, highway := t.highway
        board :=
          if tickDue s = true ∧ (s.clock + 1).toNat % 2 = 0 then
            (if s.board.sweepAt.isSome then { s.board with sweepHeld := true }
              else { s.board with sweepAt := some 0 })
          else s.board
        capture :=
          { s.capture with
            filling :=
              if tickDue s then s.capture.filling.map fun f => { f with age := f.age + 1 }
              else s.capture.filling } }

/-! ### Line ticks -/

/-- LINE_TICK: the raw sample is replaced and the sample noted; of another line only the queue (by a grant) and MUTE may
change; the time base, the profiles, the frame in progress and CONTROL stand (R5, R7). A row that names a decision is the whole
line tick, or leaves the state (the model's reading, logs 3 and 4). Of a line OUT the raw
sample is replaced and nothing else of the part changes (R11). -/
def Obligations.LineTickTakesTheSample : Prop :=
  (∀ (n : LineNo) (high : Bool) (s : State), lineTickDue n s = true →
     ∃ t, exec (.lineTick n high) s = .next t ∧
       (t.line n).raw = high ∧
       (∀ m : LineNo, m ≠ n →
         t.line m = { s.line m with queue := (t.line m).queue, mute := t.muteOn m }) ∧
       t = { s with
         scanBus := s.noteSample n, lines := t.lines, senders := t.senders, waitList := t.waitList,
         board := t.board, capture := t.capture, causes := t.causes, store := t.store }) ∧
  (∀ (n : LineNo) (high : Bool) (s : State),
     ∀ row ∈ [Instr.seizureComplete, .firstDigitExpiry, .lockoutReturn, .clear, .pulseCounted,
       .trainEnd, .gatherWaitExpiry, .recallBreakEnd, .recallFinished, .pauseFinished, .senderWait,
       .learnExpiry],
     exec (row n high) s = .next s ∨ exec (row n high) s = exec (.lineTick n high) s) ∧
  ∀ (n : LineNo) (high raw : Bool) (s : State), MuteSound s → Unserved n s →
    lineTickDue n s = true → s.line n = Line.outOfService raw →
    exec (.lineTick n high) s =
      .next { s with
        scanBus := s.noteSample n, lines := s.lines.set n (Line.outOfService high) }

/-- Under a steady D, samples of a new level at successive ticks give no edge before the D-th, which is accepted and
stamped with the tick of the first; a sample equal to the debounced level drops an open run, and nothing is
reported (R8, R9). At a LINE_TICK, whatever the state of the line: a sample of the debounced level drops the run; one that
differs and leaves the run short of the D in force raises the run count by 1, with this tick as the candidate stamp of a new
run and the stamp of an open one kept; and one that completes D turns the level, with the stamp (R8). The short one gives no
edge, so where neither the standing level nor a timer brings a decision in that tick none falls: the line's timers and its
request count on, and nothing else of the part changes. -/
def Obligations.DebounceAcceptsAtTheDthSample : Prop :=
  (∀ (d : Nat) (c : Level) (t : Tick) (sc : Scan), 1 ≤ d → sc.run = 0 → c ≠ sc.level →
     (∀ k : Nat, k < d →
       (debounceRun d c t sc k).2 = none ∧ (debounceRun d c t sc k).1.level = sc.level ∧
         (debounceRun d c t sc k).1.edgeStamp = sc.edgeStamp) ∧
     debounceRun d c t sc d =
       ({ sc with level := c, run := 0, candidate := none, edgeStamp := t },
         some { level := c, stamp := t })) ∧
  (∀ (d : Nat) (t : Tick) (sc : Scan),
     debounce d sc.level t sc = ({ sc with run := 0, candidate := none }, none)) ∧
  ∀ (n : LineNo) (high : Bool) (sc : Scan) (s : State),
    (SteadyTick n high sc s →
      ∃ t, exec (.lineTick n high) s = .next t ∧
        (t.line n).scan = some { sc with run := 0, candidate := none }) ∧
    ∀ a : AdoptedSet,
      (EdgeTick n high sc a s →
        ∃ t, exec (.lineTick n high) s = .next t ∧
          (t.line n).scan =
            some (sc.turned (corrected sc.polarity high) (edgeStampOf sc s))) ∧
      (ShortTick n high sc a s →
        let short : Scan := { sc with run := sc.run + 1, candidate := some (edgeStampOf sc s) }
        ∃ t, exec (.lineTick n high) s = .next t ∧ (t.line n).scan = some short ∧
          (MuteSound s → OnlyLearnMoves n sc s → LearnWaits n s →
            (∀ row ∈ [Instr.seizureComplete, .firstDigitExpiry, .lockoutReturn, .clear,
                .pulseCounted, .trainEnd, .gatherWaitExpiry, .recallBreakEnd, .recallFinished,
                .pauseFinished, .senderWait, .learnExpiry],
              exec (row n high) s = .next s) ∧
            t.line n =
              { (s.line n).ticked.learnTicked with raw := high, scan := some short } ∧
            (∀ m : LineNo, m ≠ n → t.line m = s.line m) ∧
            t = { s with
              scanBus := s.noteSample n, lines := t.lines, waitList := s.requestsTicked n }))

/-- LINE_TICK in IDLE with a CLOSED edge: SEIZING, from the edge's stamp, with the seize_time of the set in force; MUTE and
HOLD stay off, no record (R10, R20). In SEIZING an OPEN edge stamped before seize_time has passed returns the line to
IDLE; with no edge and seize_time not passed the line stays; no record in either case. An OPEN edge stamped with
seize_time passed, as only D = 1 allows, completes the seizure, with its record, and then starts a train from its
stamp (R21, R22, R40). -/
def Obligations.IdleAndSeizingTakeTheirEdges : Prop :=
  (∀ (n : LineNo) (high : Bool) (sc : Scan) (a : AdoptedSet) (s : State), MuteSound s →
     EdgeTick n high sc a s → corrected sc.polarity high = .closed →
     (s.line n).mode = .idle → Resting n s → NoLearn n s →
     ∃ t, exec (.lineTick n high) s = .next t ∧
       t.line n =
         { s.line n with
           raw := high
           scan := some
             { sc with
               level := .closed, run := 0, candidate := none, edgeStamp := edgeStampOf sc s }
           mode := .seizing
           seizure := some { start := edgeStampOf sc s, seizeTime := a.seizeTime } } ∧
       (∀ m : LineNo, m ≠ n → t.line m = s.line m) ∧
       StoreFrame s t [(imageAddress n, 12)] ∧
       t = { s with scanBus := s.noteSample n, lines := t.lines, store := t.store }) ∧
  ∀ (n : LineNo) (high : Bool) (sc : Scan) (a : AdoptedSet) (z : Seizure) (s : State),
    MuteSound s → (s.line n).mode = .seizing → (s.line n).seizure = some z → Resting n s →
    NoLearn n s →
    (EdgeTick n high sc a s → corrected sc.polarity high = .opened →
      since (edgeStampOf sc s) z.start < z.seizeTime →
      ∃ t, exec (.lineTick n high) s = .next t ∧
        t.line n =
          { s.line n with
            raw := high
            scan := some
              { sc with
                level := .opened, run := 0, candidate := none, edgeStamp := edgeStampOf sc s }
            mode := .idle
            seizure := none } ∧
        t = { s with scanBus := s.noteSample n, lines := t.lines, store := t.store }) ∧
    (SteadyTick n high sc s → since s.clock z.start < z.seizeTime →
      ∃ t, exec (.lineTick n high) s = .next t ∧
        t.line n = (s.line n).sampled high sc ∧
        t = { s with scanBus := s.noteSample n, lines := t.lines, store := t.store }) ∧
    ∀ (e : Estimator) (addr : Nat), StoreSound s → EdgeTick n high sc a s →
      corrected sc.polarity high = .opened → z.seizeTime ≤ since (edgeStampOf sc s) z.start →
      since s.clock (edgeStampOf sc s) < a.flashMax → (s.line n).estimator = some e →
      a.generation ≤ 255 → RecordGoesTo s 3 addr →
      ∃ t, exec (.seizureComplete n high) s = .next t ∧
        t.line n =
          { (s.line n).callBegun a with
            raw := high
            scan := some (sc.turned .opened (edgeStampOf sc s))
            mute := true
            decoder := startedTrain a e (edgeStampOf sc s)
            estimator := some (e.trainStart a) } ∧
        t.words addr 3 =
          [asWord (0x1300 + n.val), s.clock,
            asWord ((if a.cls = .b then 256 else 0) + a.generation)] ∧
        StoreFrame s t [(addr, 3), (imageAddress n, 12)] ∧
        t = { s with
          scanBus := s.noteSample n, lines := t.lines, store := t.store, capture := t.capture }

/-- SEIZURE_COMPLETE, with no edge: ACTIVE, QUIET, HOLD on, the call context and the first-digit timer from the set in
force, the once-per-call items cleared, an empty queue unit, and a SEIZE record (R22 to R25, R99). -/
def Obligations.SeizureCompletes : Prop :=
  ∀ (n : LineNo) (high : Bool) (sc : Scan) (a : AdoptedSet) (z : Seizure) (s : State) (addr : Nat),
    StoreSound s → MuteSound s → SteadyTick n high sc s → (s.line n).mode = .seizing →
    (s.line n).seizure = some z → s.setInForce n = some a → a.generation ≤ 255 →
    z.seizeTime ≤ since s.clock z.start → Unserved n s → NoLearn n s → RecordGoesTo s 3 addr →
    ∃ t, exec (.seizureComplete n high) s = .next t ∧
      t.line n =
        { (s.line n).callBegun a with
          raw := high, scan := some { sc with run := 0, candidate := none }, decoder := .atRest } ∧
      t.words addr 3 =
        [asWord (0x1300 + n.val), s.clock,
          asWord ((if a.cls = .b then 256 else 0) + a.generation)] ∧
      (∀ m : LineNo, m ≠ n → t.line m = s.line m) ∧
      StoreFrame s t [(addr, 3), (imageAddress n, 12)] ∧
      t = { s with
        scanBus := s.noteSample n, lines := t.lines, store := t.store, capture := t.capture }

/-- FIRST_DIGIT_EXPIRY: LOCKOUT, HOLD and MUTE off, the train and the call context dropped, PERMANENT-LOOP in the lowest
free fault slot and a LOCKOUT record with cause FIRST-DIGIT (R26, R35). -/
def Obligations.FirstDigitExpiryLocksOut : Prop :=
  ∀ (n : LineNo) (high : Bool) (sc : Scan) (tm : Timer) (s : State) (addr k : Nat),
    StoreSound s → MuteSound s → SteadyTick n high sc s → (s.line n).mode = .active →
    DecoderWaits n s → (s.line n).firstDigit = some tm → tm.limit ≤ tm.count + 1 →
    (s.line n).queue = .empty → Unserved n s → NoLearn n s →
    RecordGoesTo s 3 addr → FaultGoesTo s k →
    ∃ t, exec (.firstDigitExpiry n high) s = .next t ∧
      t.line n =
        { (s.line n).sampled high sc with
          mode := .lockout
          hold := false
          mute := false
          call := none
          firstDigit := none
          decoder := .atRest
          estimator := (s.line n).estimator.map fun e => { e with learnMark := false } } ∧
      t.words (faultSlotAddress k) 4 = faultWords .permanentLoop n s.clock 0 ∧
      t.words addr 3 = [asWord (0x7300 + n.val), s.clock, 1] ∧
      (∀ m : LineNo, m ≠ n → t.line m = s.line m) ∧
      StoreFrame s t [(faultSlotAddress k, 4), (addr, 3), (imageAddress n, 12)] ∧
      t = { s with
        scanBus := s.noteSample n, lines := t.lines, store := t.store, capture := t.capture
        causes := { s.causes with fault := true } }

/-- LOCKOUT_RETURN: a loop open since its edge stamp for flash_max of the set in force returns the line to IDLE, with no
record. LINE_TICK in LOCKOUT: a loop that stays closed, or open for less, keeps the line there; a CLOSED edge ends the open
interval and the line stays; an OPEN edge begins a new interval with its own stamp and the line stays, unless that
stamp already lies flash_max back, where the line returns at once (R29). -/
def Obligations.LockoutReturnsToIdle : Prop :=
  (∀ (n : LineNo) (high : Bool) (sc : Scan) (a : AdoptedSet) (s : State), MuteSound s →
     SteadyTick n high sc s → sc.level = .opened → (s.line n).mode = .lockout →
     s.setInForce n = some a → a.flashMax ≤ since s.clock sc.edgeStamp → Resting n s →
     NoLearn n s →
     ∃ t, exec (.lockoutReturn n high) s = .next t ∧
       t.line n = { (s.line n).sampled high sc with mode := .idle } ∧
       (∀ m : LineNo, m ≠ n → t.line m = s.line m) ∧
       StoreFrame s t [(imageAddress n, 12)] ∧
       t = { s with scanBus := s.noteSample n, lines := t.lines, store := t.store }) ∧
  ∀ (n : LineNo) (high : Bool) (sc : Scan) (a : AdoptedSet) (s : State), MuteSound s →
    (s.line n).mode = .lockout → Resting n s → LearnWaits n s →
    let stays (scan : Scan) : Prop :=
      exec (.lockoutReturn n high) s = .next s ∧
      ∃ t, exec (.lineTick n high) s = .next t ∧
        t.line n = { (s.line n).learnTicked with raw := high, scan := some scan } ∧
        (∀ m : LineNo, m ≠ n → t.line m = s.line m) ∧
        t = { s with scanBus := s.noteSample n, lines := t.lines }
    (SteadyTick n high sc s → s.setInForce n = some a →
      sc.level = .closed ∨ since s.clock sc.edgeStamp < a.flashMax →
      stays { sc with run := 0, candidate := none }) ∧
    (EdgeTick n high sc a s →
      (corrected sc.polarity high = .closed → stays (sc.turned .closed (edgeStampOf sc s))) ∧
      (corrected sc.polarity high = .opened → since s.clock (edgeStampOf sc s) < a.flashMax →
        stays (sc.turned .opened (edgeStampOf sc s))) ∧
      (corrected sc.polarity high = .opened → a.flashMax ≤ since s.clock (edgeStampOf sc s) →
        ∃ t, exec (.lockoutReturn n high) s = .next t ∧
          t.line n =
            { (s.line n).learnTicked with
              raw := high, scan := some (sc.turned .opened (edgeStampOf sc s)), mode := .idle } ∧
          (∀ m : LineNo, m ≠ n → t.line m = s.line m) ∧
          StoreFrame s t [(imageAddress n, 12)] ∧
          t = { s with scanBus := s.noteSample n, lines := t.lines, store := t.store }))

/-- CLEAR, at an open break that has reached flash_max: IDLE, HOLD and MUTE off, the train, the timer and the call
context dropped, the whole queue unit discarded, no sender and no request left, the RELEASE or INJECT DONE with
CALL-ENDED and its sent count, and a CLEAR record with the discarded count, train-discarded and the digits
(R27, R28, R41, R119, R132). -/
def Obligations.ClearEndsTheCall : Prop :=
  ∀ (n : LineNo) (high : Bool) (sc : Scan) (s : State) (addr : Nat),
    StoreSound s → PoolSound s → MarkTargetsSound s → SteadyTick n high sc s →
    sc.level = .opened → (s.line n).mode = .active → (s.line n).decoder.sub = .inBreak →
    (s.line n).decoder.limit (·.flashMax) ≤ (s.line n).decoder.sinceBreak s.clock →
    NoLearn n s → RecordGoesTo s 4 addr →
    ∃ t, exec (.clear n high) s = .next t ∧
      t.line n =
        { (s.line n).sampled high sc with
          mode := .idle
          hold := false
          mute := false
          call := none
          firstDigit := none
          decoder := .atRest
          estimator := (s.line n).estimator.map fun e => { e with learnMark := false }
          queue := .empty } ∧
      Unserved n t ∧
      t.words addr 4 =
        [asWord (0x5400 + n.val), s.clock,
          asWord ((s.line n).queue.entries.length + (s.line n).queue.flight.isSome.toNat
            + (if 0 < (s.line n).decoder.pulses then 256 else 0)),
          asWord (s.line n).digits] ∧
      (∀ r : OrderRecord, (s.line n).queue.order = some r →
        SlotShows t r.slot slotDone .callEnded r.sent ∧ t.slotHeld r.slot = false ∧
          t.causes.order = true) ∧
      (MuteSound s → (s.line n).queue.order = none → Unserved n s →
        (∀ m : LineNo, m ≠ n → t.line m = s.line m) ∧
        StoreFrame s t [(addr, 4), (imageAddress n, 12)] ∧
        t = { s with
          scanBus := s.noteSample n, lines := t.lines, store := t.store, capture := t.capture })

/-- PULSE_COUNTED: the pending pulse of a closed loop whose make has reached make_min is counted; a pulse after the
first completes a full period, from the counted break start to the break start, which joins the tally and,
under TRACKING, moves P16; the first-digit timer stops (R25, R47, R51, R52, R66). -/
def Obligations.PendingPulseIsCounted : Prop :=
  ∀ (n : LineNo) (high : Bool) (sc : Scan) (c : TrainContext) (bs ms : Tick) (s : State),
    SteadyTick n high sc s → sc.level = .closed → (s.line n).mode = .active →
    (s.line n).decoder.sub = .inMake → (s.line n).decoder.pulsePending = true →
    (s.line n).decoder.ctx = some c → (s.line n).decoder.breakStart = some bs →
    (s.line n).decoder.makeStart = some ms → c.makeMin ≤ since s.clock ms →
    ∃ t, exec (.pulseCounted n high) s = .next t ∧
      (t.line n).mode = .active ∧ (t.line n).firstDigit = none ∧
      (t.line n).call = (s.line n).call ∧ (t.line n).hitCount = (s.line n).hitCount ∧
      (t.line n).digits = (s.line n).digits ∧
      (t.line n).decoder = (s.line n).decoder.pulseCounted bs ∧
      (t.line n).estimator.map (·.p16) =
        (s.line n).estimator.map fun e => e.p16Counted (s.line n).decoder bs c

/-- TRAIN_END with a valid digit by the map (R54), an entry in flight and room in the queue: the digit is appended as a
DIALLED TONE and recorded, with the long form when there are full periods, and the first OFF-BAND of a call reports
DIAL-SPEED with the mean; the decoder returns to QUIET (R53 to R55, R68 to R71, R100). With an entry in flight or
without, the queue units, the senders and the requests are as the head examination leaves them behind the hand-over,
which counts under GATHER and restarts its wait (R100, R102, R103, R105). With 24 queued the digit is lost: its record
is marked LOST, the gather wait alone restarts, and QUEUE-OVERFLOW is reported once a call with the digit (R100). A
train of 11 or more pulses appends nothing and gives a MUTILATED record, TOO-MANY, with its count (R53, R56). -/
def Obligations.TrainEndsAsDigitOrMutilated : Prop :=
  (∀ (n : LineNo) (high : Bool) (sc : Scan) (c : TrainContext) (ms : Tick) (e : Estimator)
     (digit : Nat) (s : State) (addr : Nat),
     StoreSound s → SteadyTick n high sc s → sc.level = .closed → (s.line n).mode = .active →
     (s.line n).decoder.sub = .inMake → (s.line n).decoder.pulsePending = false →
     (s.line n).decoder.ctx = some c → (s.line n).decoder.makeStart = some ms →
     c.tId ≤ since s.clock ms → 1 ≤ (s.line n).decoder.pulses →
     (s.line n).decoder.pulses ≤ 10 → digit = digitOf c.map (s.line n).decoder.pulses →
     (s.line n).estimator = some e → NoLearn n s → (s.line n).queue.flight.isSome = true →
     (s.line n).queue.execution = .none → (s.line n).queue.entries.length < 24 →
     RecordGoesTo s (if (s.line n).decoder.periods = 0 then 4 else 6) addr →
     ∃ t, exec (.trainEnd n high) s = .next t ∧
       let d := (s.line n).decoder
       let mean := (d.periodSum + d.periods / 2) / d.periods
       let off := offBand (trainStatistics d) c
       let flags := (if off then 256 else 0) + (if d.hits then 512 else 0)
       (t.line n).decoder = .atRest ∧ (t.line n).firstDigit = none ∧
       (t.line n).digits = (if (s.line n).digits < 65535 then (s.line n).digits + 1 else 65535) ∧
       (t.line n).queue.entries =
         (s.line n).queue.entries ++ [{ kind := .tone digit, origin := .dialled, owner := none }] ∧
       (t.line n).queue.flight = (s.line n).queue.flight ∧ (t.line n).mode = .active ∧
       (t.line n).hold = (s.line n).hold ∧ (t.line n).call = (s.line n).call ∧
       (t.line n).hitCount = (s.line n).hitCount ∧
       (t.line n).dialSpeedReported = ((s.line n).dialSpeedReported || off) ∧
       (∀ j : Nat, off = true → (s.line n).dialSpeedReported = false → FaultGoesTo s j →
         t.words (faultSlotAddress j) 4 = faultWords .dialSpeed n s.clock mean ∧
           t.causes.fault = true) ∧
       (off = false ∨ (s.line n).dialSpeedReported = true → s.waitList = [] →
         t.causes = s.causes ∧ ∀ j < 8, t.words (faultSlotAddress j) 4 = s.words (faultSlotAddress j) 4) ∧
       if d.periods = 0 then
         t.words addr 4 =
           [asWord (0x2400 + n.val), s.clock, asWord (digit + 16 * d.pulses + flags), asWord e.p16]
       else
         t.words addr 6 =
           [asWord (0x2600 + n.val), s.clock, asWord (digit + 16 * d.pulses + flags), asWord e.p16,
             asWord mean, asWord ((100 * d.makeSum + d.periodSum / 2) / d.periodSum)]) ∧
  ∀ (n : LineNo) (high : Bool) (sc : Scan) (c : TrainContext) (k : CallContext) (ms : Tick)
    (s : State), SteadyTick n high sc s → sc.level = .closed → (s.line n).mode = .active →
    (s.line n).call = some k → (s.line n).decoder.sub = .inMake →
    (s.line n).decoder.pulsePending = false → (s.line n).decoder.ctx = some c →
    (s.line n).decoder.makeStart = some ms → c.tId ≤ since s.clock ms → NoLearn n s →
    TimersWait n k s →
    let d := (s.line n).decoder
    let digit := digitOf c.map d.pulses
    (1 ≤ d.pulses → d.pulses ≤ 10 → (s.line n).queue.entries.length < 24 →
      ∃ t, exec (.trainEnd n high) s = .next t ∧ (t.line n).decoder = .atRest ∧
        (t.line n).firstDigit = none ∧
        QueuesAs
          (examineHead n
            (s.queueInTick n fun q =>
              q.handed k { kind := .tone digit, origin := .dialled, owner := none })) t) ∧
    (∀ addr : Nat, StoreSound s → 1 ≤ d.pulses → d.pulses ≤ 10 →
      24 ≤ (s.line n).queue.entries.length → (s.line n).firstDigit = none →
      offBand (trainStatistics d) c = false →
      RecordGoesTo s (if d.periods = 0 then 4 else 6) addr →
      ∃ t, exec (.trainEnd n high) s = .next t ∧ (t.line n).decoder = .atRest ∧
        QueuesAs (s.queueInTick n fun q => q.restarted k) t ∧
        (t.line n).digits =
          (if (s.line n).digits < 65535 then (s.line n).digits + 1 else 65535) ∧
        t.peek (addr + 2) = asWord (digit + 16 * d.pulses + (if d.hits then 512 else 0) + 1024) ∧
        (t.line n).overflowReported = true ∧
        (∀ j : Nat, (s.line n).overflowReported = false → FaultGoesTo s j →
          t.words (faultSlotAddress j) 4 = faultWords .queueOverflow n s.clock digit ∧
            t.causes.fault = true) ∧
        ((s.line n).overflowReported = true →
          t.causes = s.causes ∧
            ∀ j < 8, t.words (faultSlotAddress j) 4 = s.words (faultSlotAddress j) 4)) ∧
    ∀ addr : Nat, StoreSound s → 10 < d.pulses → (s.line n).firstDigit = none → GatherWaits n s →
      RecordGoesTo s 3 addr →
      ∃ t, exec (.trainEnd n high) s = .next t ∧ (t.line n).decoder = .atRest ∧
        QueuesAs (s.queueInTick n id) t ∧ (t.line n).digits = (s.line n).digits ∧
        t.words addr 3 =
          [asWord (0x3300 + n.val), s.clock, asWord (512 + d.pulses % 256)] ∧
        t.causes = s.causes

/-- GATHER_WAIT_EXPIRY: the gather is satisfied and its timer stops; with an entry in flight, or with an empty queue
that does not wait, the queue is otherwise unchanged; with an entry in flight or without, the queue units, the senders
and the requests are as the head examination leaves them behind it (R102, R103, R105). -/
def Obligations.GatherWaitSatisfiesTheGather : Prop :=
  (∀ (n : LineNo) (high : Bool) (sc : Scan) (c : CallContext) (tm : Timer) (s : State),
     SteadyTick n high sc s → InCall n c s → DecoderWaits n s →
     (s.line n).queue.gatherTimer = some tm → tm.limit ≤ tm.count + 1 →
     (s.line n).queue.execution = .none →
     (s.line n).queue.flight.isSome = true ∨
       ((s.line n).queue.entries = [] ∧ (s.line n).queue.waiting = false) →
     ∃ t, exec (.gatherWaitExpiry n high) s = .next t ∧
       (t.line n).queue = { (s.line n).queue with satisfied := true, gatherTimer := none } ∧
       (NoLearn n s →
         t.line n =
           { (s.line n).sampled high sc with
             queue := (t.line n).queue, mute := (t.line n).mute })) ∧
  ∀ (n : LineNo) (high : Bool) (sc : Scan) (c : CallContext) (tm : Timer) (s : State),
    SteadyTick n high sc s → InCall n c s → DecoderWaits n s → NoLearn n s →
    (s.line n).queue.gatherTimer = some tm → tm.limit ≤ tm.count + 1 → TimersWait n c s →
    ∃ t, exec (.gatherWaitExpiry n high) s = .next t ∧
      QueuesAs
        (examineHead n
          (s.queueInTick n fun q => { q with satisfied := true, gatherTimer := none })) t

/-- RECALL_BREAK_END: after flash_out of the call context HOLD goes on and the guard begins at this tick; MUTE stays on (R31, R32,
R110); with a recall_guard of 0 the guard ends in the same line tick, which is RECALL_FINISHED too (R110). RECALL_FINISHED and
PAUSE_FINISHED: the execution ends, the entry leaves flight, and the RELEASE or INJECT it belonged to is taken into
account, completing OK with its sent count at its last entry (R110, R111, R113, R115). With entries queued behind or
none, the queue units, HOLD, the senders and the requests are as the head examination leaves them behind the finish
(R105); with an empty queue HOLD and the order record stay as the finish has them. A LEARN may pend, short of its expiry. -/
def Obligations.RecallAndPauseRunTheirCourse : Prop :=
  (∀ (n : LineNo) (high : Bool) (sc : Scan) (c : CallContext) (t0 : Tick) (s : State),
     SteadyTick n high sc s → InCall n c s → DecoderWaits n s →
     (s.line n).queue.execution = .recallBreak t0 → (s.line n).queue.flight.isSome = true →
     c.flashOut ≤ since s.clock t0 → 0 < c.recallGuard →
     ∃ t, exec (.recallBreakEnd n high) s = .next t ∧
       (t.line n).hold = true ∧ (t.line n).mute = true ∧ (t.line n).mode = .active ∧
       (t.line n).queue.execution = .recallGuard s.clock ∧
       (t.line n).queue.flight = (s.line n).queue.flight ∧
       (t.line n).queue.entries = (s.line n).queue.entries ∧
       (t.line n).queue.order = (s.line n).queue.order) ∧
  ∀ (n : LineNo) (high : Bool) (sc : Scan) (c : CallContext) (f : Flight) (t0 : Tick) (s : State),
    StoreSound s → MarkTargetsSound s → EntriesSound s → SteadyTick n high sc s → InCall n c s →
    DecoderWaits n s → LearnWaits n s → (s.line n).queue.flight = some f →
    let finished (hold : Bool) (t : State) : Prop :=
      (∀ slot sent, f.owned = true →
        (s.line n).queue.order = some (.inject slot sent 1) ∨
          (s.line n).queue.order = some (.release slot sent true) →
        SlotShows t slot slotDone .ok sent ∧ t.slotHeld slot = false ∧ t.causes.order = true) ∧
      (GatherWaits n s → RequestWaits n s → 0 < c.senderWait →
        QueuesAs
          (examineHead n
            ((s.queueInTick n (·.finished f)).modLine n fun l => { l with hold := hold })) t) ∧
      ((s.line n).queue.entries = [] → (s.line n).queue.waiting = false →
        (t.line n).queue.execution = .none ∧ (t.line n).queue.flight = none ∧
        (t.line n).hold = hold ∧
        (t.line n).queue.order = ((s.line n).queue.finished f).order)
    ((s.line n).queue.execution = .recallBreak t0 → c.flashOut ≤ since s.clock t0 →
      c.recallGuard = 0 →
      ∃ t, exec (.recallBreakEnd n high) s = .next t ∧
        exec (.recallFinished n high) s = .next t ∧ finished true t) ∧
    ((s.line n).queue.execution = .recallGuard t0 → c.recallGuard ≤ since s.clock t0 →
      ∃ t, exec (.recallFinished n high) s = .next t ∧ finished (s.line n).hold t) ∧
    (∀ len : Nat, (s.line n).queue.execution = .pause t0 → f.entry.kind = .pause len →
      len ≤ since s.clock t0 →
      ∃ t, exec (.pauseFinished n high) s = .next t ∧ finished (s.line n).hold t)

/-- SENDER_WAIT: at the line tick at which the wait count reaches sender_wait, SENDER-WAIT is reported with the request's
age in the lowest free fault slot, and the request stays in its place, expired (R136, R137). A line tick before that
raises the wait count and the age; while SEND-HOLD is set the wait count stands still and the age counts on, up to
65535; and for a request that has expired the age alone goes up, and the row does nothing: it reports no more
(R136, R137). -/
def Obligations.SenderWaitReportsOnce : Prop :=
  (∀ (n : LineNo) (high : Bool) (sc : Scan) (c : CallContext) (r : Request) (s : State) (k : Nat),
     StoreSound s → MuteSound s → SteadyTick n high sc s → InCall n c s → DecoderWaits n s →
     NoLearn n s → (s.line n).queue.execution = .none → GatherWaits n s →
     s.sendHold = false → s.request n = some r → r.expired = false →
     r.senderWait ≤ r.waitCount + 1 → FaultGoesTo s k →
     ∃ t, exec (.senderWait n high) s = .next t ∧
       t.line n = ((s.line n).sampled high sc).ticked ∧
       t.waitList =
         ((s.requestsTicked n).map fun x => if x.line = n then { x with expired := true } else x) ∧
       t.words (faultSlotAddress k) 4 =
         faultWords .senderWait n s.clock (if r.age < 65535 then r.age + 1 else 65535) ∧
       (∀ m : LineNo, m ≠ n → t.line m = s.line m) ∧
       StoreFrame s t [(faultSlotAddress k, 4), (imageAddress n, 12)] ∧
       t = { s with
         scanBus := s.noteSample n, lines := t.lines, waitList := t.waitList, store := t.store
         causes := { s.causes with fault := true } }) ∧
  ∀ (n : LineNo) (high : Bool) (sc : Scan) (c : CallContext) (r : Request) (s : State),
    MuteSound s → SteadyTick n high sc s → InCall n c s → DecoderWaits n s → NoLearn n s →
    (s.line n).queue.execution = .none → GatherWaits n s → s.request n = some r →
    r.expired = true ∨ (s.sendHold = true ∧ r.waitCount < r.senderWait) ∨
      (s.sendHold = false ∧ r.waitCount + 1 < r.senderWait) →
    exec (.senderWait n high) s = .next s ∧
    ∃ t, exec (.lineTick n high) s = .next t ∧
      t.line n = ((s.line n).sampled high sc).ticked ∧
      t.request n =
        some
          { r with
            waitCount :=
              if r.expired = true ∨ s.sendHold = true then r.waitCount else r.waitCount + 1
            age := if r.age < 65535 then r.age + 1 else 65535 } ∧
      (∀ m : LineNo, m ≠ n → t.line m = s.line m ∧ t.request m = s.request m) ∧
      t = { s with
        scanBus := s.noteSample n, lines := t.lines, waitList := s.requestsTicked n }

/-- LEARN_EXPIRY, in IDLE, SEIZING, ACTIVE and LOCKOUT alike: the LEARN completes NOT-LEARNED with the passed-over count,
the learn mark of an open train is cleared with it, and P16, the source and the mode stay; the line's other timers count
on (R74). At a clear declared in the same line tick a marked train is passed over first and counted in the detail
(R74, R76). -/
def Obligations.LearnExpires : Prop :=
  (∀ (n : LineNo) (high : Bool) (sc : Scan) (e : Estimator) (x : Learn) (s : State),
     StoreSound s → MuteSound s → MarkTargetsSound s → SteadyTick n high sc s →
     (s.line n).mode ≠ .out → OnlyLearnMoves n sc s → (s.line n).estimator = some e →
     e.learn = some x → x.timer.limit ≤ x.timer.count + 1 →
     ∃ t, exec (.learnExpiry n high) s = .next t ∧
       t.line n =
         { ((s.line n).sampled high sc).ticked with
           estimator := some { e with learnMark := false, learn := none } } ∧
       SlotShows t x.slot slotDone .notLearned x.passedOver ∧ t.slotHeld x.slot = false ∧
       t.causes.order = true ∧
       (∀ m : LineNo, m ≠ n → t.line m = s.line m) ∧
       t = { s with
         scanBus := s.noteSample n, lines := t.lines, waitList := s.requestsTicked n
         store := t.store, board := t.board, causes := t.causes }) ∧
  ∀ (n : LineNo) (high : Bool) (sc : Scan) (e : Estimator) (x : Learn) (s : State),
    StoreSound s → MarkTargetsSound s → SteadyTick n high sc s → sc.level = .opened →
    (s.line n).mode = .active → (s.line n).decoder.sub = .inBreak →
    (s.line n).decoder.limit (·.flashMax) ≤ (s.line n).decoder.sinceBreak s.clock →
    (s.line n).estimator = some e → e.learn = some x → e.learnMark = true →
    x.timer.limit ≤ x.timer.count + 1 →
    ∃ t, exec (.clear n high) s = .next t ∧ exec (.learnExpiry n high) s = .next t ∧
      (t.line n).mode = .idle ∧
      (t.line n).estimator = some { e with learnMark := false, learn := none } ∧
      SlotShows t x.slot slotDone .notLearned (min 4095 (x.passedOver + 1)) ∧
      t.slotHeld x.slot = false ∧ t.causes.order = true

/-! ### Senders -/

/-- TONE_END: at its last TONE frame the sender changes to GAP with the countdown at off × 8; under report_sent a SENT
record is written, else none (R129, R130); the line keeps its sender and nothing else changes. -/
def Obligations.ToneEndsInGap : Prop :=
  ∀ (k : SenderNo) (b : Binding) (c : CallContext) (s : State), StoreSound s → MuteSound s →
    LastFrame k b .tone s → b.code < 16 → (s.line b.line).call = some c →
    ∃ t, exec (.toneEnd k) s = .next t ∧
      t.sender k = some { b with phase := .gap, countdown := b.tone.offMs * 8, started := false } ∧
      (∀ j : SenderNo, j ≠ k → t.sender j = s.sender j) ∧
      t = { s with
        timeBase := { s.timeBase with begun := true }, senders := t.senders, store := t.store
        capture := t.capture, causes := t.causes } ∧
      (c.reportSent = false → t.store = s.store ∧ t.capture = s.capture ∧ t.causes = s.causes) ∧
      ∀ addr : Nat, c.reportSent = true → RecordGoesTo s 3 addr →
        t.words addr 3 =
          [asWord (0x6300 + b.line.val), s.clock,
            asWord (b.code + (if b.origin = .ordered then 16 else 0) + 256 * k.val)] ∧
        StoreFrame s t [(addr, 3)] ∧ t.causes = s.causes

/-- GAP_END: the entry in flight finishes, and its RELEASE or INJECT, if it belongs to one, counts it and completes at
its last (R109, R113, R115). With a sendable TONE at the head and SEND-HOLD clear the same sender takes the head at
once, from zero phase, with the tone plan's clamped values, without a request; the entry leaves the queue with its
credit (R104, R108, R109, R128). Otherwise the sender becomes FREE, the head is examined, and a grant is made (R105,
R126, R131); with nothing queued and nobody waiting it stays FREE, and its status word is written FFFFh (R138). -/
def Obligations.GapEndContinuesOrFrees : Prop :=
  ∀ (k : SenderNo) (b : Binding) (f : Flight) (s : State), StoreSound s → MarkTargetsSound s →
    EntriesSound s → LastFrame k b .gap s → (s.line b.line).queue.flight = some f →
    let q := (s.line b.line).queue
    let ended : Line :=
      { s.line b.line with
        queue :=
          { q with flight := none, order := if f.owned then q.order.bind orderLeft else q.order } }
    ∃ t, exec (.gapEnd k) s = .next t ∧
      (∀ slot sent, f.owned = true →
        q.order = some (.inject slot sent 1) ∨ q.order = some (.release slot sent true) →
        SlotShows t slot slotDone .ok sent ∧ t.slotHeld slot = false ∧ t.causes.order = true) ∧
      (∀ (e : Entry) (rest : List Entry) (code : Nat), (s.line b.line).mode = .active →
        q.entries = e :: rest → e.kind = .tone code → (s.line b.line).sendable e = true →
        s.sendHold = false →
        t.sender k =
          some
            { phase := .tone, line := b.line, code := code, origin := e.origin,
              tone := readTone s.store code, accLow := 0, accHigh := 0,
              countdown := (readTone s.store code).onMs * 8, started := false } ∧
        (∀ j : SenderNo, j ≠ k → t.sender j = s.sender j) ∧ t.waitList = s.waitList ∧
        t.line b.line = { ended.leaveHead with mute := true } ∧
        (t.line b.line).queue.entries = rest ∧ (t.line b.line).queue.waiting = false ∧
        (t.line b.line).queue.flight.map (·.entry) = some e ∧
        (t.line b.line).queue.credit =
          (if e.origin = .dialled ∧ (s.line b.line).discipline = .held then q.credit - 1
            else q.credit) ∧
        ∀ m : LineNo, m ≠ b.line → t.line m = { s.line m with mute := t.muteOn m }) ∧
      (s.sendHold = true ∨ ended.toneReady = false →
        SettlesAs (grantOnce (examineHead b.line ((s.setLine b.line ended).setSender k none))) t) ∧
      (q.entries = [] → q.waiting = false → s.waitList = [] →
        t.sender k = none ∧ (∀ j : SenderNo, j ≠ k → t.sender j = s.sender j) ∧
        t.peek (senderStatusAddress k.val) = 0xFFFF ∧
        (t.line b.line).queue = ended.queue)

/-! ### Sweeps and orders -/

/-- SWEEP at a slot is the row of what stands there and then SWEEP on from the next slot: each examination has taken
its full effect before the next slot's, and other events may come between (R156). The row is the one of the order
posted there, by its kind, or of its WITHDRAW (R157, R159); a slot in which nothing acts is left alone, and any order
row at it passes it. With no slot left that acts the sweep ends and a held request begins one further sweep (R156); a
pending loss is re-checked, and a free next page is opened with a GAP record (R171). A sweep that finds one order left,
of unknown kind, refuses it and ends (R156, R159). That an order row passes an idle slot alone, and that the loss is
re-checked at the sweep's end, is the model's choice (log 8). -/
def Obligations.SweepExaminesAndEnds : Prop :=
  (∀ (s : State) (slot : SlotNo), s.ready = true → s.board.sweepAt = some slot.val →
     (slotIsPosted slot s = true →
       (∀ p ∈ [(1, Instr.openLine slot), (2, .closeLine slot), (3, .adopt slot), (4, .learn slot),
           (5, .release slot), (6, .inject slot), (7, .flush slot), (8, .peek slot),
           (9, .mark slot)],
         (s.orderCopy slot).kind = p.1 → TakesSlot slot p.2 s) ∧
       ((s.orderCopy slot).kind = 0 ∨ 9 < (s.orderCopy slot).kind →
         TakesSlot slot (.unknownKind slot) s)) ∧
     (slotIsWithdrawn slot s = true → TakesSlot slot (.withdraw slot) s) ∧
     (slotActs slot s = false →
       ∀ row ∈ [Instr.openLine slot, .closeLine slot, .adopt slot, .learn slot, .release slot,
           .inject slot, .flush slot, .peek slot, .mark slot, .unknownKind slot, .withdraw slot],
         TakesSlot slot row s ∧
         (slot.val < 15 →
           exec row s =
             .next { s with board := { s.board with sweepAt := some (slot.val + 1) } }))) ∧
  (∀ (s : State) (k : SlotNo), StoreSound s → MuteSound s → s.ready = true →
     s.board.sweepAt = some k.val → (∀ j : SlotNo, k ≤ j → slotActs j s = false) →
     let ended : OrderBoard :=
       { s.board with
         sweepAt := if s.board.sweepHeld then some 0 else none, sweepHeld := false }
     ((s.capture.loss = 0 ∨ s.peek (pageAddress s.capture.nextPage) ≠ 0) →
       exec .sweep s = .next { s with board := ended }) ∧
     (0 < s.capture.loss → s.peek (pageAddress s.capture.nextPage) = 0 →
       ∃ t, exec .sweep s = .next t ∧
         t.words (pageAddress s.capture.nextPage + 2) 3 =
           [0x8300, s.clock, asWord s.capture.loss] ∧
         t.peek 0x006 = 0 ∧
         StoreFrame s t [(pageAddress s.capture.nextPage + 2, 3), (0x006, 1)] ∧
         t = { s with
           board := ended, store := t.store
           capture :=
             { s.capture with
               filling := some { position := 5, count := 1, age := 0 }, loss := 0 } })) ∧
  ∀ (s : State) (slot : SlotNo), StoreSound s → MuteSound s → Posted 0 slot s →
    (∀ j : SlotNo, slot.val < j.val → slotActs j s = false) →
    ∃ t, exec .sweep s = .next t ∧
      SlotShows t slot slotRefused .unknownKind 0 ∧
      t.board =
        { s.board with
          sweepAt := if s.board.sweepHeld then some 0 else none, sweepHeld := false } ∧
      StoreFrame s t [(slotAddress slot, 1), (slotAddress slot + 7, 1)] ∧
      t = { s with
        store := t.store, board := t.board, causes := { s.causes with order := true } }

/-- OPEN of a line OUT on a profile in force: the line comes into service, IDLE on an open loop, LOCKOUT with its record
on a closed one, with P16 at P_nom16; DONE, OK, the generation (R12, R18, R19, R63). -/
def Obligations.OpenBringsIntoService : Prop :=
  ∀ (slot : SlotNo) (n : LineNo) (p : ProfileNo) (a : AdoptedSet) (pol : Polarity) (s : State),
    StoreSound s → MuteSound s → Posted 1 slot s → (s.orderCopy slot).line? = some n →
    (s.line n).mode = .out → (s.orderCopy slot).p0.toNat = p.val →
    (s.profile p).adopted = some a →
    (s.orderCopy slot).p1 = (match pol with | .presentHigh => 0 | .presentLow => 1) →
    let level := corrected pol (s.line n).raw
    ∃ t, exec (.openLine slot) s = .next t ∧
      t.line n =
        { Line.outOfService (s.line n).raw with
          scan := some
            { polarity := pol, level := level, run := 0, candidate := none, edgeStamp := s.clock }
          mode := match level with | .opened => .idle | .closed => .lockout
          profile := some p
          estimator := some
            { p16 := a.pNom16, source := .profile
              mode := match a.mode with | .fixed => .fixed | .tracking => .tracking
              learnMark := false, learn := none } } ∧
      SlotShows t slot slotDone .ok a.generation ∧ SweptPast slot s t ∧
      t.causes.order = true ∧ t.board.accepted = s.board.accepted ∧
      (∀ m : LineNo, m ≠ n → t.line m = s.line m) ∧
      (level = .opened → t.capture = s.capture ∧ StoreFrame s t (outcomeRegions slot n)) ∧
      (level = .closed → ∀ addr : Nat, RecordGoesTo s 3 addr →
        t.words addr 3 = [asWord (0x7300 + n.val), s.clock, 2] ∧
          StoreFrame s t ((addr, 3) :: outcomeRegions slot n)) ∧
      t = { s with
        lines := t.lines, store := t.store, board := t.board, capture := t.capture
        causes := t.causes }

/-- CLOSE of a line in service: the line holds nothing but its raw sample, has neither sender nor request, and its image
reads 0; its RELEASE or INJECT ends CALL-ENDED with the sent count, and the slot shows DONE, OK, and the number of
entries discarded (R14, R33, R119, R132, R178). -/
def Obligations.CloseTakesOutOfService : Prop :=
  ∀ (slot : SlotNo) (n : LineNo) (s : State), StoreSound s → PoolSound s → MarkTargetsSound s →
    Posted 2 slot s → (s.orderCopy slot).line? = some n → (s.line n).mode ≠ .out →
    ∃ t, exec (.closeLine slot) s = .next t ∧
      t.line n = Line.outOfService (s.line n).raw ∧ Unserved n t ∧
      (∀ i < 12, t.peek (imageAddress n + i) = 0) ∧
      SlotShows t slot slotDone .ok
        ((s.line n).queue.entries.length + (s.line n).queue.flight.isSome.toNat) ∧
      SweptPast slot s t ∧ t.causes.order = true ∧ t.capture = s.capture ∧
      (∀ r : OrderRecord, (s.line n).queue.order = some r → r.slot ≠ slot → NoLearn n s →
        SlotShows t r.slot slotDone .callEnded r.sent ∧ t.slotHeld r.slot = false) ∧
      (∀ x : Learn, (s.line n).learnPending = some x → (s.line n).queue.order = none →
        x.slot ≠ slot → SlotShows t x.slot slotDone .callEnded 0 ∧ t.slotHeld x.slot = false) ∧
      (MuteSound s → (s.line n).queue.order = none → NoLearn n s → Unserved n s →
        t.senders = s.senders ∧ t.waitList = s.waitList ∧
        (∀ m : LineNo, m ≠ n → t.line m = s.line m) ∧ StoreFrame s t (outcomeRegions slot n)) ∧
      t = { s with
        lines := t.lines, senders := t.senders, waitList := t.waitList, store := t.store
        board := t.board, causes := t.causes }

/-- ADOPT that passes its checks: the generation goes up, from 255 to 1; the set in force holds the 23 values read, each
from its word (R82), and the three speeds; the derived words are written, status ADOPTED; DONE, OK, the generation; a line on the profile in IDLE,
SEIZING or LOCKOUT shows the new generation, and no line's own state moves (R82, R83, R86, R87, R90). -/
def Obligations.AdoptMakesANewSet : Prop :=
  ∀ (slot : SlotNo) (p : ProfileNo) (s : State), StoreSound s → MuteSound s → GenerationsSound s →
    Posted 3 slot s → (s.orderCopy slot).profile? = some p →
    profileRefusal (rawFields s p) = none →
    let raw (i : Nat) : Nat := (s.peek (profileAddress p + i)).toNat
    let g := if (s.profile p).generation = 255 then 1 else (s.profile p).generation + 1
    let speed (v : Nat) : Nat := (160000 + v / 2) / v
    ∃ t, exec (.adopt slot) s = .next t ∧
      t.profile p =
        { adopted := some
            { mode := if raw 0 = 0 then .fixed else .tracking
              map := if raw 1 = 0 then .direct else if raw 1 = 1 then .offset else .inverse
              discipline := if raw 2 = 0 then .immediate else if raw 2 = 1 then .gather else .held
              cls := if raw 3 = 0 then .a else .b
              reportSent := decide (raw 4 = 1)
              debounce := raw 5, gatherN := raw 6, gatherWait := raw 7, seizeTime := raw 8
              breakMin := raw 9, breakMax := raw 10, makeMin := raw 11, flashMax := raw 12
              nominal := raw 13, bandLow := raw 14, bandHigh := raw 15
              gapFactor := raw 16, gapMin := raw 17, gapMax := raw 18
              firstDigitWait := raw 19, senderWait := raw 20, flashOut := raw 21
              recallGuard := raw 22
              pNom16 := speed (raw 13), pLo16 := speed (raw 15), pHi16 := speed (raw 14)
              generation := g }
          generation := g } ∧
      t.words (profileAddress p + 24) 6 =
        [asWord (speed (raw 13)), asWord (speed (raw 15)), asWord (speed (raw 14)), asWord g, 1, 0] ∧
      SlotShows t slot slotDone .ok g ∧ SweptPast slot s t ∧ t.causes.order = true ∧
      (∀ q : ProfileNo, q ≠ p → t.profile q = s.profile q) ∧
      (∀ n : LineNo, (s.line n).profile = some p →
        (s.line n).mode = .idle ∨ (s.line n).mode = .seizing ∨ (s.line n).mode = .lockout →
        t.peek (imageAddress n + 1) = asWord g) ∧
      t = { s with
        profiles := t.profiles, store := t.store, board := t.board, causes := t.causes }

/-- ADOPT that fails: the first field outside its accepted values, in word order, refuses it FIELD-RANGE with its word
index; with every field in range the first broken relation refuses it RELATION with its number; the set in force and
the counter stay, and the derived words show the set in force, if any, and the reason (R82, R84, R85, R88). -/
def Obligations.AdoptRefusesAndKeeps : Prop :=
  ∀ (slot : SlotNo) (p : ProfileNo) (s : State), StoreSound s → MuteSound s → Posted 3 slot s →
    (s.orderCopy slot).profile? = some p →
    let raw (i : Nat) : Nat := (s.peek (profileAddress p + i)).toNat
    let low := [0, 0, 0, 0, 0, 1, 1, 500, 20, 5, 60, 5, 150, 50, 50, 50, 12, 100, 100, 0, 100, 50, 0]
    let high :=
      [1, 2, 2, 1, 1, 15, 24, 20000, 500, 60, 200, 60, 1500, 200, 200, 200, 40, 800, 1500, 60, 10000,
        1000, 2000]
    let inRange (i : Nat) : Prop := low.getD i 0 ≤ raw i ∧ raw i ≤ high.getD i 0
    let one := raw 9 < raw 10 ∧ raw 10 < raw 12
    let two := raw 11 < raw 17 ∧ raw 17 ≤ raw 18
    let three := raw 14 ≤ raw 13 ∧ raw 13 ≤ raw 15
    let shown (f : AdoptedSet → Nat) : Word := asWord (((s.profile p).adopted.map f).getD 0)
    let failed (code : ResultCode) (detail : Nat) : Prop :=
      ∃ t, exec (.adopt slot) s = .next t ∧
        SlotShows t slot slotRefused code detail ∧ SweptPast slot s t ∧ t.causes.order = true ∧
        t.words (profileAddress p + 24) 6 =
          [shown (·.pNom16), shown (·.pLo16), shown (·.pHi16), shown (·.generation),
            if (s.profile p).adopted.isSome then 3 else 2, resultWord code detail] ∧
        StoreFrame s t
          [(slotAddress slot, 1), (slotAddress slot + 7, 1), (profileAddress p + 24, 6)] ∧
        t = { s with store := t.store, board := t.board, causes := t.causes }
    (∀ i < 23, (∀ j < i, inRange j) → ¬inRange i → failed .fieldRange i) ∧
    ((∀ i < 23, inRange i) →
      (¬one → failed .relation 1) ∧ (one → ¬two → failed .relation 2) ∧
        (one → two → ¬three → failed .relation 3))

/-- LEARN of a line in service that no LEARN, RELEASE or INJECT holds: pending in the slot with a timer of 120000 line
ticks, a passed-over count of 0 and no learn mark; ACCEPTED, at the tail of the acceptance list, the result word and
STATUS.ORDER untouched (R73, R155, R160). -/
def Obligations.LearnIsAccepted : Prop :=
  ∀ (slot : SlotNo) (n : LineNo) (e : Estimator) (s : State), StoreSound s → MuteSound s →
    Posted 4 slot s → (s.orderCopy slot).line? = some n → lineHolder s n = none →
    (s.line n).mode ≠ .out → (s.line n).estimator = some e →
    ∃ t, exec (.learn slot) s = .next t ∧
      t.line n =
        { s.line n with
          estimator := some
            { e with
              learnMark := false
              learn := some
                { slot := slot, timer := { count := 0, limit := 120000 }, passedOver := 0 } } } ∧
      t.peek (slotAddress slot) = slotAccepted ∧
      t.board.accepted =
        s.board.accepted ++
          [{ slot := slot, kind := .learn, line := some n, copy := s.orderCopy slot
             ahead := s.board.accepted.length }] ∧
      SweptPast slot s t ∧ (∀ m : LineNo, m ≠ n → t.line m = s.line m) ∧
      StoreFrame s t [(slotAddress slot, 1), (imageAddress n, 12)] ∧
      t = { s with lines := t.lines, store := t.store, board := t.board }

/-- RELEASE of a HELD call: the credit becomes the smaller of n and the DIALLED entries queued; at 0 the order is DONE, OK,
0 at once, else it is ACCEPTED with its record at sent count 0, and the head is examined: with an entry in flight the
line is otherwise as it was, and without one the lines, the senders and the requests are as the examination leaves
them (R105, R112). -/
def Obligations.ReleaseGivesCredit : Prop :=
  ∀ (slot : SlotNo) (n : LineNo) (s : State), StoreSound s → MuteSound s → Posted 5 slot s →
    (s.orderCopy slot).line? = some n → lineHolder s n = none → (s.line n).mode = .active →
    1 ≤ (s.orderCopy slot).p0.toNat → (s.orderCopy slot).p0.toNat ≤ 24 →
    (s.line n).discipline = .held →
    let credit := min (s.orderCopy slot).p0.toNat (s.line n).queue.dialledCount
    let credited : Line :=
      { s.line n with
        queue := { (s.line n).queue with credit := credit, order := some (.release slot 0 false) } }
    ∃ t, exec (.release slot) s = .next t ∧ SweptPast slot s t ∧
      (credit = 0 →
        t.line n = { s.line n with queue := { (s.line n).queue with credit := 0 } } ∧
        (∀ m : LineNo, m ≠ n → t.line m = s.line m) ∧
        SlotShows t slot slotDone .ok 0 ∧ t.causes.order = true ∧
        t.board.accepted = s.board.accepted ∧ StoreFrame s t (outcomeRegions slot n) ∧
        t = { s with lines := t.lines, store := t.store, board := t.board, causes := t.causes }) ∧
      (0 < credit →
        SettlesAs (examineHead n (s.setLine n credited)) t ∧
        ((s.line n).queue.flight.isSome = true →
          t.line n = credited ∧ (∀ m : LineNo, m ≠ n → t.line m = s.line m) ∧
          t.senders = s.senders ∧ t.waitList = s.waitList ∧
          StoreFrame s t [(slotAddress slot, 1), (imageAddress n, 12)]) ∧
        t.peek (slotAddress slot) = slotAccepted ∧
        t.peek (slotAddress slot + 7) = s.peek (slotAddress slot + 7) ∧
        t.board.accepted =
          s.board.accepted ++
            [{ slot := slot, kind := .release, line := some n, copy := s.orderCopy slot
               ahead := s.board.accepted.length }] ∧
        StoreFrame s t (sendingRegions slot) ∧
        t = { s with
          lines := t.lines, senders := t.senders, waitList := t.waitList, store := t.store
          board := t.board })

/-- INJECT into an ACTIVE call with room for the string: the whole string is appended in order as ORDERED entries owned
by the slot, 16 a PAUSE of the clamped length and 17 a RECALL, the first-digit timer stops, and the order is ACCEPTED
with its count remaining; then the head is examined: with an entry in flight the line is otherwise as it was, and
without one the lines, the senders and the requests are as the examination leaves them (R25, R105, R114). -/
def Obligations.InjectAppendsTheString : Prop :=
  ∀ (slot : SlotNo) (n : LineNo) (s : State), StoreSound s → MuteSound s → Posted 6 slot s →
    (s.orderCopy slot).line? = some n → lineHolder s n = none → (s.line n).mode = .active →
    1 ≤ (s.orderCopy slot).injectCount → (s.orderCopy slot).injectCount ≤ 12 →
    (∀ code ∈ (s.orderCopy slot).injectCodes, code ≤ 17) →
    (s.line n).queue.entries.length + (s.orderCopy slot).injectCount ≤ 24 →
    let pauseMs := max 100 (min 2000 ((s.orderCopy slot).p0.toNat / 256 * 10))
    let injected : Line :=
      { s.line n with
        firstDigit := none
        queue :=
          { (s.line n).queue with
            entries :=
              (s.line n).queue.entries ++
                (s.orderCopy slot).injectCodes.map fun code =>
                  { kind :=
                      if code < 16 then .tone code
                      else if code = 16 then .pause pauseMs else .recall
                    origin := .ordered
                    owner := some slot }
            order := some (.inject slot 0 (s.orderCopy slot).injectCount) } }
    ∃ t, exec (.inject slot) s = .next t ∧
      (s.orderCopy slot).injectCodes.length = (s.orderCopy slot).injectCount ∧
      SettlesAs (examineHead n (s.setLine n injected)) t ∧
      ((s.line n).queue.flight.isSome = true →
        t.line n = injected ∧ (∀ m : LineNo, m ≠ n → t.line m = s.line m) ∧
        t.senders = s.senders ∧ t.waitList = s.waitList ∧
        StoreFrame s t [(slotAddress slot, 1), (imageAddress n, 12)]) ∧
      t.peek (slotAddress slot) = slotAccepted ∧
      t.peek (slotAddress slot + 7) = s.peek (slotAddress slot + 7) ∧
      t.board.accepted =
        s.board.accepted ++
          [{ slot := slot, kind := .inject, line := some n, copy := s.orderCopy slot
             ahead := s.board.accepted.length }] ∧
      SweptPast slot s t ∧ StoreFrame s t (sendingRegions slot) ∧
      t = { s with
        lines := t.lines, senders := t.senders, waitList := t.waitList, store := t.store
        board := t.board }

/-- FLUSH of a line in service: the held queue, the credit and the request go, the entry in flight and the gather stay;
the RELEASE or INJECT is DONE, CANCELLED, with its sent count; the FLUSH is DONE, OK, with the entries discarded
(R117). -/
def Obligations.FlushEmptiesTheQueue : Prop :=
  ∀ (slot : SlotNo) (n : LineNo) (s : State), StoreSound s → MuteSound s → MarkTargetsSound s →
    Posted 7 slot s → (s.orderCopy slot).line? = some n → (s.line n).mode ≠ .out →
    ∃ t, exec (.flush slot) s = .next t ∧
      t.line n =
        { s.line n with
          queue :=
            { (s.line n).queue with
              entries := [], credit := 0, waiting := false, order := none
              flight := (s.line n).queue.flight.map fun f => { f with owned := false } } } ∧
      t.waitList =
        (if (s.line n).queue.waiting then s.waitList.filter fun r => r.line != n
          else s.waitList) ∧
      SlotShows t slot slotDone .ok (s.line n).queue.entries.length ∧ SweptPast slot s t ∧
      t.causes.order = true ∧
      (∀ r : OrderRecord, (s.line n).queue.order = some r → r.slot ≠ slot →
        SlotShows t r.slot slotDone .cancelled r.sent ∧ t.slotHeld r.slot = false) ∧
      ((s.line n).queue.order = none → StoreFrame s t ((0x014, 1) :: outcomeRegions slot n)) ∧
      (∀ m : LineNo, m ≠ n → t.line m = s.line m) ∧
      t = { s with
        lines := t.lines, waitList := t.waitList, store := t.store, board := t.board
        causes := t.causes }

/-- PEEK of a line in service with a target of 240h to 3E6h: the count word and then the entry in flight, marked, and the
queue, head first, are written from the target on; DONE, OK, the count; nothing else changes (R118, R183). -/
def Obligations.PeekWritesTheSnapshot : Prop :=
  ∀ (slot : SlotNo) (n : LineNo) (s : State), StoreSound s → MuteSound s →
    Posted 8 slot s → (s.orderCopy slot).line? = some n → (s.line n).mode ≠ .out →
    0x240 ≤ (s.orderCopy slot).p0.toNat → (s.orderCopy slot).p0.toNat ≤ 0x3E6 →
    (s.line n).queue.entries.length ≤ 24 →
    let target := (s.orderCopy slot).p0.toNat
    let q := (s.line n).queue
    let word (inFlight : Bool) (e : Entry) : Word :=
      asWord ((match e.kind with
          | .tone code => code % 4096 | .recall => 0x4000 | .pause ms => 0x8000 + ms % 4096)
        + (if e.origin = .ordered then 0x2000 else 0) + (if inFlight then 0x1000 else 0))
    let shown := (q.flight.map fun f => word true f.entry).toList ++ q.entries.map (word false)
    ∃ t, exec (.peek slot) s = .next t ∧
      t.words target (shown.length + 1) = asWord shown.length :: shown ∧
      SlotShows t slot slotDone .ok shown.length ∧ SweptPast slot s t ∧
      t.board.accepted = s.board.accepted ∧
      StoreFrame s t
        [(target, shown.length + 1), (slotAddress slot, 1), (slotAddress slot + 7, 1)] ∧
      t = { s with
        store := t.store, board := t.board, causes := { s.causes with order := true } }

/-- MARK with a target in the host area and a flag of 0 or 1: with no order ahead the value is written and the MARK is
DONE, OK, 0, with STATUS.MARK by the flag; else it is ACCEPTED and joins the tail with its ahead count (R163). -/
def Obligations.MarkWritesOrWaits : Prop :=
  ∀ (slot : SlotNo) (s : State), StoreSound s → MuteSound s → Posted 9 slot s →
    0x240 ≤ (s.orderCopy slot).p0.toNat → (s.orderCopy slot).p0.toNat ≤ 0x3FF →
    (s.orderCopy slot).p2 = 0 ∨ (s.orderCopy slot).p2 = 1 →
    ∃ t, exec (.mark slot) s = .next t ∧ SweptPast slot s t ∧
      t = { s with store := t.store, board := t.board, causes := t.causes } ∧
      (s.board.accepted = [] →
        t.peek (s.orderCopy slot).p0.toNat = (s.orderCopy slot).p1 ∧
        SlotShows t slot slotDone .ok 0 ∧ t.board.accepted = [] ∧
        t.causes =
          { s.causes with order := true, mark := s.causes.mark || (s.orderCopy slot).p2 == 1 } ∧
        StoreFrame s t
          [((s.orderCopy slot).p0.toNat, 1), (slotAddress slot, 1), (slotAddress slot + 7, 1)]) ∧
      (s.board.accepted ≠ [] →
        t.peek (slotAddress slot) = slotAccepted ∧ t.causes = s.causes ∧
        t.board.accepted =
          s.board.accepted ++
            [{ slot := slot, kind := .mark, line := none, copy := s.orderCopy slot
               ahead := s.board.accepted.length }] ∧
        StoreFrame s t [(slotAddress slot, 1)])

/-- The completion of the orders ahead completes the waiting MARKs at the head of the list, each with its target
word, result and DONE; the orders from the first that is no MARK on stay (R161, R163). -/
def Obligations.CompletionReleasesMarks : Prop :=
  ∀ (slot : SlotNo) (code : ResultCode) (detail : Nat) (s : State), StoreSound s →
    SlotsDistinct s → MarkTargetsSound s →
    let left := s.board.accepted.filter fun o => o.slot != slot
    let t := completeOrder slot code detail s
    t.board.accepted = left.dropWhile (fun o => decide (o.kind = .mark)) ∧
    SlotShows t slot slotDone code detail ∧ t.causes.order = true ∧
    (∀ o ∈ left.takeWhile (fun o => decide (o.kind = .mark)),
      SlotShows t o.slot slotDone .ok o.ahead ∧ (o.copy.p2 = 1 → t.causes.mark = true)) ∧
    ((left.takeWhile fun o => decide (o.kind = .mark)).Pairwise
        (fun a b => a.copy.p0 ≠ b.copy.p0) →
      ∀ o ∈ left.takeWhile (fun o => decide (o.kind = .mark)),
        t.peek o.copy.p0.toNat = o.copy.p1)

/-- The common checks, in order: UNKNOWN_KIND, a kind of 0 or above 9, is refused UNKNOWN-KIND; a line field above 95, or
above 7 for ADOPT, LINE-RANGE; a LEARN, RELEASE or INJECT of a line that another holds, LINE-BUSY with the
holder's slot. A refused order touches its slot's two words and STATUS.ORDER alone (R159, R160). -/
def Obligations.CommonChecksRefuse : Prop :=
  (∀ (slot : SlotNo) (s : State), StoreSound s → MuteSound s → s.capture.loss = 0 →
     sweepReaches slot s = true → slotIsPosted slot s = true →
     (s.orderCopy slot).kind = 0 ∨ 9 < (s.orderCopy slot).kind →
     ∃ t, exec (.unknownKind slot) s = .next t ∧ Refuses slot .unknownKind 0 s t) ∧
  ∀ (slot : SlotNo) (s : State), StoreSound s → MuteSound s →
    (∀ p ∈ [(1, Instr.openLine slot), (2, .closeLine slot), (4, .learn slot), (5, .release slot),
        (6, .inject slot), (7, .flush slot), (8, .peek slot)],
      Posted p.1 slot s → 96 ≤ (s.orderCopy slot).lineField →
      ∃ t, exec p.2 s = .next t ∧ Refuses slot .lineRange 0 s t) ∧
    (Posted 3 slot s → 8 ≤ (s.orderCopy slot).lineField →
      ∃ t, exec (.adopt slot) s = .next t ∧ Refuses slot .lineRange 0 s t) ∧
    ∀ (n : LineNo) (holder : SlotNo),
      ∀ p ∈ [(4, Instr.learn slot), (5, .release slot), (6, .inject slot)],
      Posted p.1 slot s → (s.orderCopy slot).line? = some n → lineHolder s n = some holder →
      ∃ t, exec p.2 s = .next t ∧ Refuses slot .lineBusy holder.val s t

/-- WITHDRAW in a held slot. A LEARN completes CANCELLED with its passed-over count, learn-pending and the learn mark
cleared; a MARK with 0, its target not written (R77, R162). For the line's RELEASE or INJECT the credit goes to 0, or the
INJECT's entries leave the queue in place; an entry in flight runs on and completes nothing; DONE, CANCELLED, with the
sent count; then the head is examined, which with an entry in flight leaves the line as it is (R105, R116, R162). -/
def Obligations.WithdrawCancelsHeldOrder : Prop :=
  (∀ (slot : SlotNo) (o : HeldOrder) (s : State), StoreSound s → MuteSound s → MarkTargetsSound s →
     SlotsDistinct s → s.capture.loss = 0 → sweepReaches slot s = true →
     s.slotState slot = slotWithdraw → o ∈ s.board.accepted → o.slot = slot →
     ∃ t, exec (.withdraw slot) s = .next t ∧ SweptPast slot s t ∧
       (∀ (n : LineNo) (e : Estimator) (x : Learn), o.kind = .learn → o.line = some n →
         (s.line n).estimator = some e → e.learn = some x → x.slot = slot →
         t.line n =
           { s.line n with estimator := some { e with learnMark := false, learn := none } } ∧
         SlotShows t slot slotDone .cancelled x.passedOver ∧ t.slotHeld slot = false ∧
         t.causes.order = true ∧ ∀ m : LineNo, m ≠ n → t.line m = s.line m) ∧
       (o.kind = .mark →
         SlotShows t slot slotDone .cancelled 0 ∧ t.slotHeld slot = false ∧ t.lines = s.lines ∧
         (s.board.accepted = [o] →
           StoreFrame s t [(slotAddress slot, 1), (slotAddress slot + 7, 1)] ∧
             t.causes = { s.causes with order := true }))) ∧
  ∀ (slot : SlotNo) (o : HeldOrder) (n : LineNo) (r : OrderRecord) (s : State),
    StoreSound s → MuteSound s → MarkTargetsSound s → SlotsDistinct s → EntriesSound s →
    s.capture.loss = 0 → sweepReaches slot s = true → s.slotState slot = slotWithdraw →
    o ∈ s.board.accepted → o.slot = slot → o.line = some n →
    o.kind = .release ∨ o.kind = .inject → (s.line n).queue.order = some r → r.slot = slot →
    let left : Line :=
      { s.line n with
        queue :=
          { (s.line n).queue with
            order := none
            flight := (s.line n).queue.flight.map fun f => { f with owned := false }
            credit := if o.kind = .release then 0 else (s.line n).queue.credit
            entries :=
              if o.kind = .inject then
                (s.line n).queue.entries.filter fun e => decide (e.owner ≠ some slot)
              else (s.line n).queue.entries } }
    ∃ t, exec (.withdraw slot) s = .next t ∧ SweptPast slot s t ∧
      SettlesAs (examineHead n (s.setLine n left)) t ∧
      ((s.line n).queue.flight.isSome = true →
        t.line n = left ∧ (∀ m : LineNo, m ≠ n → t.line m = s.line m) ∧
        t.senders = s.senders ∧ t.waitList = s.waitList) ∧
      SlotShows t slot slotDone .cancelled r.sent ∧ t.slotHeld slot = false ∧
      t.causes.order = true

/-- The kinds' own checks, in the order of their chapters, each with its code and detail: OPEN (R18), CLOSE (R33), LEARN
(R73), RELEASE (R112), INJECT (R114), FLUSH (R117), PEEK (R118), MARK (R163). -/
def Obligations.KindChecksRefuse : Prop :=
  ∀ (slot : SlotNo) (n : LineNo) (s : State), StoreSound s → MuteSound s →
    let c := s.orderCopy slot
    let q := (s.line n).queue
    let refuses (row : Instr) (code : ResultCode) (detail : Nat) : Prop :=
      ∃ t, exec row s = .next t ∧ Refuses slot code detail s t
    (c.line? = some n →
      (Posted 1 slot s →
        ((s.line n).mode ≠ .out → refuses (.openLine slot) .lineState 0) ∧
        ((s.line n).mode = .out →
          (7 < c.p0.toNat ∨ ∀ p : ProfileNo, p.val = c.p0.toNat → (s.profile p).adopted = none) →
          refuses (.openLine slot) .profileNotInForce 0) ∧
        (∀ p : ProfileNo, (s.line n).mode = .out → p.val = c.p0.toNat →
          (s.profile p).adopted.isSome = true → c.p1 ≠ 0 → c.p1 ≠ 1 →
          refuses (.openLine slot) .badParameter 0)) ∧
      ((s.line n).mode = .out →
        (Posted 2 slot s → refuses (.closeLine slot) .lineState 0) ∧
        (Posted 7 slot s → refuses (.flush slot) .lineState 0) ∧
        (Posted 8 slot s → refuses (.peek slot) .lineState 0) ∧
        (Posted 4 slot s → lineHolder s n = none → refuses (.learn slot) .lineState 0)) ∧
      (Posted 8 slot s → (s.line n).mode ≠ .out → c.p0.toNat < 0x240 ∨ 0x3E6 < c.p0.toNat →
        refuses (.peek slot) .badTarget 0) ∧
      (Posted 5 slot s → lineHolder s n = none →
        ((s.line n).mode ≠ .active → refuses (.release slot) .lineState 0) ∧
        ((s.line n).mode = .active → c.p0.toNat = 0 ∨ 24 < c.p0.toNat →
          refuses (.release slot) .badParameter 0) ∧
        ((s.line n).mode = .active → 1 ≤ c.p0.toNat → c.p0.toNat ≤ 24 →
          (s.line n).discipline ≠ .held → refuses (.release slot) .discipline 0)) ∧
      (Posted 6 slot s → lineHolder s n = none →
        ((s.line n).mode ≠ .active → refuses (.inject slot) .lineState 0) ∧
        ((s.line n).mode = .active → c.injectCount = 0 ∨ 12 < c.injectCount →
          refuses (.inject slot) .badParameter 0) ∧
        (∀ i : Nat, (s.line n).mode = .active → c.injectCount ≤ 12 → i < c.injectCount →
          (∀ j < i, c.injectCodes.getD j 0 ≤ 17) → 17 < c.injectCodes.getD i 0 →
          refuses (.inject slot) .badParameter (i + 1)) ∧
        ((s.line n).mode = .active → 1 ≤ c.injectCount → c.injectCount ≤ 12 →
          (∀ code ∈ c.injectCodes, code ≤ 17) → q.entries.length ≤ 24 →
          24 < q.entries.length + c.injectCount →
          refuses (.inject slot) .noRoom (24 - q.entries.length)))) ∧
    (Posted 9 slot s →
      (c.p0.toNat < 0x240 ∨ 0x3FF < c.p0.toNat → refuses (.mark slot) .badTarget 0) ∧
      (0x240 ≤ c.p0.toNat → c.p0.toNat ≤ 0x3FF → c.p2 ≠ 0 → c.p2 ≠ 1 →
        refuses (.mark slot) .badParameter 0))

/-! ### Host writes -/

/-- STORE_WRITE writes one whole word and nothing else (R177). REGISTER_WRITE_IGNORED changes nothing, STATUS_CLEAR clears
the causes named by 1s and nothing else (R179), and NUDGE begins a sweep or holds one whatever the value (R156). The
registers read as R179 says: IDENT 960Ah, NUDGE 0, CLOCK the tick count, STATUS the causes and READY, CONTROL SEND-HOLD
and the masks, and 0 from 1005h on; ATTN is asserted exactly while the part is ready and some cause is set whose mask
is 0 (R180, R181). -/
def Obligations.HostWritesAndRegistersAsLaidOut : Prop :=
  (∀ (a : BitVec 12) (v : Word) (s : State), StoreSound s → s.ready = true →
     ∃ t, exec (.storeWrite a v) s = .next t ∧ t.peek a.toNat = v ∧ hostRead a.toNat t = v ∧
       (∀ b : Nat, b ≠ a.toNat → t.peek b = s.peek b) ∧ t = { s with store := t.store }) ∧
  (∀ (a : BitVec 13) (v : Word) (s : State), (Instr.registerWriteIgnored a v).wellFormed = true →
     exec (.registerWriteIgnored a v) s = .next s) ∧
  (∀ (v : Word) (s : State), s.ready = true →
     exec (.statusClear v) s =
       .next { s with
         causes :=
           { page := s.causes.page && !v.getLsbD 1, fault := s.causes.fault && !v.getLsbD 2
             mark := s.causes.mark && !v.getLsbD 3, order := s.causes.order && !v.getLsbD 4 } }) ∧
  (∀ (v : Word) (s : State), s.ready = true →
     exec (.nudge v) s =
       .next { s with
         board :=
           if s.board.sweepAt.isSome then { s.board with sweepHeld := true }
           else { s.board with sweepAt := some 0 } }) ∧
  (∀ s : State, s.ready = true →
     hostRead 0x1000 s = 0x960A ∧ hostRead 0x1003 s = 0 ∧ hostRead 0x1004 s = s.clock ∧
     (∀ a : Nat, 0x1005 ≤ a → hostRead a s = 0) ∧
     (∀ i : Nat, (hostRead 0x1002 s).getLsbD i =
       match i with
       | 1 => s.causes.page | 2 => s.causes.fault | 3 => s.causes.mark | 4 => s.causes.order
       | 15 => true | _ => false) ∧
     ∀ i : Nat, (hostRead 0x1001 s).getLsbD i =
       match i with
       | 0 => s.control.sendHold | 1 => s.control.mask.page | 2 => s.control.mask.fault
       | 3 => s.control.mask.mark | 4 => s.control.mask.order | _ => false) ∧
  ∀ s : State, s.attn = true ↔
    s.ready = true ∧
      ((s.causes.page = true ∧ s.control.mask.page = false) ∨
        (s.causes.fault = true ∧ s.control.mask.fault = false) ∨
        (s.causes.mark = true ∧ s.control.mask.mark = false) ∨
        (s.causes.order = true ∧ s.control.mask.order = false))

/-- SEND_HOLD_SET, SEND_HOLD_CLEAR and CONTROL_MASK_WRITE: a CONTROL write with SOFT-RESET at 0 takes bits 0 to 4 as
written, and nothing else changes unless it clears a set SEND-HOLD (R134, R179); which row stands for which word is
the model's choice (log 20). Clearing a set SEND-HOLD, by either row whose words have bit 0 at 0, grants until no FREE sender or no request remains
(R126, R135): the first grant gives the lowest-numbered FREE sender to the oldest class-A request, or to the oldest
(R125); no request leaves the list but to a sender, and no bound sender changes. Then every ACTIVE line with nothing in
flight examines its head, and a RECALL or PAUSE at a sendable head starts (R105, R135). The lines, the senders and the
requests are as those grants and examinations leave them; the order board, the capture unit and the causes stand. -/
def Obligations.ControlWriteTakesBits : Prop :=
  (∀ (v : Word) (s : State), s.ready = true → v.getLsbD 15 = false →
     (s.sendHold = false ∨ v.getLsbD 0 = true) →
     let taken : State :=
       { s with
         control :=
           { sendHold := v.getLsbD 0
             mask :=
               { page := v.getLsbD 1, fault := v.getLsbD 2, mark := v.getLsbD 3
                 order := v.getLsbD 4 } } }
     exec (.controlMaskWrite v) s = .next taken ∧ exec (.sendHoldSet v) s = .next taken ∧
       exec (.sendHoldClear v) s = .next taken ∧ hostRead 0x1001 taken = v &&& 0x001F) ∧
  ∀ (v : Word) (s : State), PoolSound s → s.ready = true → s.sendHold = true →
    v.getLsbD 15 = false → v.getLsbD 0 = false →
    ∃ t, exec (.sendHoldClear v) s = .next t ∧ exec (.controlMaskWrite v) s = .next t ∧
      t.sendHold = false ∧
      hostRead 0x1001 t = v &&& 0x001F ∧
      (t.freeSender = none ∨ t.waitList = []) ∧
      SettlesAs (examineAll (grantAll { s with control := t.control })) t ∧
      (∀ k : SenderNo, (s.sender k).isSome = true → t.sender k = s.sender k) ∧
      (∀ r ∈ s.waitList, r ∈ t.waitList ∨ ∃ k : SenderNo, ∃ b ∈ t.sender k, b.line = r.line) ∧
      (∀ (k : SenderNo) (r : Request), s.sender k = none →
        (∀ j : SenderNo, j < k → s.sender j ≠ none) →
        (∃ before after : List Request, s.waitList = before ++ r :: after ∧
          ((r.cls = .a ∧ ∀ q ∈ before, q.cls = .b) ∨
            (r.cls = .b ∧ before = [] ∧ ∀ q ∈ after, q.cls = .b))) →
        ∃ b : Binding, t.sender k = some b ∧ b.line = r.line) ∧
      (∀ (m : LineNo) (e : Entry) (rest : List Entry), (s.line m).mode = .active →
        (s.line m).queue.flight = none → (s.line m).queue.entries = e :: rest →
        (s.line m).sendable e = true → e.kind = .recall ∨ (∃ ms, e.kind = .pause ms) →
        (t.line m).queue.flight.map (·.entry) = some e ∧ (t.line m).queue.entries = rest ∧
        (t.line m).queue.execution =
          (if e.kind = .recall then .recallBreak s.clock else .pause s.clock) ∧
        (t.line m).hold = (if e.kind = .recall then false else (s.line m).hold)) ∧
      t = { s with
        control := t.control, lines := t.lines, senders := t.senders, waitList := t.waitList
        store := t.store }

/-- SOFT_RESET: every line OUT with its raw sample kept, every sender FREE, the wait list empty, every adopted set dropped
and every generation counter kept, held orders REFUSED with RESET, the filling page closed, CLOCK 0; the frame index,
the frame in progress, the presented levels, a sweep, CONTROL and the loss are kept; the shown words are written. A page
closed has USED, PAGE-MARK, LAST-SEQ and FILL-PAGE written, and the page and the sequence counter go on from their
values (R169, R173). No other word of the store changes: the fault slots, FAULT-OVERFLOW, GAP-PENDING, CLOSE-AGE, the host
area, the tone plan, the closed pages, the slots not held, and the raw, P, generation and reason words of every profile
are kept (R15, R36, R94, R140, R164, R173, R182). -/
def Obligations.SoftResetResets : Prop :=
  ∀ (v : Word) (s : State), StoreSound s → SlotsDistinct s → s.ready = true →
    v.getLsbD 15 = true →
    ∃ t, exec (.softReset v) s = .next t ∧
      (∀ n : LineNo, t.line n = Line.outOfService (s.line n).raw) ∧
      (∀ k : SenderNo, t.sender k = none) ∧ t.waitList = [] ∧
      (∀ p : ProfileNo, (t.profile p).adopted = none ∧
        (t.profile p).generation = (s.profile p).generation) ∧
      t.board = { s.board with accepted := [] } ∧
      (∀ o ∈ s.board.accepted, SlotShows t o.slot slotRefused .reset 0) ∧
      (∀ k < 12, t.peek (senderStatusAddress k) = 0xFFFF) ∧ t.peek 0x014 = 0 ∧
      (∀ p : ProfileNo, t.peek (profileAddress p + 28) = 0) ∧
      (∀ (n : LineNo) (i : Nat), i < 12 → t.peek (imageAddress n + i) = 0) ∧
      t.capture.filling = none ∧ t.capture.loss = s.capture.loss ∧
      (s.capture.filling = none → t.capture = s.capture ∧ t.causes.page = s.causes.page) ∧
      (∀ f : Filling, s.capture.filling = some f →
        t.peek (pageAddress s.capture.nextPage) = asWord (s.capture.sequence * 256 + f.count) ∧
        t.peek (pageAddress s.capture.nextPage + 1) = asWord f.position ∧
        t.peek 0x004 = asWord s.capture.sequence ∧
        t.peek 0x003 = asWord ((s.capture.nextPage.val + 1) % 24) ∧
        t.causes.page = true ∧
        t.capture =
          { filling := none, nextPage := s.capture.nextPage + 1
            sequence := if s.capture.sequence = 255 then 1 else s.capture.sequence + 1
            loss := s.capture.loss }) ∧
      StoreFrame s t
        ([(0x008, 13)] ++
          (s.board.accepted.flatMap fun o =>
            [(slotAddress o.slot, 1), (slotAddress o.slot + 7, 1)]) ++
          ((List.finRange 8).map fun p => (profileAddress p + 28, 1)) ++
          ((List.finRange 96).map fun n => (imageAddress n, 12)) ++
          if s.capture.filling.isSome then [(0x003, 2), (pageAddress s.capture.nextPage, 2)]
          else []) ∧
      t.causes.mark = s.causes.mark ∧ t.causes.fault = s.causes.fault ∧
      t.causes.order = (s.causes.order || !s.board.accepted.isEmpty) ∧
      t = { s with
        timeBase := { s.timeBase with clock := 0 }, lines := t.lines, profiles := t.profiles
        senders := t.senders, waitList := t.waitList, board := t.board, capture := t.capture
        causes := t.causes, store := t.store }

/-! ### Tables and formulas -/

/-- The three speeds of an accepted set: P_from rounds 160000 / v half up, falls strictly over 50 to 200, and gives
P_lo16 ≤ P_nom16 ≤ P_hi16 within 800 to 3200 (R86). -/
def Obligations.DerivedSpeedsFollowTheFormula : Prop :=
  (∀ v w : Nat, 50 ≤ v → v < w → w ≤ 200 → periodFrom w < periodFrom v) ∧
  ∀ (raw : List Nat) (g : Nat), raw.length = 23 → profileRefusal raw = none →
    let a := adoptedSet raw g
    a.pNom16 = (160000 + raw.getD 13 0 / 2) / raw.getD 13 0 ∧
    a.pLo16 = (160000 + raw.getD 15 0 / 2) / raw.getD 15 0 ∧
    a.pHi16 = (160000 + raw.getD 14 0 / 2) / raw.getD 14 0 ∧
    800 ≤ a.pLo16 ∧ a.pLo16 ≤ a.pNom16 ∧ a.pNom16 ≤ a.pHi16 ∧ a.pHi16 ≤ 3200

/-- A train start takes P16 and the working mode from the source and the set's mode, sets the learn mark while a LEARN is
pending, and gives a T_id of the period times G, rounded half up and clamped to the gap limits (R64, R65). The
tracking update moves P16 by the eighth of its error, truncated toward zero, and clamps it to the band; within half a
millisecond it does not move (R66). -/
def Obligations.SpeedEstimateFollowsTheRules : Prop :=
  (∀ (e : Estimator) (a : AdoptedSet), a.pLo16 ≤ a.pHi16 → a.gapMin ≤ a.gapMax →
     let e' := e.trainStart a
     (e.source = .profile → a.mode = .fixed → e'.p16 = a.pNom16 ∧ e'.mode = .fixed) ∧
     (e.source = .profile → a.mode = .tracking →
       e'.p16 = max a.pLo16 (min a.pHi16 e.p16) ∧ e'.mode = .tracking) ∧
     (e.source = .learned →
       e'.p16 = max a.pLo16 (min a.pHi16 e.p16) ∧ e'.mode = .learned) ∧
     (e'.learnMark = true ↔ e.learn ≠ none) ∧ e'.source = e.source ∧ e'.learn = e.learn ∧
     interDigit e'.p16 a = max a.gapMin (min a.gapMax ((e'.p16 * a.gapFactor + 64) / 128))) ∧
  ∀ p period low high : Nat, low ≤ p → p ≤ high →
    (p ≤ period * 16 → trackP16 p period low high = min high (p + (period * 16 - p) / 8)) ∧
    (period * 16 ≤ p → trackP16 p period low high = max low (p - (p - period * 16) / 8)) ∧
    (p < period * 16 + 8 → period * 16 < p + 8 → trackP16 p period low high = p)

/-- An OPEN edge in QUIET starts a train: BREAK from the edge's stamp, the train context of the set in force with the T_id of
the adjusted P16, and nothing counted (R39, R40). A CLOSED edge in BREAK, of a break of b ticks: shorter than
break_min it is a hit, from QUIET back to QUIET and from MAKE back to MAKE with the pulse still counted; up to break_max
a candidate pulse (R42, R43, R58). In the first train of a call the first-digit timer runs on (R25). Where the test of the
sub-state it leads to is met at once, it is taken in the same line tick: a candidate pulse whose make has reached
make_min is counted, and stops the timer (R42, R47, R51, R66), and a hit at which T_id is reached ends the train, its digit
handed over and its record marked as hit (R43, R49, R53, R55, R100). -/
def Obligations.EdgesStartTrainsAndEndBreaks : Prop :=
  (∀ (n : LineNo) (high : Bool) (sc : Scan) (a : AdoptedSet) (c : CallContext) (e : Estimator)
     (s : State), EdgeTick n high sc a s → corrected sc.polarity high = .opened → OnCall n c s →
     FirstDigitWaits n s → (s.line n).decoder.sub = .quiet → (s.line n).estimator = some e →
     since s.clock (edgeStampOf sc s) < a.flashMax →
     ∃ t, exec (.lineTick n high) s = .next t ∧ (t.line n).mode = .active ∧
       (t.line n).mute = true ∧
       (t.line n).decoder = startedTrain a e (edgeStampOf sc s) ∧
       (t.line n).firstDigit = (s.line n).ticked.firstDigit ∧
       (t.line n).estimator.map (·.p16) = some (e.trainStart a).p16) ∧
  ∀ (n : LineNo) (high : Bool) (sc : Scan) (a : AdoptedSet) (k : CallContext) (c : TrainContext)
    (bs : Tick) (s : State), EdgeTick n high sc a s → corrected sc.polarity high = .closed →
    OnCall n k s → (s.line n).decoder.sub = .inBreak → (s.line n).decoder.ctx = some c →
    (s.line n).decoder.breakStart = some bs →
    let d := (s.line n).decoder
    let stamp := edgeStampOf sc s
    let b := since stamp bs
    let hits := min 255 ((s.line n).hitCount + 1)
    (b < c.breakMin → d.pulses = 0 → FirstDigitWaits n s →
      ∃ t, exec (.lineTick n high) s = .next t ∧ (t.line n).decoder = .atRest ∧
        (t.line n).firstDigit = (s.line n).ticked.firstDigit ∧ (t.line n).hitCount = hits) ∧
    (b < c.breakMin → 0 < d.pulses → since s.clock (d.makeStart.getD 0) < c.tId →
      FirstDigitWaits n s →
      ∃ t, exec (.lineTick n high) s = .next t ∧
        (t.line n).decoder =
          { d with
            sub := .inMake, pulsePending := false, breakStart := d.countedBreakStart
            candidateMake := none, hits := true } ∧
        (t.line n).firstDigit = (s.line n).ticked.firstDigit ∧ (t.line n).hitCount = hits) ∧
    (b < c.breakMin → 0 < d.pulses → c.tId ≤ since s.clock (d.makeStart.getD 0) →
      ∃ t, exec (.trainEnd n high) s = .next t ∧ (t.line n).decoder = .atRest ∧
        (t.line n).hitCount = hits ∧
        (d.pulses ≤ 10 → (s.line n).queue.entries.length < 24 → NoLearn n s →
          let digit := digitOf c.map d.pulses
          (t.line n).firstDigit = none ∧
          (t.line n).digits =
            (if (s.line n).digits < 65535 then (s.line n).digits + 1 else 65535) ∧
          (TimersWait n k s →
            QueuesAs
              (examineHead n
                (s.queueInTick n fun q =>
                  q.handed k { kind := .tone digit, origin := .dialled, owner := none })) t) ∧
          ∀ addr : Nat, StoreSound s → MarkTargetsSound s →
            RecordGoesTo s (if d.periods = 0 then 4 else 6) addr →
            t.peek (addr + 2) =
              asWord (digit + 16 * d.pulses
                + (if offBand (trainStatistics d) c = true then 256 else 0) + 512))) ∧
    (c.breakMin ≤ b → b ≤ c.breakMax → since s.clock stamp < c.makeMin → FirstDigitWaits n s →
      ∃ t, exec (.lineTick n high) s = .next t ∧
        (t.line n).decoder =
          { d with sub := .inMake, pulsePending := true, makeStart := some stamp } ∧
        (t.line n).firstDigit = (s.line n).ticked.firstDigit ∧
        (t.line n).hitCount = (s.line n).hitCount) ∧
    (c.breakMin ≤ b → b ≤ c.breakMax → c.makeMin ≤ since s.clock stamp →
      ∃ t, exec (.pulseCounted n high) s = .next t ∧
        (t.line n).decoder =
          { d.pulseCounted bs with sub := .inMake, makeStart := some stamp } ∧
        (t.line n).firstDigit = none ∧ (t.line n).hitCount = (s.line n).hitCount ∧
        (t.line n).estimator.map (·.p16) =
          (s.line n).estimator.map fun e => e.p16Counted d bs c)

/-- A CLOSED edge in BREAK, of a break of b ticks with break_max < b < flash_max: with no pulse counted it is a flash, which
hands over a DIALLED RECALL and gives a FLASH record with b, marked LOST when 24 entries stand queued, QUEUE-OVERFLOW
then reported once a call with code 17 (R44, R57, R100); the queue units, the senders and the requests are as the head
examination leaves them behind the hand-over (R103, R105). With a pulse counted it is a long break: the train is lost,
with a MUTILATED record of LONG-BREAK and the count, and nothing is appended (R45, R56). A break of flash_max, which
only D = 1 lets a CLOSED edge end, is a clear, with its record, and the edge then starts a seizure (R27, R28, R46, R20). -/
def Obligations.LongerBreaksAreFlashMutilationOrClear : Prop :=
  (∀ (n : LineNo) (high : Bool) (sc : Scan) (a : AdoptedSet) (k : CallContext) (c : TrainContext)
     (bs : Tick) (s : State) (addr : Nat), StoreSound s → EdgeTick n high sc a s →
     corrected sc.polarity high = .closed → (s.line n).mode = .active → (s.line n).call = some k →
     (s.line n).decoder.sub = .inBreak → (s.line n).decoder.ctx = some c →
     (s.line n).decoder.breakStart = some bs → NoLearn n s → TimersWait n k s →
     RecordGoesTo s 3 addr →
     let d := (s.line n).decoder
     let b := since (edgeStampOf sc s) bs
     c.breakMin ≤ b → c.breakMax < b → b < c.flashMax →
     (d.pulses = 0 → (s.line n).queue.entries.length < 24 →
       ∃ t, exec (.lineTick n high) s = .next t ∧ (t.line n).decoder = .atRest ∧
         (t.line n).firstDigit = none ∧
         QueuesAs
           (examineHead n
             (s.queueInTick n fun q =>
               q.handed k { kind := .recall, origin := .dialled, owner := none })) t ∧
         (t.line n).digits = (s.line n).digits ∧
         t.words addr 3 = [asWord (0x4300 + n.val), s.clock, asWord (b % 2048)] ∧
         t.causes = s.causes) ∧
     (d.pulses = 0 → 24 ≤ (s.line n).queue.entries.length → (s.line n).firstDigit = none →
       ∃ t, exec (.lineTick n high) s = .next t ∧ (t.line n).decoder = .atRest ∧
         QueuesAs (s.queueInTick n fun q => q.restarted k) t ∧
         t.words addr 3 = [asWord (0x4300 + n.val), s.clock, asWord (b % 2048 + 32768)] ∧
         (t.line n).overflowReported = true ∧
         (∀ j : Nat, (s.line n).overflowReported = false → FaultGoesTo s j →
           t.words (faultSlotAddress j) 4 = faultWords .queueOverflow n s.clock 17 ∧
             t.causes.fault = true) ∧
         ((s.line n).overflowReported = true →
           t.causes = s.causes ∧
             ∀ j < 8, t.words (faultSlotAddress j) 4 = s.words (faultSlotAddress j) 4)) ∧
     (1 ≤ d.pulses → (s.line n).firstDigit = none → GatherWaits n s →
       ∃ t, exec (.lineTick n high) s = .next t ∧ (t.line n).decoder = .atRest ∧
         QueuesAs (s.queueInTick n id) t ∧ (t.line n).digits = (s.line n).digits ∧
         t.words addr 3 =
           [asWord (0x3300 + n.val), s.clock, asWord (256 + d.pulses % 256)] ∧
         t.causes = s.causes)) ∧
  ∀ (n : LineNo) (high : Bool) (sc : Scan) (a : AdoptedSet) (c : TrainContext) (bs : Tick)
    (s : State) (addr : Nat), StoreSound s → PoolSound s → MarkTargetsSound s →
    EdgeTick n high sc a s → corrected sc.polarity high = .closed → (s.line n).mode = .active →
    (s.line n).decoder.sub = .inBreak → (s.line n).decoder.ctx = some c →
    (s.line n).decoder.breakStart = some bs → c.breakMin ≤ since (edgeStampOf sc s) bs →
    c.breakMax < since (edgeStampOf sc s) bs → c.flashMax ≤ since (edgeStampOf sc s) bs →
    NoLearn n s → RecordGoesTo s 4 addr →
    ∃ t, exec (.clear n high) s = .next t ∧
      t.line n =
        { s.line n with
          raw := high
          scan := some (sc.turned .closed (edgeStampOf sc s))
          mode := .seizing
          seizure := some { start := edgeStampOf sc s, seizeTime := a.seizeTime }
          hold := false
          mute := false
          call := none
          firstDigit := none
          decoder := .atRest
          estimator := (s.line n).estimator.map fun e => { e with learnMark := false }
          queue := .empty } ∧
      Unserved n t ∧
      t.words addr 4 =
        [asWord (0x5400 + n.val), s.clock,
          asWord ((s.line n).queue.entries.length + (s.line n).queue.flight.isSome.toNat
            + (if 0 < (s.line n).decoder.pulses then 256 else 0)),
          asWord (s.line n).digits]

/-- An OPEN edge in MAKE. With the pulse pending and a make shorter than make_min the make is absorbed: BREAK from its
original start, a hit (R48), and a clear at once where that break has reached flash_max (R41); at make_min or more, as
only D = 1 allows, the pulse is counted first (R48, R47). With the pulse counted and a make shorter than T_id the next break
begins, with the make kept for its period (R50); at T_id or more, as only D = 1 allows, the train ends first, a digit
with room handed over, and the edge starts a new train (R50, R53, R40). In the first train of a call the first-digit timer runs on until
a pulse is counted (R25). A break that begins at the edge's stamp has not reached flash_max. -/
def Obligations.OpenEdgesInMakeAreDecided : Prop :=
  ∀ (n : LineNo) (high : Bool) (sc : Scan) (a : AdoptedSet) (k : CallContext) (c : TrainContext)
    (ms : Tick) (s : State), EdgeTick n high sc a s → corrected sc.polarity high = .opened →
    OnCall n k s → (s.line n).decoder.sub = .inMake → (s.line n).decoder.ctx = some c →
    (s.line n).decoder.makeStart = some ms →
    let d := (s.line n).decoder
    let stamp := edgeStampOf sc s
    let make := since stamp ms
    (∀ bs : Tick, d.pulsePending = true → d.breakStart = some bs → make < c.makeMin →
      since s.clock bs < c.flashMax → FirstDigitWaits n s →
      ∃ t, exec (.lineTick n high) s = .next t ∧
        (t.line n).decoder =
          { d with sub := .inBreak, pulsePending := false, makeStart := none, hits := true } ∧
        (t.line n).firstDigit = (s.line n).ticked.firstDigit ∧
        (t.line n).hitCount = min 255 ((s.line n).hitCount + 1)) ∧
    (∀ bs : Tick, d.pulsePending = true → d.breakStart = some bs → make < c.makeMin →
      c.flashMax ≤ since s.clock bs →
      ∃ t, exec (.clear n high) s = .next t ∧ (t.line n).mode = .idle ∧
        (t.line n).call = none ∧ (t.line n).decoder = .atRest ∧ (t.line n).queue = .empty) ∧
    (∀ bs : Tick, d.pulsePending = true → d.breakStart = some bs → c.makeMin ≤ make →
      make < c.tId → since s.clock stamp < c.flashMax →
      ∃ t, exec (.pulseCounted n high) s = .next t ∧
        (t.line n).decoder =
          { d.pulseCounted bs with
            sub := .inBreak, breakStart := some stamp, candidateMake := some make } ∧
        (t.line n).firstDigit = none ∧ (t.line n).hitCount = (s.line n).hitCount ∧
        (t.line n).estimator.map (·.p16) =
          (s.line n).estimator.map fun e => e.p16Counted d bs c) ∧
    (d.pulsePending = false → make < c.tId → since s.clock stamp < c.flashMax →
      FirstDigitWaits n s →
      ∃ t, exec (.lineTick n high) s = .next t ∧
        (t.line n).decoder =
          { d with sub := .inBreak, breakStart := some stamp, candidateMake := some make } ∧
        (t.line n).firstDigit = (s.line n).ticked.firstDigit ∧
        (t.line n).hitCount = (s.line n).hitCount) ∧
    ∀ e : Estimator, d.pulsePending = false → c.tId ≤ make → since s.clock stamp < a.flashMax →
      (s.line n).estimator = some e → NoLearn n s →
      (FirstDigitWaits n s →
        ∃ t, exec (.trainEnd n high) s = .next t ∧
          (t.line n).decoder = startedTrain a e stamp ∧ (t.line n).mute = true) ∧
      (1 ≤ d.pulses → d.pulses ≤ 10 → TimersWait n k s → (s.line n).queue.entries.length < 24 →
        ∃ t, exec (.trainEnd n high) s = .next t ∧
          (t.line n).decoder = startedTrain a e stamp ∧ (t.line n).mute = true ∧
          (t.line n).firstDigit = none ∧
          (t.line n).digits =
            (if (s.line n).digits < 65535 then (s.line n).digits + 1 else 65535) ∧
          QueuesAs
            (examineHead n
              (s.queueInTick n fun q =>
                q.handed k
                  { kind := .tone (digitOf c.map d.pulses), origin := .dialled, owner := none })) t)

/-- The statistics of a train: the mean period and the make percent, each rounded half up, when it has full periods, with
the percent within 100; none otherwise (R69); OFF-BAND exactly when the mean in sixteenths leaves the band (R70). -/
def Obligations.TrainStatisticsRoundHalfUp : Prop :=
  ∀ (d : Decoder) (c : TrainContext),
    (d.periods = 0 → trainStatistics d = none ∧ offBand (trainStatistics d) c = false) ∧
    (1 ≤ d.periods →
      let mean := (d.periodSum + d.periods / 2) / d.periods
      let percent := (100 * d.makeSum + d.periodSum / 2) / d.periodSum
      trainStatistics d = some (mean, percent) ∧
        (offBand (trainStatistics d) c = true ↔ mean * 16 < c.pLo16 ∨ c.pHi16 < mean * 16) ∧
        (0 < d.periodSum → d.makeSum ≤ d.periodSum → percent ≤ 100))

/-- A marked train with two or more full periods teaches the line floor(16 S / n), clamped to the train's band, and the
LEARN completes OK with it; any other marked train is passed over (R75, R76). TRAIN_END with a valid digit does so, at the
last tick of the LEARN's timer too (R68, R74): a qualifying train completes the LEARN whether its digit is queued or lost,
and its DIGIT record carries the learned P16 (R68, R75). At a valid train end with fewer periods, at a hit in QUIET, a
flash or a long break, at a train end of 11 or more pulses, at a clear, and at a first-digit expiry the learn mark goes,
the count goes up by 1, and the LEARN and P16 stay (R72, R76). -/
def Obligations.QualifyingTrainIsLearned : Prop :=
  (∀ (n : LineNo) (e : Estimator) (x : Learn) (c : TrainContext) (s : State), StoreSound s →
     MarkTargetsSound s → (s.line n).estimator = some e → e.learn = some x → e.learnMark = true →
     (s.line n).decoder.ctx = some c → c.pLo16 ≤ c.pHi16 →
     let d := (s.line n).decoder
     let learned := max c.pLo16 (min c.pHi16 (16 * d.periodSum / d.periods))
     let t := learnFromTrain n s
     (2 ≤ d.periods →
       (t.line n).estimator = some (.taught learned) ∧
       SlotShows t x.slot slotDone .ok learned ∧ t.slotHeld x.slot = false ∧
       t.causes.order = true) ∧
     (d.periods < 2 →
       (t.line n).estimator =
         some
           { e with
             learnMark := false
             learn := some { x with passedOver := min 4095 (x.passedOver + 1) } }) ∧
     ∀ m : LineNo, m ≠ n → t.line m = s.line m) ∧
  (∀ (n : LineNo) (high : Bool) (sc : Scan) (e : Estimator) (x : Learn) (c : TrainContext)
     (ms : Tick) (s : State), StoreSound s → MarkTargetsSound s → SteadyTick n high sc s →
     sc.level = .closed → (s.line n).mode = .active → (s.line n).decoder.sub = .inMake →
     (s.line n).decoder.pulsePending = false → (s.line n).decoder.ctx = some c →
     (s.line n).decoder.makeStart = some ms → c.tId ≤ since s.clock ms → c.pLo16 ≤ c.pHi16 →
     (s.line n).estimator = some e → e.learn = some x → e.learnMark = true →
     (∀ r ∈ (s.line n).queue.order, r.slot ≠ x.slot) → 1 ≤ (s.line n).decoder.pulses →
     (s.line n).decoder.pulses ≤ 10 → 2 ≤ (s.line n).decoder.periods →
     let d := (s.line n).decoder
     let learned := max c.pLo16 (min c.pHi16 (16 * d.periodSum / d.periods))
     ∃ t, exec (.trainEnd n high) s = .next t ∧ (t.line n).decoder = .atRest ∧
       (t.line n).estimator = some (.taught learned) ∧
       SlotShows t x.slot slotDone .ok learned ∧ t.slotHeld x.slot = false ∧
       t.causes.order = true ∧
       ∀ addr : Nat, RecordGoesTo s 6 addr → t.peek (addr + 3) = asWord learned) ∧
  ∀ (n : LineNo) (high : Bool) (sc : Scan) (e : Estimator) (x : Learn) (c : TrainContext)
    (s : State), (s.line n).estimator = some e → e.learn = some x → e.learnMark = true →
    x.timer.count + 1 < x.timer.limit → (s.line n).mode = .active →
    let d := (s.line n).decoder
    (∀ (a : AdoptedSet) (bs : Tick), EdgeTick n high sc a s →
      corrected sc.polarity high = .closed → d.sub = .inBreak → d.ctx = some c →
      d.breakStart = some bs →
      let b := since (edgeStampOf sc s) bs
      (b < c.breakMin ∧ d.pulses = 0) ∨ (c.breakMin ≤ b ∧ c.breakMax < b ∧ b < c.flashMax) →
      ∃ t, exec (.lineTick n high) s = .next t ∧
        (t.line n).estimator = some (e.passedOver x)) ∧
    (∀ ms : Tick, SteadyTick n high sc s → sc.level = .closed → d.sub = .inMake →
      d.pulsePending = false → d.ctx = some c → d.makeStart = some ms →
      c.tId ≤ since s.clock ms → 10 < d.pulses ∨ d.periods < 2 →
      ∃ t, exec (.trainEnd n high) s = .next t ∧
        (t.line n).estimator = some (e.passedOver x)) ∧
    (SteadyTick n high sc s → sc.level = .opened → d.sub = .inBreak →
      d.limit (·.flashMax) ≤ d.sinceBreak s.clock →
      ∃ t, exec (.clear n high) s = .next t ∧ (t.line n).estimator = some (e.passedOver x)) ∧
    ∀ tm : Timer, SteadyTick n high sc s → DecoderWaits n s → (s.line n).firstDigit = some tm →
      tm.limit ≤ tm.count + 1 →
      ∃ t, exec (.firstDigitExpiry n high) s = .next t ∧
        (t.line n).estimator = some (e.passedOver x)

/-- The head entry is sendable by its origin and the discipline (R101). The head examination acts on an ACTIVE line with
nothing in flight alone, and by the rows of R105: on an empty queue a request is withdrawn; a TONE that may not go
withdraws it; a sendable TONE posts one, which joins the tail when SEND-HOLD is set, and is an occasion for a grant else
(R106, R107, R124, R126); a RECALL or PAUSE withdraws a request, starts when it may go and SEND-HOLD is clear (R110,
R111), and otherwise nothing starts. But for a grant, no sender and no other line changes. -/
def Obligations.HeadExaminationActs : Prop :=
  (∀ (l : Line) (c : CallContext) (e : Entry), l.call = some c →
     (l.sendable e = true ↔
       e.origin = .ordered ∨ c.discipline = .immediate ∨
         (c.discipline = .gather ∧ l.queue.satisfied = true) ∨
         (c.discipline = .held ∧ 0 < l.queue.credit))) ∧
  (∀ (n : LineNo) (s : State),
     (s.line n).mode ≠ .active ∨ (s.line n).queue.flight.isSome = true → examineHead n s = s) ∧
  ∀ (n : LineNo) (c : CallContext) (s : State),
    (s.line n).mode = .active → (s.line n).call = some c → (s.line n).queue.flight = none →
    let q := (s.line n).queue
    let t := examineHead n s
    let withdrawn : Prop :=
      t.waitList = (if q.waiting then s.waitList.filter fun r => r.line != n else s.waitList) ∧
      (∀ m : LineNo, m ≠ n → t.line m = s.line m) ∧
      t = { s with lines := t.lines, waitList := t.waitList }
    let nothingStarts : Prop :=
      t.line n = { s.line n with queue := { q with waiting := false } } ∧ withdrawn
    let posted : List Request :=
      s.waitList ++
        [{ line := n, cls := c.cls, senderWait := c.senderWait, waitCount := 0
           expired := false, age := 0 }]
    let asking : Line := { s.line n with queue := { q with waiting := true } }
    (q.entries = [] → nothingStarts) ∧
    ∀ (e : Entry) (rest : List Entry), q.entries = e :: rest →
      (∀ code : Nat, e.kind = .tone code →
        ((s.line n).sendable e = false → nothingStarts) ∧
        ((s.line n).sendable e = true → q.waiting = true → t = s) ∧
        ((s.line n).sendable e = true → q.waiting = false → s.sendHold = true →
          t.line n = asking ∧ t.waitList = posted ∧
          (∀ m : LineNo, m ≠ n → t.line m = s.line m) ∧
          t = { s with lines := t.lines, waitList := t.waitList }) ∧
        ((s.line n).sendable e = true → q.waiting = false → s.sendHold = false →
          t = grantOnce ((s.setLine n asking).setWaitList posted))) ∧
      (e.kind = .recall → (s.line n).sendable e = true → s.sendHold = false →
        withdrawn ∧
        t.line n =
          { s.line n with
            hold := false
            queue :=
              { q.headLeft c.discipline e rest with execution := .recallBreak s.clock } }) ∧
      (∀ ms : Nat, e.kind = .pause ms → (s.line n).sendable e = true → s.sendHold = false →
        withdrawn ∧
        t.line n =
          { s.line n with
            queue := { q.headLeft c.discipline e rest with execution := .pause s.clock } }) ∧
      ((e.kind = .recall ∨ ∃ ms, e.kind = .pause ms) →
        (s.line n).sendable e = false ∨ s.sendHold = true → nothingStarts)

/-- A grant takes the lowest-numbered FREE sender and the oldest class-A request, or, with none of class A, the oldest; the
request leaves the list, the others keep their order, and the sender is bound to the request's line (R125, R126). -/
def Obligations.GrantChoosesSenderAndRequest : Prop :=
  ∀ s : State, PoolSound s →
    (s.sendHold = true ∨ s.freeSender = none ∨ s.waitList = [] → grantOnce s = s) ∧
    ∀ (k : SenderNo) (r : Request), s.sendHold = false → s.sender k = none →
      (∀ j : SenderNo, j < k → s.sender j ≠ none) →
      (∃ before after : List Request, s.waitList = before ++ r :: after ∧
        ((r.cls = .a ∧ ∀ q ∈ before, q.cls = .b) ∨
          (r.cls = .b ∧ before = [] ∧ ∀ q ∈ after, q.cls = .b))) →
      let t := grantOnce s
      t.waitList = (s.waitList.filter fun q => q.line != r.line) ∧
      t.waitList.length + 1 = s.waitList.length ∧
      (∃ b : Binding, t.sender k = some b ∧ b.line = r.line ∧ b.phase = .tone ∧
        b.accLow = 0 ∧ b.accHigh = 0 ∧ b.countdown = b.tone.onMs * 8) ∧
      (∀ j : SenderNo, j ≠ k → t.sender j = s.sender j) ∧
      (t.line r.line).queue.waiting = false ∧ (t.line r.line).queue.flight.isSome = true ∧
      ∀ m : LineNo, m ≠ r.line → t.line m = s.line m

/-- A binding reads the six words of the tone plan entry, clamps them to the played ranges (R143, R144) and computes the two
increments (R146). The sample lies between −16379 and 16378, fits 16 bits, is 0 at the start of a tone, and rounds
toward minus infinity; the sine table has the symmetries and the extremes of the sine (R147 to R149). -/
def Obligations.ToneValuesAndSamples : Prop :=
  (∀ (s : State) (code : Nat), code < 16 →
     let word (i : Nat) : Nat := (s.peek (0x1C0 + 8 * code + i)).toNat
     let v := readTone s.store code
     v.low = max 200 (min 3800 (word 0)) ∧ v.high = max 200 (min 3800 (word 1)) ∧
     v.onMs = max 30 (min 500 (word 2)) ∧ v.offMs = max 30 (min 500 (word 3)) ∧
     v.levelLow = min 4095 (word 4) ∧ v.levelHigh = min 4095 (word 5) ∧
     v.incLow.toNat = (v.low * 65536 + 4000) / 8000 ∧
     v.incHigh.toNat = (v.high * 65536 + 4000) / 8000 ∧
     1638 ≤ v.incLow.toNat ∧ v.incLow.toNat ≤ 31130 ∧
     1638 ≤ v.incHigh.toNat ∧ v.incHigh.toNat ≤ 31130) ∧
  (∀ (p q : BitVec 16) (l h : Nat), l ≤ 4095 → h ≤ 4095 →
    -16379 ≤ sampleValue p q l h ∧ sampleValue p q l h ≤ 16378 ∧
      (BitVec.ofInt 16 (sampleValue p q l h)).toInt = sampleValue p q l h ∧
      4096 * sampleValue p q l h ≤ sine (p.toNat / 256) * l + sine (q.toNat / 256) * h ∧
      sine (p.toNat / 256) * l + sine (q.toNat / 256) * h < 4096 * sampleValue p q l h + 4096) ∧
  (∀ l h : Nat, sampleValue 0 0 l h = 0) ∧
  (∀ k : Nat, k ≤ 128 → sine (128 - k) = sine k) ∧
  (∀ k : Nat, k < 128 → sine (128 + k) = -sine k) ∧
  (∀ k : Nat, k < 256 → -8191 ≤ sine k ∧ sine k ≤ 8191) ∧ sine 64 = 8191 ∧ sine 192 = -8191

/-- A record handed to the capture unit. With no loss pending it goes into the filling page if it fits; if it does not, or no page
is filling, into the next page if its PAGE-MARK reads 0; and it is lost, the pending loss raised, if that page is not
free, closed pages behind it (R168 to R170). While a loss is pending it is lost as well when the next page is not free,
the loss saturating at 65535, and otherwise stands behind a GAP record that counts the loss (R171). -/
def Obligations.RecordIsPlacedOrLost : Prop :=
  (∀ (ws : List Word) (s : State), StoreSound s → 3 ≤ ws.length → ws.length ≤ 6 →
     s.capture.loss = 0 →
     let t := captureWords ws s
     (∀ f : Filling, s.capture.filling = some f → f.position + ws.length ≤ 64 →
       t.words (pageAddress s.capture.nextPage + f.position) ws.length = ws ∧
       t.capture =
         { s.capture with
           filling := some { f with position := f.position + ws.length, count := f.count + 1 } } ∧
       StoreFrame s t [(pageAddress s.capture.nextPage + f.position, ws.length)] ∧
       t.causes = s.causes) ∧
     (s.capture.filling = none → s.peek (pageAddress s.capture.nextPage) = 0 →
       t.words (pageAddress s.capture.nextPage + 2) ws.length = ws ∧
       t.capture =
         { s.capture with filling := some { position := 2 + ws.length, count := 1, age := 0 } } ∧
       StoreFrame s t [(pageAddress s.capture.nextPage + 2, ws.length)] ∧
       t.causes = s.causes) ∧
     (s.capture.filling = none → s.peek (pageAddress s.capture.nextPage) ≠ 0 →
       t.capture = { s.capture with loss := 1 } ∧ t.peek 0x006 = 1 ∧ StoreFrame s t [(0x006, 1)] ∧
       t.causes = s.causes) ∧
     ∀ f : Filling, s.capture.filling = some f → 64 < f.position + ws.length →
       t.capture.nextPage = s.capture.nextPage + 1 ∧ t.causes.page = true ∧
       t.peek (pageAddress s.capture.nextPage) = asWord (s.capture.sequence * 256 + f.count) ∧
       t.peek (pageAddress s.capture.nextPage + 1) = asWord f.position ∧
       (s.peek (pageAddress (s.capture.nextPage + 1)) = 0 →
         t.words (pageAddress (s.capture.nextPage + 1) + 2) ws.length = ws ∧
         t.capture.filling = some { position := 2 + ws.length, count := 1, age := 0 }) ∧
       (s.peek (pageAddress (s.capture.nextPage + 1)) ≠ 0 →
         t.capture.filling = none ∧ t.capture.loss = 1)) ∧
  ∀ (ws : List Word) (s : State), StoreSound s → 3 ≤ ws.length → ws.length ≤ 6 →
    0 < s.capture.loss →
    let t := captureWords ws s
    (s.peek (pageAddress s.capture.nextPage) = 0 →
      t.words (pageAddress s.capture.nextPage + 2) (3 + ws.length) =
        0x8300 :: s.clock :: asWord s.capture.loss :: ws ∧
      t.peek 0x006 = 0 ∧
      t.capture =
        { s.capture with
          filling := some { position := 5 + ws.length, count := 2, age := 0 }, loss := 0 }) ∧
    (s.peek (pageAddress s.capture.nextPage) ≠ 0 →
      t.capture =
        { s.capture with
          loss := if s.capture.loss < 65535 then s.capture.loss + 1 else 65535 })

/-- A fault reported: under FAULT-OVERFLOW it is dropped; else it fills the lowest free slot and sets STATUS.FAULT; else, with no
slot free, FAULT-OVERFLOW is written 1 and STATUS.FAULT set (R175). -/
def Obligations.FaultFillsTheLowestFreeSlot : Prop :=
  ∀ (kind : FaultKind) (n : LineNo) (detail : Nat) (s : State), StoreSound s →
    let t := reportFault kind n detail s
    (s.peek 0x005 ≠ 0 → t = s) ∧
    (∀ k : Nat, FaultGoesTo s k →
      t.words (faultSlotAddress k) 4 = faultWords kind n s.clock detail ∧
      StoreFrame s t [(faultSlotAddress k, 4)] ∧
      t = { s with store := t.store, causes := { s.causes with fault := true } }) ∧
    (s.peek 0x005 = 0 → (∀ k < 8, s.peek (faultSlotAddress k) ≠ 0) →
      t.peek 0x005 = 1 ∧ StoreFrame s t [(0x005, 1)] ∧
      t = { s with store := t.store, causes := { s.causes with fault := true } })

/-! ### Laws that every step keeps -/

/-- Laws 1, 3, 4 and 12, with what R30, R26 and R106 say of the queue unit, are kept by every step, together with a decoder
at rest outside ACTIVE (R37) and a set in force for every line in service (R18, R91). -/
def Obligations.QueueAndPoolLawsKept : Prop := KeptByStep fun s => PoolSound s ∧ ServiceSound s

/-- HOLD stays on exactly for an ACTIVE line outside the break of a recall execution (R31), kept together with the
pool's laws. -/
def Obligations.HoldLawKept : Prop :=
  KeptByStep fun s => PoolSound s ∧ ServiceSound s ∧ HoldSound s

/-- The words that show the part stand as R138, R139 and R178 have them, laid out by R183: words 0 to 11 of every line's
image, the bound line of every sender, at a grant as at every other change, and the number of requests. Every command
keeps them but a host write into such a word, with at most 24 entries queued (law 1) and every MARK's target in the host
area (R163). When within an event a word is written is the model's choice (log 10). -/
def Obligations.ShownWordsKept : Prop :=
  ∀ (c : Instr) (s : State), c.wellFormed = true → StoreSound s → MarkTargetsSound s →
    (∀ n : LineNo, (s.line n).queue.entries.length ≤ 24) → ShownSound s →
    (∀ a v, c = .storeWrite a v → shownAddress a.toNat = false) →
    ∃ t, exec c s = .next t ∧ ShownSound t

/-- Law 11, the slots of the acceptance list, the targets of its MARKs, and the sweep's slot, are kept by every step
(R155, R156, R159, R163). -/
def Obligations.OrderBoardLawsKept : Prop :=
  KeptByStep fun s => OnePerLine s ∧ SlotsDistinct s ∧ MarkTargetsSound s ∧ SweepSound s

/-- Law 5, with the bands that the estimates are clamped to, is kept by every step (R62). -/
def Obligations.SpeedLawKept : Prop := KeptByStep SpeedsSound

/-- The store's canonical form is kept by every step. It is the model's form of the store (log 15). -/
def Obligations.StoreFormKept : Prop := KeptByStep StoreSound

/-- MUTE stays on exactly under the conditions of R32, and a line OUT stays bare (R11, R30). -/
def Obligations.MuteAndOutLawsKept : Prop := KeptByStep fun s => MuteSound s ∧ OutLinesBare s

/-- The capture unit's counts stay in range, a pending loss excludes a filling page, and a page holds at most 20 records
(R167, R168, R170); generations, debounce runs, tone values and the entries of the queues each stay in their ranges
(R8, R54, R81, R114, R122, R144). -/
def Obligations.CaptureAndRangeLawsKept : Prop :=
  KeptByStep CaptureSound ∧ KeptByStep GenerationsSound ∧ KeptByStep ScanSound ∧
    KeptByStep SendersSound ∧ KeptByStep EntriesSound

/-- The part after reset is as store initialisation leaves it (R181; the model's choice of moment, log 2), with no
command waiting (log 1), and meets every law. -/
def Obligations.ResetMeetsTheLaws : Prop :=
  let s := State.reset
  Initialised s ∧ s.pending = [] ∧
  PoolSound s ∧ ServiceSound s ∧ HoldSound s ∧ ShownSound s ∧ EntriesSound s ∧ OnePerLine s ∧
    SlotsDistinct s ∧ MarkTargetsSound s ∧ SweepSound s ∧ SpeedsSound s ∧ StoreSound s ∧
    MuteSound s ∧ OutLinesBare s ∧ CaptureSound s ∧ GenerationsSound s ∧ ScanSound s ∧
    SendersSound s
end

