-- ==== Sys2Proof/Laws/State.lean ====
section
/-! SUPPORT. What each update of the state leaves in each field, one lemma per field per update, and reads of a
line, a sender or a profile after an update. -/

namespace Sys2Proof.Machine

variable (s : State)

/-! ### setLine -/

@[simp] theorem State.setLine_pending (n : LineNo) (l : Line) :
    (s.setLine n l).pending = s.pending :=
  rfl

@[simp] theorem State.setLine_ready (n : LineNo) (l : Line) : (s.setLine n l).ready = s.ready := rfl

@[simp] theorem State.setLine_timeBase (n : LineNo) (l : Line) :
    (s.setLine n l).timeBase = s.timeBase :=
  rfl

@[simp] theorem State.setLine_scanBus (n : LineNo) (l : Line) :
    (s.setLine n l).scanBus = s.scanBus :=
  rfl

@[simp] theorem State.setLine_lines (n : LineNo) (l : Line) :
    (s.setLine n l).lines = s.lines.set n l :=
  rfl

@[simp] theorem State.setLine_profiles (n : LineNo) (l : Line) :
    (s.setLine n l).profiles = s.profiles :=
  rfl

@[simp] theorem State.setLine_senders (n : LineNo) (l : Line) :
    (s.setLine n l).senders = s.senders :=
  rfl

@[simp] theorem State.setLine_waitList (n : LineNo) (l : Line) :
    (s.setLine n l).waitList = s.waitList :=
  rfl

@[simp] theorem State.setLine_highway (n : LineNo) (l : Line) :
    (s.setLine n l).highway = s.highway :=
  rfl

@[simp] theorem State.setLine_board (n : LineNo) (l : Line) : (s.setLine n l).board = s.board := rfl

@[simp] theorem State.setLine_capture (n : LineNo) (l : Line) :
    (s.setLine n l).capture = s.capture :=
  rfl

@[simp] theorem State.setLine_control (n : LineNo) (l : Line) :
    (s.setLine n l).control = s.control :=
  rfl

@[simp] theorem State.setLine_causes (n : LineNo) (l : Line) :
    (s.setLine n l).causes = s.causes :=
  rfl

@[simp] theorem State.setLine_store (n : LineNo) (l : Line) : (s.setLine n l).store = s.store := rfl

@[simp] theorem State.setLine_sender (n : LineNo) (l : Line) (k' : SenderNo) :
    (s.setLine n l).sender k' = s.sender k' :=
  rfl

@[simp] theorem State.setLine_profile (n : LineNo) (l : Line) (p' : ProfileNo) :
    (s.setLine n l).profile p' = s.profile p' :=
  rfl

@[simp] theorem State.setLine_clock (n : LineNo) (l : Line) : (s.setLine n l).clock = s.clock := rfl

@[simp] theorem State.setLine_sendHold (n : LineNo) (l : Line) :
    (s.setLine n l).sendHold = s.sendHold :=
  rfl

@[simp] theorem State.setLine_peek (n : LineNo) (l : Line) (a' : Nat) :
    (s.setLine n l).peek a' = s.peek a' :=
  rfl

/-! ### setSender -/

@[simp] theorem State.setSender_pending (k : SenderNo) (b : Option Binding) :
    (s.setSender k b).pending = s.pending :=
  rfl

@[simp] theorem State.setSender_ready (k : SenderNo) (b : Option Binding) :
    (s.setSender k b).ready = s.ready :=
  rfl

@[simp] theorem State.setSender_timeBase (k : SenderNo) (b : Option Binding) :
    (s.setSender k b).timeBase = s.timeBase :=
  rfl

@[simp] theorem State.setSender_scanBus (k : SenderNo) (b : Option Binding) :
    (s.setSender k b).scanBus = s.scanBus :=
  rfl

@[simp] theorem State.setSender_lines (k : SenderNo) (b : Option Binding) :
    (s.setSender k b).lines = s.lines :=
  rfl

@[simp] theorem State.setSender_profiles (k : SenderNo) (b : Option Binding) :
    (s.setSender k b).profiles = s.profiles :=
  rfl

@[simp] theorem State.setSender_senders (k : SenderNo) (b : Option Binding) :
    (s.setSender k b).senders = s.senders.set k b :=
  rfl

@[simp] theorem State.setSender_waitList (k : SenderNo) (b : Option Binding) :
    (s.setSender k b).waitList = s.waitList :=
  rfl

@[simp] theorem State.setSender_highway (k : SenderNo) (b : Option Binding) :
    (s.setSender k b).highway = s.highway :=
  rfl

@[simp] theorem State.setSender_board (k : SenderNo) (b : Option Binding) :
    (s.setSender k b).board = s.board :=
  rfl

@[simp] theorem State.setSender_capture (k : SenderNo) (b : Option Binding) :
    (s.setSender k b).capture = s.capture :=
  rfl

@[simp] theorem State.setSender_control (k : SenderNo) (b : Option Binding) :
    (s.setSender k b).control = s.control :=
  rfl

@[simp] theorem State.setSender_causes (k : SenderNo) (b : Option Binding) :
    (s.setSender k b).causes = s.causes :=
  rfl

@[simp] theorem State.setSender_store (k : SenderNo) (b : Option Binding) :
    (s.setSender k b).store = s.store :=
  rfl

@[simp] theorem State.setSender_line (k : SenderNo) (b : Option Binding) (j : LineNo) :
    (s.setSender k b).line j = s.line j :=
  rfl

@[simp] theorem State.setSender_profile (k : SenderNo) (b : Option Binding) (p' : ProfileNo) :
    (s.setSender k b).profile p' = s.profile p' :=
  rfl

@[simp] theorem State.setSender_clock (k : SenderNo) (b : Option Binding) :
    (s.setSender k b).clock = s.clock :=
  rfl

@[simp] theorem State.setSender_sendHold (k : SenderNo) (b : Option Binding) :
    (s.setSender k b).sendHold = s.sendHold :=
  rfl

@[simp] theorem State.setSender_peek (k : SenderNo) (b : Option Binding) (a' : Nat) :
    (s.setSender k b).peek a' = s.peek a' :=
  rfl

/-! ### setProfile -/

@[simp] theorem State.setProfile_pending (p : ProfileNo) (x : Profile) :
    (s.setProfile p x).pending = s.pending :=
  rfl

@[simp] theorem State.setProfile_ready (p : ProfileNo) (x : Profile) :
    (s.setProfile p x).ready = s.ready :=
  rfl

@[simp] theorem State.setProfile_timeBase (p : ProfileNo) (x : Profile) :
    (s.setProfile p x).timeBase = s.timeBase :=
  rfl

@[simp] theorem State.setProfile_scanBus (p : ProfileNo) (x : Profile) :
    (s.setProfile p x).scanBus = s.scanBus :=
  rfl

@[simp] theorem State.setProfile_lines (p : ProfileNo) (x : Profile) :
    (s.setProfile p x).lines = s.lines :=
  rfl

@[simp] theorem State.setProfile_profiles (p : ProfileNo) (x : Profile) :
    (s.setProfile p x).profiles = s.profiles.set p x :=
  rfl

@[simp] theorem State.setProfile_senders (p : ProfileNo) (x : Profile) :
    (s.setProfile p x).senders = s.senders :=
  rfl

@[simp] theorem State.setProfile_waitList (p : ProfileNo) (x : Profile) :
    (s.setProfile p x).waitList = s.waitList :=
  rfl

@[simp] theorem State.setProfile_highway (p : ProfileNo) (x : Profile) :
    (s.setProfile p x).highway = s.highway :=
  rfl

@[simp] theorem State.setProfile_board (p : ProfileNo) (x : Profile) :
    (s.setProfile p x).board = s.board :=
  rfl

@[simp] theorem State.setProfile_capture (p : ProfileNo) (x : Profile) :
    (s.setProfile p x).capture = s.capture :=
  rfl

@[simp] theorem State.setProfile_control (p : ProfileNo) (x : Profile) :
    (s.setProfile p x).control = s.control :=
  rfl

@[simp] theorem State.setProfile_causes (p : ProfileNo) (x : Profile) :
    (s.setProfile p x).causes = s.causes :=
  rfl

@[simp] theorem State.setProfile_store (p : ProfileNo) (x : Profile) :
    (s.setProfile p x).store = s.store :=
  rfl

@[simp] theorem State.setProfile_line (p : ProfileNo) (x : Profile) (j : LineNo) :
    (s.setProfile p x).line j = s.line j :=
  rfl

@[simp] theorem State.setProfile_sender (p : ProfileNo) (x : Profile) (k' : SenderNo) :
    (s.setProfile p x).sender k' = s.sender k' :=
  rfl

@[simp] theorem State.setProfile_clock (p : ProfileNo) (x : Profile) :
    (s.setProfile p x).clock = s.clock :=
  rfl

@[simp] theorem State.setProfile_sendHold (p : ProfileNo) (x : Profile) :
    (s.setProfile p x).sendHold = s.sendHold :=
  rfl

@[simp] theorem State.setProfile_peek (p : ProfileNo) (x : Profile) (a' : Nat) :
    (s.setProfile p x).peek a' = s.peek a' :=
  rfl

/-! ### setWaitList -/

@[simp] theorem State.setWaitList_pending (l : List Request) :
    (s.setWaitList l).pending = s.pending :=
  rfl

@[simp] theorem State.setWaitList_ready (l : List Request) :
    (s.setWaitList l).ready = s.ready :=
  rfl

@[simp] theorem State.setWaitList_timeBase (l : List Request) :
    (s.setWaitList l).timeBase = s.timeBase :=
  rfl

@[simp] theorem State.setWaitList_scanBus (l : List Request) :
    (s.setWaitList l).scanBus = s.scanBus :=
  rfl

@[simp] theorem State.setWaitList_lines (l : List Request) :
    (s.setWaitList l).lines = s.lines :=
  rfl

@[simp] theorem State.setWaitList_profiles (l : List Request) :
    (s.setWaitList l).profiles = s.profiles :=
  rfl

@[simp] theorem State.setWaitList_senders (l : List Request) :
    (s.setWaitList l).senders = s.senders :=
  rfl

@[simp] theorem State.setWaitList_waitList (l : List Request) :
    (s.setWaitList l).waitList = l :=
  rfl

@[simp] theorem State.setWaitList_highway (l : List Request) :
    (s.setWaitList l).highway = s.highway :=
  rfl

@[simp] theorem State.setWaitList_board (l : List Request) :
    (s.setWaitList l).board = s.board :=
  rfl

@[simp] theorem State.setWaitList_capture (l : List Request) :
    (s.setWaitList l).capture = s.capture :=
  rfl

@[simp] theorem State.setWaitList_control (l : List Request) :
    (s.setWaitList l).control = s.control :=
  rfl

@[simp] theorem State.setWaitList_causes (l : List Request) :
    (s.setWaitList l).causes = s.causes :=
  rfl

@[simp] theorem State.setWaitList_store (l : List Request) :
    (s.setWaitList l).store = s.store :=
  rfl

@[simp] theorem State.setWaitList_line (l : List Request) (j : LineNo) :
    (s.setWaitList l).line j = s.line j :=
  rfl

@[simp] theorem State.setWaitList_sender (l : List Request) (k' : SenderNo) :
    (s.setWaitList l).sender k' = s.sender k' :=
  rfl

@[simp] theorem State.setWaitList_profile (l : List Request) (p' : ProfileNo) :
    (s.setWaitList l).profile p' = s.profile p' :=
  rfl

@[simp] theorem State.setWaitList_clock (l : List Request) :
    (s.setWaitList l).clock = s.clock :=
  rfl

@[simp] theorem State.setWaitList_sendHold (l : List Request) :
    (s.setWaitList l).sendHold = s.sendHold :=
  rfl

@[simp] theorem State.setWaitList_peek (l : List Request) (a' : Nat) :
    (s.setWaitList l).peek a' = s.peek a' :=
  rfl

/-! ### setAccepted -/

@[simp] theorem State.setAccepted_pending (l : List HeldOrder) :
    (s.setAccepted l).pending = s.pending :=
  rfl

@[simp] theorem State.setAccepted_ready (l : List HeldOrder) :
    (s.setAccepted l).ready = s.ready :=
  rfl

@[simp] theorem State.setAccepted_timeBase (l : List HeldOrder) :
    (s.setAccepted l).timeBase = s.timeBase :=
  rfl

@[simp] theorem State.setAccepted_scanBus (l : List HeldOrder) :
    (s.setAccepted l).scanBus = s.scanBus :=
  rfl

@[simp] theorem State.setAccepted_lines (l : List HeldOrder) :
    (s.setAccepted l).lines = s.lines :=
  rfl

@[simp] theorem State.setAccepted_profiles (l : List HeldOrder) :
    (s.setAccepted l).profiles = s.profiles :=
  rfl

@[simp] theorem State.setAccepted_senders (l : List HeldOrder) :
    (s.setAccepted l).senders = s.senders :=
  rfl

@[simp] theorem State.setAccepted_waitList (l : List HeldOrder) :
    (s.setAccepted l).waitList = s.waitList :=
  rfl

@[simp] theorem State.setAccepted_highway (l : List HeldOrder) :
    (s.setAccepted l).highway = s.highway :=
  rfl

@[simp] theorem State.setAccepted_board (l : List HeldOrder) :
    (s.setAccepted l).board = { s.board with accepted := l } :=
  rfl

@[simp] theorem State.setAccepted_capture (l : List HeldOrder) :
    (s.setAccepted l).capture = s.capture :=
  rfl

@[simp] theorem State.setAccepted_control (l : List HeldOrder) :
    (s.setAccepted l).control = s.control :=
  rfl

@[simp] theorem State.setAccepted_causes (l : List HeldOrder) :
    (s.setAccepted l).causes = s.causes :=
  rfl

@[simp] theorem State.setAccepted_store (l : List HeldOrder) :
    (s.setAccepted l).store = s.store :=
  rfl

@[simp] theorem State.setAccepted_line (l : List HeldOrder) (j : LineNo) :
    (s.setAccepted l).line j = s.line j :=
  rfl

@[simp] theorem State.setAccepted_sender (l : List HeldOrder) (k' : SenderNo) :
    (s.setAccepted l).sender k' = s.sender k' :=
  rfl

@[simp] theorem State.setAccepted_profile (l : List HeldOrder) (p' : ProfileNo) :
    (s.setAccepted l).profile p' = s.profile p' :=
  rfl

@[simp] theorem State.setAccepted_clock (l : List HeldOrder) :
    (s.setAccepted l).clock = s.clock :=
  rfl

@[simp] theorem State.setAccepted_sendHold (l : List HeldOrder) :
    (s.setAccepted l).sendHold = s.sendHold :=
  rfl

@[simp] theorem State.setAccepted_peek (l : List HeldOrder) (a' : Nat) :
    (s.setAccepted l).peek a' = s.peek a' :=
  rfl

/-! ### setSweep -/

@[simp] theorem State.setSweep_pending (k : Option Nat) (h : Bool) :
    (s.setSweep k h).pending = s.pending :=
  rfl

@[simp] theorem State.setSweep_ready (k : Option Nat) (h : Bool) :
    (s.setSweep k h).ready = s.ready :=
  rfl

@[simp] theorem State.setSweep_timeBase (k : Option Nat) (h : Bool) :
    (s.setSweep k h).timeBase = s.timeBase :=
  rfl

@[simp] theorem State.setSweep_scanBus (k : Option Nat) (h : Bool) :
    (s.setSweep k h).scanBus = s.scanBus :=
  rfl

@[simp] theorem State.setSweep_lines (k : Option Nat) (h : Bool) :
    (s.setSweep k h).lines = s.lines :=
  rfl

@[simp] theorem State.setSweep_profiles (k : Option Nat) (h : Bool) :
    (s.setSweep k h).profiles = s.profiles :=
  rfl

@[simp] theorem State.setSweep_senders (k : Option Nat) (h : Bool) :
    (s.setSweep k h).senders = s.senders :=
  rfl

@[simp] theorem State.setSweep_waitList (k : Option Nat) (h : Bool) :
    (s.setSweep k h).waitList = s.waitList :=
  rfl

@[simp] theorem State.setSweep_highway (k : Option Nat) (h : Bool) :
    (s.setSweep k h).highway = s.highway :=
  rfl

@[simp] theorem State.setSweep_board (k : Option Nat) (h : Bool) :
    (s.setSweep k h).board = { s.board with sweepAt := k, sweepHeld := h } :=
  rfl

@[simp] theorem State.setSweep_capture (k : Option Nat) (h : Bool) :
    (s.setSweep k h).capture = s.capture :=
  rfl

@[simp] theorem State.setSweep_control (k : Option Nat) (h : Bool) :
    (s.setSweep k h).control = s.control :=
  rfl

@[simp] theorem State.setSweep_causes (k : Option Nat) (h : Bool) :
    (s.setSweep k h).causes = s.causes :=
  rfl

@[simp] theorem State.setSweep_store (k : Option Nat) (h : Bool) :
    (s.setSweep k h).store = s.store :=
  rfl

@[simp] theorem State.setSweep_line (k : Option Nat) (h : Bool) (j : LineNo) :
    (s.setSweep k h).line j = s.line j :=
  rfl

@[simp] theorem State.setSweep_sender (k : Option Nat) (h : Bool) (k' : SenderNo) :
    (s.setSweep k h).sender k' = s.sender k' :=
  rfl

@[simp] theorem State.setSweep_profile (k : Option Nat) (h : Bool) (p' : ProfileNo) :
    (s.setSweep k h).profile p' = s.profile p' :=
  rfl

@[simp] theorem State.setSweep_clock (k : Option Nat) (h : Bool) :
    (s.setSweep k h).clock = s.clock :=
  rfl

@[simp] theorem State.setSweep_sendHold (k : Option Nat) (h : Bool) :
    (s.setSweep k h).sendHold = s.sendHold :=
  rfl

@[simp] theorem State.setSweep_peek (k : Option Nat) (h : Bool) (a' : Nat) :
    (s.setSweep k h).peek a' = s.peek a' :=
  rfl

/-! ### setCapture -/

@[simp] theorem State.setCapture_pending (c : Capture) : (s.setCapture c).pending = s.pending := rfl

@[simp] theorem State.setCapture_ready (c : Capture) : (s.setCapture c).ready = s.ready := rfl

@[simp] theorem State.setCapture_timeBase (c : Capture) :
    (s.setCapture c).timeBase = s.timeBase :=
  rfl

@[simp] theorem State.setCapture_scanBus (c : Capture) : (s.setCapture c).scanBus = s.scanBus := rfl

@[simp] theorem State.setCapture_lines (c : Capture) : (s.setCapture c).lines = s.lines := rfl

@[simp] theorem State.setCapture_profiles (c : Capture) :
    (s.setCapture c).profiles = s.profiles :=
  rfl

@[simp] theorem State.setCapture_senders (c : Capture) : (s.setCapture c).senders = s.senders := rfl

@[simp] theorem State.setCapture_waitList (c : Capture) :
    (s.setCapture c).waitList = s.waitList :=
  rfl

@[simp] theorem State.setCapture_highway (c : Capture) : (s.setCapture c).highway = s.highway := rfl

@[simp] theorem State.setCapture_board (c : Capture) : (s.setCapture c).board = s.board := rfl

@[simp] theorem State.setCapture_capture (c : Capture) : (s.setCapture c).capture = c := rfl

@[simp] theorem State.setCapture_control (c : Capture) : (s.setCapture c).control = s.control := rfl

@[simp] theorem State.setCapture_causes (c : Capture) : (s.setCapture c).causes = s.causes := rfl

@[simp] theorem State.setCapture_store (c : Capture) : (s.setCapture c).store = s.store := rfl

@[simp] theorem State.setCapture_line (c : Capture) (j : LineNo) :
    (s.setCapture c).line j = s.line j :=
  rfl

@[simp] theorem State.setCapture_sender (c : Capture) (k' : SenderNo) :
    (s.setCapture c).sender k' = s.sender k' :=
  rfl

@[simp] theorem State.setCapture_profile (c : Capture) (p' : ProfileNo) :
    (s.setCapture c).profile p' = s.profile p' :=
  rfl

@[simp] theorem State.setCapture_clock (c : Capture) : (s.setCapture c).clock = s.clock := rfl

@[simp] theorem State.setCapture_sendHold (c : Capture) :
    (s.setCapture c).sendHold = s.sendHold :=
  rfl

@[simp] theorem State.setCapture_peek (c : Capture) (a' : Nat) :
    (s.setCapture c).peek a' = s.peek a' :=
  rfl

/-! ### setCauses -/

@[simp] theorem State.setCauses_pending (c : Causes) : (s.setCauses c).pending = s.pending := rfl

@[simp] theorem State.setCauses_ready (c : Causes) : (s.setCauses c).ready = s.ready := rfl

@[simp] theorem State.setCauses_timeBase (c : Causes) : (s.setCauses c).timeBase = s.timeBase := rfl

@[simp] theorem State.setCauses_scanBus (c : Causes) : (s.setCauses c).scanBus = s.scanBus := rfl

@[simp] theorem State.setCauses_lines (c : Causes) : (s.setCauses c).lines = s.lines := rfl

@[simp] theorem State.setCauses_profiles (c : Causes) : (s.setCauses c).profiles = s.profiles := rfl

@[simp] theorem State.setCauses_senders (c : Causes) : (s.setCauses c).senders = s.senders := rfl

@[simp] theorem State.setCauses_waitList (c : Causes) : (s.setCauses c).waitList = s.waitList := rfl

@[simp] theorem State.setCauses_highway (c : Causes) : (s.setCauses c).highway = s.highway := rfl

@[simp] theorem State.setCauses_board (c : Causes) : (s.setCauses c).board = s.board := rfl

@[simp] theorem State.setCauses_capture (c : Causes) : (s.setCauses c).capture = s.capture := rfl

@[simp] theorem State.setCauses_control (c : Causes) : (s.setCauses c).control = s.control := rfl

@[simp] theorem State.setCauses_causes (c : Causes) : (s.setCauses c).causes = c := rfl

@[simp] theorem State.setCauses_store (c : Causes) : (s.setCauses c).store = s.store := rfl

@[simp] theorem State.setCauses_line (c : Causes) (j : LineNo) :
    (s.setCauses c).line j = s.line j :=
  rfl

@[simp] theorem State.setCauses_sender (c : Causes) (k' : SenderNo) :
    (s.setCauses c).sender k' = s.sender k' :=
  rfl

@[simp] theorem State.setCauses_profile (c : Causes) (p' : ProfileNo) :
    (s.setCauses c).profile p' = s.profile p' :=
  rfl

@[simp] theorem State.setCauses_clock (c : Causes) : (s.setCauses c).clock = s.clock := rfl

@[simp] theorem State.setCauses_sendHold (c : Causes) : (s.setCauses c).sendHold = s.sendHold := rfl

@[simp] theorem State.setCauses_peek (c : Causes) (a' : Nat) :
    (s.setCauses c).peek a' = s.peek a' :=
  rfl

/-! ### setControl -/

@[simp] theorem State.setControl_pending (c : Control) : (s.setControl c).pending = s.pending := rfl

@[simp] theorem State.setControl_ready (c : Control) : (s.setControl c).ready = s.ready := rfl

@[simp] theorem State.setControl_timeBase (c : Control) :
    (s.setControl c).timeBase = s.timeBase :=
  rfl

@[simp] theorem State.setControl_scanBus (c : Control) : (s.setControl c).scanBus = s.scanBus := rfl

@[simp] theorem State.setControl_lines (c : Control) : (s.setControl c).lines = s.lines := rfl

@[simp] theorem State.setControl_profiles (c : Control) :
    (s.setControl c).profiles = s.profiles :=
  rfl

@[simp] theorem State.setControl_senders (c : Control) : (s.setControl c).senders = s.senders := rfl

@[simp] theorem State.setControl_waitList (c : Control) :
    (s.setControl c).waitList = s.waitList :=
  rfl

@[simp] theorem State.setControl_highway (c : Control) : (s.setControl c).highway = s.highway := rfl

@[simp] theorem State.setControl_board (c : Control) : (s.setControl c).board = s.board := rfl

@[simp] theorem State.setControl_capture (c : Control) : (s.setControl c).capture = s.capture := rfl

@[simp] theorem State.setControl_control (c : Control) : (s.setControl c).control = c := rfl

@[simp] theorem State.setControl_causes (c : Control) : (s.setControl c).causes = s.causes := rfl

@[simp] theorem State.setControl_store (c : Control) : (s.setControl c).store = s.store := rfl

@[simp] theorem State.setControl_line (c : Control) (j : LineNo) :
    (s.setControl c).line j = s.line j :=
  rfl

@[simp] theorem State.setControl_sender (c : Control) (k' : SenderNo) :
    (s.setControl c).sender k' = s.sender k' :=
  rfl

@[simp] theorem State.setControl_profile (c : Control) (p' : ProfileNo) :
    (s.setControl c).profile p' = s.profile p' :=
  rfl

@[simp] theorem State.setControl_clock (c : Control) : (s.setControl c).clock = s.clock := rfl

@[simp] theorem State.setControl_peek (c : Control) (a' : Nat) :
    (s.setControl c).peek a' = s.peek a' :=
  rfl

/-! ### setTimeBase -/

@[simp] theorem State.setTimeBase_pending (t : TimeBase) :
    (s.setTimeBase t).pending = s.pending :=
  rfl

@[simp] theorem State.setTimeBase_ready (t : TimeBase) : (s.setTimeBase t).ready = s.ready := rfl

@[simp] theorem State.setTimeBase_timeBase (t : TimeBase) : (s.setTimeBase t).timeBase = t := rfl

@[simp] theorem State.setTimeBase_scanBus (t : TimeBase) :
    (s.setTimeBase t).scanBus = s.scanBus :=
  rfl

@[simp] theorem State.setTimeBase_lines (t : TimeBase) : (s.setTimeBase t).lines = s.lines := rfl

@[simp] theorem State.setTimeBase_profiles (t : TimeBase) :
    (s.setTimeBase t).profiles = s.profiles :=
  rfl

@[simp] theorem State.setTimeBase_senders (t : TimeBase) :
    (s.setTimeBase t).senders = s.senders :=
  rfl

@[simp] theorem State.setTimeBase_waitList (t : TimeBase) :
    (s.setTimeBase t).waitList = s.waitList :=
  rfl

@[simp] theorem State.setTimeBase_highway (t : TimeBase) :
    (s.setTimeBase t).highway = s.highway :=
  rfl

@[simp] theorem State.setTimeBase_board (t : TimeBase) : (s.setTimeBase t).board = s.board := rfl

@[simp] theorem State.setTimeBase_capture (t : TimeBase) :
    (s.setTimeBase t).capture = s.capture :=
  rfl

@[simp] theorem State.setTimeBase_control (t : TimeBase) :
    (s.setTimeBase t).control = s.control :=
  rfl

@[simp] theorem State.setTimeBase_causes (t : TimeBase) : (s.setTimeBase t).causes = s.causes := rfl

@[simp] theorem State.setTimeBase_store (t : TimeBase) : (s.setTimeBase t).store = s.store := rfl

@[simp] theorem State.setTimeBase_line (t : TimeBase) (j : LineNo) :
    (s.setTimeBase t).line j = s.line j :=
  rfl

@[simp] theorem State.setTimeBase_sender (t : TimeBase) (k' : SenderNo) :
    (s.setTimeBase t).sender k' = s.sender k' :=
  rfl

@[simp] theorem State.setTimeBase_profile (t : TimeBase) (p' : ProfileNo) :
    (s.setTimeBase t).profile p' = s.profile p' :=
  rfl

@[simp] theorem State.setTimeBase_sendHold (t : TimeBase) :
    (s.setTimeBase t).sendHold = s.sendHold :=
  rfl

@[simp] theorem State.setTimeBase_peek (t : TimeBase) (a' : Nat) :
    (s.setTimeBase t).peek a' = s.peek a' :=
  rfl

/-! ### setScanBus -/

@[simp] theorem State.setScanBus_pending (b : ScanBus) : (s.setScanBus b).pending = s.pending := rfl

@[simp] theorem State.setScanBus_ready (b : ScanBus) : (s.setScanBus b).ready = s.ready := rfl

@[simp] theorem State.setScanBus_timeBase (b : ScanBus) :
    (s.setScanBus b).timeBase = s.timeBase :=
  rfl

@[simp] theorem State.setScanBus_scanBus (b : ScanBus) : (s.setScanBus b).scanBus = b := rfl

@[simp] theorem State.setScanBus_lines (b : ScanBus) : (s.setScanBus b).lines = s.lines := rfl

@[simp] theorem State.setScanBus_profiles (b : ScanBus) :
    (s.setScanBus b).profiles = s.profiles :=
  rfl

@[simp] theorem State.setScanBus_senders (b : ScanBus) : (s.setScanBus b).senders = s.senders := rfl

@[simp] theorem State.setScanBus_waitList (b : ScanBus) :
    (s.setScanBus b).waitList = s.waitList :=
  rfl

@[simp] theorem State.setScanBus_highway (b : ScanBus) : (s.setScanBus b).highway = s.highway := rfl

@[simp] theorem State.setScanBus_board (b : ScanBus) : (s.setScanBus b).board = s.board := rfl

@[simp] theorem State.setScanBus_capture (b : ScanBus) : (s.setScanBus b).capture = s.capture := rfl

@[simp] theorem State.setScanBus_control (b : ScanBus) : (s.setScanBus b).control = s.control := rfl

@[simp] theorem State.setScanBus_causes (b : ScanBus) : (s.setScanBus b).causes = s.causes := rfl

@[simp] theorem State.setScanBus_store (b : ScanBus) : (s.setScanBus b).store = s.store := rfl

@[simp] theorem State.setScanBus_line (b : ScanBus) (j : LineNo) :
    (s.setScanBus b).line j = s.line j :=
  rfl

@[simp] theorem State.setScanBus_sender (b : ScanBus) (k' : SenderNo) :
    (s.setScanBus b).sender k' = s.sender k' :=
  rfl

@[simp] theorem State.setScanBus_profile (b : ScanBus) (p' : ProfileNo) :
    (s.setScanBus b).profile p' = s.profile p' :=
  rfl

@[simp] theorem State.setScanBus_clock (b : ScanBus) : (s.setScanBus b).clock = s.clock := rfl

@[simp] theorem State.setScanBus_sendHold (b : ScanBus) :
    (s.setScanBus b).sendHold = s.sendHold :=
  rfl

@[simp] theorem State.setScanBus_peek (b : ScanBus) (a' : Nat) :
    (s.setScanBus b).peek a' = s.peek a' :=
  rfl

/-! ### setHighway -/

@[simp] theorem State.setHighway_pending (h : Vector (BitVec 16) 128) :
    (s.setHighway h).pending = s.pending :=
  rfl

@[simp] theorem State.setHighway_ready (h : Vector (BitVec 16) 128) :
    (s.setHighway h).ready = s.ready :=
  rfl

@[simp] theorem State.setHighway_timeBase (h : Vector (BitVec 16) 128) :
    (s.setHighway h).timeBase = s.timeBase :=
  rfl

@[simp] theorem State.setHighway_scanBus (h : Vector (BitVec 16) 128) :
    (s.setHighway h).scanBus = s.scanBus :=
  rfl

@[simp] theorem State.setHighway_lines (h : Vector (BitVec 16) 128) :
    (s.setHighway h).lines = s.lines :=
  rfl

@[simp] theorem State.setHighway_profiles (h : Vector (BitVec 16) 128) :
    (s.setHighway h).profiles = s.profiles :=
  rfl

@[simp] theorem State.setHighway_senders (h : Vector (BitVec 16) 128) :
    (s.setHighway h).senders = s.senders :=
  rfl

@[simp] theorem State.setHighway_waitList (h : Vector (BitVec 16) 128) :
    (s.setHighway h).waitList = s.waitList :=
  rfl

@[simp] theorem State.setHighway_highway (h : Vector (BitVec 16) 128) :
    (s.setHighway h).highway = h :=
  rfl

@[simp] theorem State.setHighway_board (h : Vector (BitVec 16) 128) :
    (s.setHighway h).board = s.board :=
  rfl

@[simp] theorem State.setHighway_capture (h : Vector (BitVec 16) 128) :
    (s.setHighway h).capture = s.capture :=
  rfl

@[simp] theorem State.setHighway_control (h : Vector (BitVec 16) 128) :
    (s.setHighway h).control = s.control :=
  rfl

@[simp] theorem State.setHighway_causes (h : Vector (BitVec 16) 128) :
    (s.setHighway h).causes = s.causes :=
  rfl

@[simp] theorem State.setHighway_store (h : Vector (BitVec 16) 128) :
    (s.setHighway h).store = s.store :=
  rfl

@[simp] theorem State.setHighway_line (h : Vector (BitVec 16) 128) (j : LineNo) :
    (s.setHighway h).line j = s.line j :=
  rfl

@[simp] theorem State.setHighway_sender (h : Vector (BitVec 16) 128) (k' : SenderNo) :
    (s.setHighway h).sender k' = s.sender k' :=
  rfl

@[simp] theorem State.setHighway_profile (h : Vector (BitVec 16) 128) (p' : ProfileNo) :
    (s.setHighway h).profile p' = s.profile p' :=
  rfl

@[simp] theorem State.setHighway_clock (h : Vector (BitVec 16) 128) :
    (s.setHighway h).clock = s.clock :=
  rfl

@[simp] theorem State.setHighway_sendHold (h : Vector (BitVec 16) 128) :
    (s.setHighway h).sendHold = s.sendHold :=
  rfl

@[simp] theorem State.setHighway_peek (h : Vector (BitVec 16) 128) (a' : Nat) :
    (s.setHighway h).peek a' = s.peek a' :=
  rfl

/-! ### setStore -/

@[simp] theorem State.setStore_pending (m : List (Nat × Word)) :
    (s.setStore m).pending = s.pending :=
  rfl

@[simp] theorem State.setStore_ready (m : List (Nat × Word)) : (s.setStore m).ready = s.ready := rfl

@[simp] theorem State.setStore_timeBase (m : List (Nat × Word)) :
    (s.setStore m).timeBase = s.timeBase :=
  rfl

@[simp] theorem State.setStore_scanBus (m : List (Nat × Word)) :
    (s.setStore m).scanBus = s.scanBus :=
  rfl

@[simp] theorem State.setStore_lines (m : List (Nat × Word)) : (s.setStore m).lines = s.lines := rfl

@[simp] theorem State.setStore_profiles (m : List (Nat × Word)) :
    (s.setStore m).profiles = s.profiles :=
  rfl

@[simp] theorem State.setStore_senders (m : List (Nat × Word)) :
    (s.setStore m).senders = s.senders :=
  rfl

@[simp] theorem State.setStore_waitList (m : List (Nat × Word)) :
    (s.setStore m).waitList = s.waitList :=
  rfl

@[simp] theorem State.setStore_highway (m : List (Nat × Word)) :
    (s.setStore m).highway = s.highway :=
  rfl

@[simp] theorem State.setStore_board (m : List (Nat × Word)) : (s.setStore m).board = s.board := rfl

@[simp] theorem State.setStore_capture (m : List (Nat × Word)) :
    (s.setStore m).capture = s.capture :=
  rfl

@[simp] theorem State.setStore_control (m : List (Nat × Word)) :
    (s.setStore m).control = s.control :=
  rfl

@[simp] theorem State.setStore_causes (m : List (Nat × Word)) :
    (s.setStore m).causes = s.causes :=
  rfl

@[simp] theorem State.setStore_store (m : List (Nat × Word)) : (s.setStore m).store = m := rfl

@[simp] theorem State.setStore_line (m : List (Nat × Word)) (j : LineNo) :
    (s.setStore m).line j = s.line j :=
  rfl

@[simp] theorem State.setStore_sender (m : List (Nat × Word)) (k' : SenderNo) :
    (s.setStore m).sender k' = s.sender k' :=
  rfl

@[simp] theorem State.setStore_profile (m : List (Nat × Word)) (p' : ProfileNo) :
    (s.setStore m).profile p' = s.profile p' :=
  rfl

@[simp] theorem State.setStore_clock (m : List (Nat × Word)) : (s.setStore m).clock = s.clock := rfl

@[simp] theorem State.setStore_sendHold (m : List (Nat × Word)) :
    (s.setStore m).sendHold = s.sendHold :=
  rfl

/-! ### poke -/

@[simp] theorem State.poke_pending (a : Nat) (v : Word) : (s.poke a v).pending = s.pending := rfl

@[simp] theorem State.poke_ready (a : Nat) (v : Word) : (s.poke a v).ready = s.ready := rfl

@[simp] theorem State.poke_timeBase (a : Nat) (v : Word) : (s.poke a v).timeBase = s.timeBase := rfl

@[simp] theorem State.poke_scanBus (a : Nat) (v : Word) : (s.poke a v).scanBus = s.scanBus := rfl

@[simp] theorem State.poke_lines (a : Nat) (v : Word) : (s.poke a v).lines = s.lines := rfl

@[simp] theorem State.poke_profiles (a : Nat) (v : Word) : (s.poke a v).profiles = s.profiles := rfl

@[simp] theorem State.poke_senders (a : Nat) (v : Word) : (s.poke a v).senders = s.senders := rfl

@[simp] theorem State.poke_waitList (a : Nat) (v : Word) : (s.poke a v).waitList = s.waitList := rfl

@[simp] theorem State.poke_highway (a : Nat) (v : Word) : (s.poke a v).highway = s.highway := rfl

@[simp] theorem State.poke_board (a : Nat) (v : Word) : (s.poke a v).board = s.board := rfl

@[simp] theorem State.poke_capture (a : Nat) (v : Word) : (s.poke a v).capture = s.capture := rfl

@[simp] theorem State.poke_control (a : Nat) (v : Word) : (s.poke a v).control = s.control := rfl

@[simp] theorem State.poke_causes (a : Nat) (v : Word) : (s.poke a v).causes = s.causes := rfl

@[simp] theorem State.poke_store (a : Nat) (v : Word) :
    (s.poke a v).store = writeWord s.store a v :=
  rfl

@[simp] theorem State.poke_line (a : Nat) (v : Word) (j : LineNo) :
    (s.poke a v).line j = s.line j :=
  rfl

@[simp] theorem State.poke_sender (a : Nat) (v : Word) (k' : SenderNo) :
    (s.poke a v).sender k' = s.sender k' :=
  rfl

@[simp] theorem State.poke_profile (a : Nat) (v : Word) (p' : ProfileNo) :
    (s.poke a v).profile p' = s.profile p' :=
  rfl

@[simp] theorem State.poke_clock (a : Nat) (v : Word) : (s.poke a v).clock = s.clock := rfl

@[simp] theorem State.poke_sendHold (a : Nat) (v : Word) : (s.poke a v).sendHold = s.sendHold := rfl

/-! ### pokes -/

@[simp] theorem State.pokes_pending (l : List (Nat × Word)) : (s.pokes l).pending = s.pending := rfl

@[simp] theorem State.pokes_ready (l : List (Nat × Word)) : (s.pokes l).ready = s.ready := rfl

@[simp] theorem State.pokes_timeBase (l : List (Nat × Word)) :
    (s.pokes l).timeBase = s.timeBase :=
  rfl

@[simp] theorem State.pokes_scanBus (l : List (Nat × Word)) : (s.pokes l).scanBus = s.scanBus := rfl

@[simp] theorem State.pokes_lines (l : List (Nat × Word)) : (s.pokes l).lines = s.lines := rfl

@[simp] theorem State.pokes_profiles (l : List (Nat × Word)) :
    (s.pokes l).profiles = s.profiles :=
  rfl

@[simp] theorem State.pokes_senders (l : List (Nat × Word)) : (s.pokes l).senders = s.senders := rfl

@[simp] theorem State.pokes_waitList (l : List (Nat × Word)) :
    (s.pokes l).waitList = s.waitList :=
  rfl

@[simp] theorem State.pokes_highway (l : List (Nat × Word)) : (s.pokes l).highway = s.highway := rfl

@[simp] theorem State.pokes_board (l : List (Nat × Word)) : (s.pokes l).board = s.board := rfl

@[simp] theorem State.pokes_capture (l : List (Nat × Word)) : (s.pokes l).capture = s.capture := rfl

@[simp] theorem State.pokes_control (l : List (Nat × Word)) : (s.pokes l).control = s.control := rfl

@[simp] theorem State.pokes_causes (l : List (Nat × Word)) : (s.pokes l).causes = s.causes := rfl

@[simp] theorem State.pokes_store (l : List (Nat × Word)) :
    (s.pokes l).store = writeWords s.store l :=
  rfl

@[simp] theorem State.pokes_line (l : List (Nat × Word)) (j : LineNo) :
    (s.pokes l).line j = s.line j :=
  rfl

@[simp] theorem State.pokes_sender (l : List (Nat × Word)) (k' : SenderNo) :
    (s.pokes l).sender k' = s.sender k' :=
  rfl

@[simp] theorem State.pokes_profile (l : List (Nat × Word)) (p' : ProfileNo) :
    (s.pokes l).profile p' = s.profile p' :=
  rfl

@[simp] theorem State.pokes_clock (l : List (Nat × Word)) : (s.pokes l).clock = s.clock := rfl

@[simp] theorem State.pokes_sendHold (l : List (Nat × Word)) :
    (s.pokes l).sendHold = s.sendHold :=
  rfl

/-! ### Reads after an update of the same field -/

@[simp] theorem State.setTimeBase_clock' (t : TimeBase) : (s.setTimeBase t).clock = t.clock := rfl

@[simp] theorem State.setControl_sendHold' (c : Control) :
    (s.setControl c).sendHold = c.sendHold := rfl

@[simp] theorem State.setStore_peek' (m : List (Nat × Word)) (a : Nat) :
    (s.setStore m).peek a = readWord m a := rfl

@[simp] theorem State.poke_peek' (a : Nat) (v : Word) (b : Nat) :
    (s.poke a v).peek b = readWord (writeWord s.store a v) b := rfl

@[simp] theorem State.pokes_peek' (l : List (Nat × Word)) (b : Nat) :
    (s.pokes l).peek b = readWord (writeWords s.store l) b := rfl

@[simp] theorem State.setLine_line_same (n : LineNo) (l : Line) : (s.setLine n l).line n = l := by
  simp [State.setLine, State.line]

theorem State.setLine_line_other (n m : LineNo) (l : Line) (h : m ≠ n) :
    (s.setLine n l).line m = s.line m := by
  have : n.val ≠ m.val := fun e => h (Fin.ext e.symm)
  simp [State.setLine, State.line, this]

theorem State.setLine_line (n m : LineNo) (l : Line) :
    (s.setLine n l).line m = if m = n then l else s.line m := by
  by_cases h : m = n
  · subst h; simp
  · simp [h, State.setLine_line_other]

@[simp] theorem State.modLine_line_same (n : LineNo) (f : Line → Line) :
    (s.modLine n f).line n = f (s.line n) := by
  simp [State.modLine]

theorem State.modLine_line_other (n m : LineNo) (f : Line → Line) (h : m ≠ n) :
    (s.modLine n f).line m = s.line m := by
  simp [State.modLine, State.setLine_line_other, h]

@[simp] theorem State.setSender_sender_same (k : SenderNo) (b : Option Binding) :
    (s.setSender k b).sender k = b := by
  simp [State.setSender, State.sender]

theorem State.setSender_sender_other (k j : SenderNo) (b : Option Binding) (h : j ≠ k) :
    (s.setSender k b).sender j = s.sender j := by
  have : k.val ≠ j.val := fun e => h (Fin.ext e.symm)
  simp [State.setSender, State.sender, this]

@[simp] theorem State.setProfile_profile_same (p : ProfileNo) (x : Profile) :
    (s.setProfile p x).profile p = x := by
  simp [State.setProfile, State.profile]

theorem State.setProfile_profile_other (p q : ProfileNo) (x : Profile) (h : q ≠ p) :
    (s.setProfile p x).profile q = s.profile q := by
  have : p.val ≠ q.val := fun e => h (Fin.ext e.symm)
  simp [State.setProfile, State.profile, this]

/-- A change of one line touches the lines alone. -/
theorem State.modLine_frame (n : LineNo) (f : Line → Line) :
    s.modLine n f = { s with lines := (s.modLine n f).lines } := rfl

end Sys2Proof.Machine
end

