-- ==== Sys2Proof/Laws/Store.lean ====
section
/-! SUPPORT. The common store: what a write leaves in each word, and that every operation over the store keeps its
canonical form. -/

namespace Sys2Proof.Machine

/-! ### What a word reads as after a write -/

theorem readWord_putEntry_same (a : Nat) (v : Word) (rest : List (Nat × Word))
    (h : readWord rest a = unlistedWord) : readWord (putEntry a v rest) a = v := by
  unfold putEntry
  split
  · rename_i hv; rw [h, hv]
  · simp [readWord]

theorem readWord_putEntry_other (a b : Nat) (v : Word) (rest : List (Nat × Word)) (h : b ≠ a) :
    readWord (putEntry a v rest) b = readWord rest b := by
  unfold putEntry
  split
  · rfl
  · simp [readWord, h]

/-- Below the first address listed, every word is unlisted. -/
theorem readWord_of_lt (m : List (Nat × Word)) (low a : Nat) (h : entriesWf low m = true)
    (ha : a < low) : readWord m a = unlistedWord := by
  induction m generalizing low with
  | nil => rfl
  | cons p rest ih =>
    obtain ⟨b, w⟩ := p
    simp only [entriesWf, Bool.and_eq_true, decide_eq_true_eq] at h
    have hne : a ≠ b := by omega
    simp only [readWord, hne, if_false]
    exact ih (b + 1) h.2 (by omega)

theorem readWord_insertWord_same (m : List (Nat × Word)) (low a : Nat) (v : Word)
    (h : entriesWf low m = true) : readWord (insertWord m a v) a = v := by
  induction m generalizing low with
  | nil => exact readWord_putEntry_same a v [] rfl
  | cons p rest ih =>
    obtain ⟨b, w⟩ := p
    have h' := h
    simp only [entriesWf, Bool.and_eq_true, decide_eq_true_eq] at h'
    unfold insertWord
    split
    · rename_i hlt
      refine readWord_putEntry_same a v _ ?_
      have hne : a ≠ b := by omega
      simp only [readWord, hne, if_false]
      exact readWord_of_lt rest (b + 1) a h'.2 (by omega)
    · split
      · rename_i heq
        exact readWord_putEntry_same a v rest (readWord_of_lt rest (b + 1) a h'.2 (by omega))
      · rename_i hne
        simp only [readWord, hne, if_false]
        exact ih (b + 1) h'.2

theorem readWord_insertWord_other (m : List (Nat × Word)) (a b : Nat) (v : Word) (h : b ≠ a) :
    readWord (insertWord m a v) b = readWord m b := by
  induction m with
  | nil => exact readWord_putEntry_other a b v [] h
  | cons p rest ih =>
    obtain ⟨c, w⟩ := p
    unfold insertWord
    split
    · exact readWord_putEntry_other a b v _ h
    · split
      · rename_i heq
        subst heq
        rw [readWord_putEntry_other a b v rest h]
        simp [readWord, h]
      · simp only [readWord]
        split
        · rfl
        · exact ih

/-- A word of the store that has been written reads as written. -/
theorem readWord_writeWord_same (m : List (Nat × Word)) (a : Nat) (v : Word) (hm : storeWf m = true)
    (ha : a < storeSize) : readWord (writeWord m a v) a = v := by
  simp only [writeWord, ha, if_true]
  exact readWord_insertWord_same m 0 a v hm

/-- A write leaves every other word of the store as it is. -/
theorem readWord_writeWord_other (m : List (Nat × Word)) (a b : Nat) (v : Word) (h : b ≠ a) :
    readWord (writeWord m a v) b = readWord m b := by
  unfold writeWord
  split
  · exact readWord_insertWord_other m a b v h
  · rfl

@[simp] theorem writeWords_nil (m : List (Nat × Word)) : writeWords m [] = m := rfl

@[simp] theorem writeWords_cons (m : List (Nat × Word)) (p : Nat × Word) (l : List (Nat × Word)) :
    writeWords m (p :: l) = writeWords (writeWord m p.1 p.2) l := rfl

/-- A list of writes leaves every word it does not name as it is. -/
theorem readWord_writeWords_other (m l : List (Nat × Word)) (b : Nat) (h : ∀ p ∈ l, b ≠ p.1) :
    readWord (writeWords m l) b = readWord m b := by
  induction l generalizing m with
  | nil => rfl
  | cons p rest ih =>
    rw [writeWords_cons, ih _ fun q hq => h q (List.mem_cons_of_mem p hq)]
    exact readWord_writeWord_other m p.1 b p.2 (h p List.mem_cons_self)

/-! ### The canonical form -/

theorem entriesWf_mono (m : List (Nat × Word)) (low low' : Nat) (h : entriesWf low m = true)
    (hl : low' ≤ low) : entriesWf low' m = true := by
  cases m with
  | nil => rfl
  | cons p rest =>
    obtain ⟨b, w⟩ := p
    simp only [entriesWf, Bool.and_eq_true, decide_eq_true_eq] at h ⊢
    exact ⟨⟨⟨by omega, h.1.1.2⟩, h.1.2⟩, h.2⟩

theorem entriesWf_putEntry (a low : Nat) (v : Word) (rest : List (Nat × Word)) (hl : low ≤ a)
    (ha : a < storeSize) (h : entriesWf (a + 1) rest = true) :
    entriesWf low (putEntry a v rest) = true := by
  unfold putEntry
  split
  · exact entriesWf_mono rest (a + 1) low h (by omega)
  · rename_i hv
    simp only [entriesWf, Bool.and_eq_true, decide_eq_true_eq]
    exact ⟨⟨⟨hl, ha⟩, hv⟩, h⟩

theorem entriesWf_insertWord (m : List (Nat × Word)) (low a : Nat) (v : Word)
    (h : entriesWf low m = true) (hl : low ≤ a) (ha : a < storeSize) :
    entriesWf low (insertWord m a v) = true := by
  induction m generalizing low with
  | nil => exact entriesWf_putEntry a low v [] hl ha rfl
  | cons p rest ih =>
    obtain ⟨b, w⟩ := p
    have h' := h
    simp only [entriesWf, Bool.and_eq_true, decide_eq_true_eq] at h'
    unfold insertWord
    split
    · rename_i hlt
      refine entriesWf_putEntry a low v _ hl ha ?_
      simp only [entriesWf, Bool.and_eq_true, decide_eq_true_eq]
      exact ⟨⟨⟨by omega, h'.1.1.2⟩, h'.1.2⟩, h'.2⟩
    · split
      · rename_i heq
        subst heq
        exact entriesWf_putEntry a low v rest hl ha h'.2
      · rename_i h1 h2
        simp only [entriesWf, Bool.and_eq_true, decide_eq_true_eq]
        exact ⟨h'.1, ih (b + 1) h'.2 (by omega)⟩

/-- One write keeps the canonical form. -/
theorem storeWf_writeWord (m : List (Nat × Word)) (a : Nat) (v : Word) (h : storeWf m = true) :
    storeWf (writeWord m a v) = true := by
  unfold writeWord
  split
  · rename_i ha
    exact entriesWf_insertWord m 0 a v h (Nat.zero_le a) ha
  · exact h

/-- A list of writes keeps the canonical form. -/
theorem storeWf_writeWords (m l : List (Nat × Word)) (h : storeWf m = true) :
    storeWf (writeWords m l) = true := by
  induction l generalizing m with
  | nil => exact h
  | cons p rest ih => exact ih _ (storeWf_writeWord m p.1 p.2 h)

/-- The writes of changed words keep the canonical form. -/
theorem storeWf_writeChanged (m : List (Nat × Word)) (a : Nat) (old new : List Word)
    (h : storeWf m = true) : storeWf (writeChanged m a old new) = true := by
  induction old generalizing m a new with
  | nil => exact h
  | cons o old ih =>
    cases new with
    | nil => exact h
    | cons w new =>
      unfold writeChanged
      apply ih
      split
      · exact h
      · exact storeWf_writeWord m a w h

theorem storeWf_writeImage (before after : State) (m : List (Nat × Word)) (n : LineNo)
    (h : storeWf m = true) : storeWf (writeImage before after m n) = true := by
  unfold writeImage
  split
  · exact h
  · exact storeWf_writeChanged m _ _ _ h

theorem storeWf_writeSenderStatus (before after : State) (m : List (Nat × Word)) (k : SenderNo)
    (h : storeWf m = true) : storeWf (writeSenderStatus before after m k) = true := by
  unfold writeSenderStatus
  split
  · exact h
  · exact storeWf_writeWord m _ _ h

theorem storeWf_writeWaitCount (before after : State) (m : List (Nat × Word))
    (h : storeWf m = true) : storeWf (writeWaitCount before after m) = true := by
  unfold writeWaitCount
  split
  · exact h
  · exact storeWf_writeWord m _ _ h

/-- A fold of operations that each keep the canonical form keeps it. -/
theorem storeWf_foldl {α : Type} (f : List (Nat × Word) → α → List (Nat × Word)) (l : List α)
    (m : List (Nat × Word)) (hf : ∀ m x, storeWf m = true → storeWf (f m x) = true)
    (h : storeWf m = true) : storeWf (l.foldl f m) = true := by
  induction l generalizing m with
  | nil => exact h
  | cons x rest ih => exact ih _ (hf m x h)

/-- What an event shows keeps the canonical form. -/
theorem storeWf_shownStore (before after : State) (h : storeWf after.store = true) :
    storeWf (shownStore before after) = true := by
  unfold shownStore
  apply storeWf_writeWaitCount
  apply storeWf_foldl _ _ _ (fun m k hm => storeWf_writeSenderStatus before after m k hm)
  exact storeWf_foldl _ _ _ (fun m n hm => storeWf_writeImage before after m n hm) h

/-- The store after reset is in its canonical form. -/
theorem storeWf_reset : storeWf State.reset.store = true := by decide +kernel

/-! ### Changed words -/

/-- The writes of changed words leave every word outside their range as it is. -/
theorem readWord_writeChanged_other (m : List (Nat × Word)) (a b : Nat) (old new : List Word)
    (h : b < a ∨ a + new.length ≤ b) : readWord (writeChanged m a old new) b = readWord m b := by
  induction old generalizing m a new with
  | nil => rfl
  | cons o old ih =>
    cases new with
    | nil => rfl
    | cons w new =>
      simp only [List.length_cons] at h
      unfold writeChanged
      rw [ih _ _ _ (by omega)]
      split
      · rfl
      · exact readWord_writeWord_other m a b w (by omega)

/-- Nothing changed, nothing written. -/
theorem writeChanged_self (m : List (Nat × Word)) (a : Nat) (l : List Word) :
    writeChanged m a l l = m := by
  induction l generalizing a with
  | nil => rfl
  | cons w rest ih => simp [writeChanged, ih]

end Sys2Proof.Machine
end

