-- ==== Sys2Proof/Laws/Frames.lean ====
section
/-! SUPPORT. What each shared operation can touch, said once per operation: a relation names the fields that may
differ between the state before and the state after, and one lemma per operation says that it keeps to
it. -/

namespace Sys2Proof.Machine

/-! ### The relations -/

/-- Only the store, the capture unit and the causes may differ. -/
def Reports (s t : State) : Prop :=
  t = { s with store := t.store, capture := t.capture, causes := t.causes }

/-- Only the store, the order unit and the causes may differ. -/
def Answers (s t : State) : Prop :=
  t = { s with store := t.store, board := t.board, causes := t.causes }

/-- Only the lines, the senders and the wait list may differ. -/
def Sends (s t : State) : Prop :=
  t = { s with lines := t.lines, senders := t.senders, waitList := t.waitList }

/-- What the work of a line may touch: everything but the waiting commands, READY, the time base, the scan bus,
the profiles, the frame in progress and CONTROL. -/
def LineWork (s t : State) : Prop :=
  t = { s with
    lines := t.lines, senders := t.senders, waitList := t.waitList, store := t.store,
    board := t.board, capture := t.capture, causes := t.causes }

/-- What the work of an order may touch: that of a line, and the profiles. -/
def OrderWork (s t : State) : Prop :=
  t = { s with
    lines := t.lines, senders := t.senders, waitList := t.waitList, store := t.store,
    board := t.board, capture := t.capture, causes := t.causes, profiles := t.profiles }

theorem Reports.refl (s : State) : Reports s s := rfl
theorem Answers.refl (s : State) : Answers s s := rfl
theorem Sends.refl (s : State) : Sends s s := rfl
theorem LineWork.refl (s : State) : LineWork s s := rfl
theorem OrderWork.refl (s : State) : OrderWork s s := rfl

theorem Reports.trans {s t u : State} (h : Reports s t) (k : Reports t u) : Reports s u := by
  unfold Reports at *; rw [k]; rw [h]

theorem Answers.trans {s t u : State} (h : Answers s t) (k : Answers t u) : Answers s u := by
  unfold Answers at *; rw [k]; rw [h]

theorem Sends.trans {s t u : State} (h : Sends s t) (k : Sends t u) : Sends s u := by
  unfold Sends at *; rw [k]; rw [h]

theorem LineWork.trans {s t u : State} (h : LineWork s t) (k : LineWork t u) : LineWork s u := by
  unfold LineWork at *; rw [k]; rw [h]

theorem OrderWork.trans {s t u : State} (h : OrderWork s t) (k : OrderWork t u) : OrderWork s u := by
  unfold OrderWork at *; rw [k]; rw [h]

theorem Reports.lineWork {s t : State} (h : Reports s t) : LineWork s t := by
  unfold Reports at h; unfold LineWork; rw [h]

theorem Answers.lineWork {s t : State} (h : Answers s t) : LineWork s t := by
  unfold Answers at h; unfold LineWork; rw [h]

theorem Sends.lineWork {s t : State} (h : Sends s t) : LineWork s t := by
  unfold Sends at h; unfold LineWork; rw [h]

theorem LineWork.orderWork {s t : State} (h : LineWork s t) : OrderWork s t := by
  unfold LineWork at h; unfold OrderWork; rw [h]

/-- What an operation that reports leaves as it is. -/
theorem Reports.keeps {s t : State} (h : Reports s t) :
    t.pending = s.pending ∧ t.ready = s.ready ∧ t.timeBase = s.timeBase ∧ t.scanBus = s.scanBus ∧
      t.lines = s.lines ∧ t.profiles = s.profiles ∧ t.senders = s.senders ∧
      t.waitList = s.waitList ∧ t.highway = s.highway ∧ t.board = s.board ∧
      t.control = s.control := by
  unfold Reports at h; rw [h]; simp

/-- What an operation that answers an order leaves as it is. -/
theorem Answers.keeps {s t : State} (h : Answers s t) :
    t.pending = s.pending ∧ t.ready = s.ready ∧ t.timeBase = s.timeBase ∧ t.scanBus = s.scanBus ∧
      t.lines = s.lines ∧ t.profiles = s.profiles ∧ t.senders = s.senders ∧
      t.waitList = s.waitList ∧ t.highway = s.highway ∧ t.capture = s.capture ∧
      t.control = s.control := by
  unfold Answers at h; rw [h]; simp

/-- What an operation that sends leaves as it is. -/
theorem Sends.keeps {s t : State} (h : Sends s t) :
    t.pending = s.pending ∧ t.ready = s.ready ∧ t.timeBase = s.timeBase ∧ t.scanBus = s.scanBus ∧
      t.profiles = s.profiles ∧ t.highway = s.highway ∧ t.board = s.board ∧
      t.capture = s.capture ∧ t.control = s.control ∧ t.causes = s.causes ∧ t.store = s.store := by
  unfold Sends at h; rw [h]; simp

/-- What the work of a line leaves as it is. -/
theorem LineWork.keeps {s t : State} (h : LineWork s t) :
    t.pending = s.pending ∧ t.ready = s.ready ∧ t.timeBase = s.timeBase ∧ t.scanBus = s.scanBus ∧
      t.profiles = s.profiles ∧ t.highway = s.highway ∧ t.control = s.control := by
  unfold LineWork at h; rw [h]; simp

/-- What the work of an order leaves as it is. -/
theorem OrderWork.keeps {s t : State} (h : OrderWork s t) :
    t.pending = s.pending ∧ t.ready = s.ready ∧ t.timeBase = s.timeBase ∧ t.scanBus = s.scanBus ∧
      t.highway = s.highway ∧ t.control = s.control := by
  unfold OrderWork at h; rw [h]; simp

/-! ### Capture unit and fault unit -/

theorem setLoss_reports (k : Nat) (s : State) : Reports s (setLoss k s) := by
  unfold setLoss; dsimp only; split <;> rfl

theorem closePage_reports (s : State) : Reports s (closePage s) := by
  unfold closePage; split <;> rfl

theorem putRecord_reports (p : Nat) (ws : List Word) (s : State) : Reports s (putRecord p ws s) := rfl

theorem openPage_reports (ws : List Word) (s : State) : Reports s (openPage ws s) := rfl

theorem loseRecord_reports (s : State) : Reports s (loseRecord s) := setLoss_reports _ s

theorem recordInNextPage_reports (ws : List Word) (s : State) : Reports s (recordInNextPage ws s) := by
  unfold recordInNextPage; split
  · exact openPage_reports ws s
  · exact loseRecord_reports s

theorem placeRecord_reports (ws : List Word) (s : State) : Reports s (placeRecord ws s) := by
  unfold placeRecord; split
  · exact recordInNextPage_reports ws s
  · split
    · rfl
    · exact (closePage_reports s).trans (recordInNextPage_reports ws _)

theorem recheckLoss_reports (s : State) : Reports s (recheckLoss s) := by
  unfold recheckLoss; split
  · rfl
  · split
    · exact (openPage_reports _ s).trans (setLoss_reports 0 _)
    · rfl

theorem captureWords_reports (ws : List Word) (s : State) : Reports s (captureWords ws s) := by
  unfold captureWords; dsimp only; split
  · exact (recheckLoss_reports s).trans (placeRecord_reports ws _)
  · exact (recheckLoss_reports s).trans (loseRecord_reports _)

/-- A record handed to the capture unit touches the store, the capture unit and the causes alone. -/
theorem capture_reports (k : RecordKind) (n : LineNo) (b : List Word) (s : State) :
    Reports s (capture k n b s) := captureWords_reports _ s

/-- A fault report touches the store and the causes alone. -/
theorem reportFault_reports (k : FaultKind) (n : LineNo) (d : Nat) (s : State) :
    Reports s (reportFault k n d s) := by
  unfold reportFault; split
  · split <;> rfl
  · rfl

/-! ### Order unit -/

theorem writeOutcome_answers (k : SlotNo) (c : ResultCode) (d : Nat) (w : Word) (s : State) :
    Answers s (writeOutcome k c d w s) := rfl

theorem refuse_answers (k : SlotNo) (c : ResultCode) (d : Nat) (s : State) :
    Answers s (refuse k c d s) := rfl

theorem finishNow_answers (k : SlotNo) (c : ResultCode) (d : Nat) (s : State) :
    Answers s (finishNow k c d s) := rfl

theorem accept_answers (k : SlotNo) (h : HeldKind) (l : Option LineNo) (c : OrderCopy) (s : State) :
    Answers s (accept k h l c s) := rfl

theorem markDone_answers (k : SlotNo) (c : OrderCopy) (a : Nat) (s : State) :
    Answers s (markDone k c a s) := by
  unfold markDone; dsimp only; split <;> rfl

theorem completeMarks_answers (l : List HeldOrder) (s : State) : Answers s (completeMarks l s) := by
  induction l generalizing s with
  | nil => rfl
  | cons o rest ih =>
    unfold completeMarks; split
    · exact (markDone_answers _ _ _ s).trans (ih _)
    all_goals rfl

/-- The completion of an ACCEPTED order touches the store, the order unit and the causes alone. -/
theorem completeOrder_answers (k : SlotNo) (c : ResultCode) (d : Nat) (s : State) :
    Answers s (completeOrder k c d s) :=
  (finishNow_answers k c d s).trans (completeMarks_answers _ _)

/-- The orders left in the list after MARKs have completed are the rear of the list. -/
theorem completeMarks_accepted (l : List HeldOrder) (s : State) :
    (completeMarks l s).board.accepted <:+ l := by
  induction l generalizing s with
  | nil => simp [completeMarks]
  | cons o rest ih =>
    unfold completeMarks; split
    · exact (ih _).trans (List.suffix_cons o rest)
    all_goals simp

/-- Every order left in the list after a completion stood in it before, in another slot. -/
theorem completeOrder_accepted (k : SlotNo) (c : ResultCode) (d : Nat) (s : State) (o : HeldOrder)
    (h : o ∈ (completeOrder k c d s).board.accepted) : o ∈ s.board.accepted ∧ o.slot ≠ k := by
  have := (completeMarks_accepted _ _).subset h
  simpa using this

/-! ### Queue unit and sender pool -/

/-- A binding touches the line's queue unit and the sender alone. -/
theorem bindSender_sends (k : SenderNo) (n : LineNo) (s : State) : Sends s (bindSender k n s) := by
  unfold bindSender; split <;> rfl

theorem grantOnce_sends (s : State) : Sends s (grantOnce s) := by
  unfold grantOnce; split
  · rfl
  · split
    · exact Sends.trans (t := s.setWaitList _) rfl (bindSender_sends _ _ _)
    · rfl

theorem foldl_sends {α : Type} (f : State → α → State) (l : List α) (s : State)
    (hf : ∀ s x, Sends s (f s x)) : Sends s (l.foldl f s) := by
  induction l generalizing s with
  | nil => rfl
  | cons x rest ih => exact (hf s x).trans (ih _)

theorem grantAll_sends (s : State) : Sends s (grantAll s) :=
  foldl_sends _ _ s fun s _ => grantOnce_sends s

theorem postRequest_sends (n : LineNo) (s : State) : Sends s (postRequest n s) := by
  unfold postRequest
  refine Sends.trans ?_ (grantOnce_sends _)
  rfl

theorem withdrawRequest_sends (n : LineNo) (s : State) : Sends s (withdrawRequest n s) := by
  unfold withdrawRequest; split <;> rfl

theorem startRecall_sends (n : LineNo) (s : State) : Sends s (startRecall n s) := rfl

theorem startPause_sends (n : LineNo) (s : State) : Sends s (startPause n s) := rfl

/-- An examination of the head touches the lines, the senders and the wait list alone. -/
theorem examineHead_sends (n : LineNo) (s : State) : Sends s (examineHead n s) := by
  unfold examineHead; dsimp only
  split
  · rfl
  · split
    · exact withdrawRequest_sends n s
    · split
      · split
        · split
          · rfl
          · exact postRequest_sends n s
        · exact withdrawRequest_sends n s
      · split
        · exact (withdrawRequest_sends n s).trans (startRecall_sends n _)
        · exact withdrawRequest_sends n s
      · split
        · exact (withdrawRequest_sends n s).trans (startPause_sends n _)
        · exact withdrawRequest_sends n s

theorem releaseSender_sends (n : LineNo) (s : State) : Sends s (releaseSender n s) := by
  unfold releaseSender; split
  · exact Sends.trans (t := s.setSender _ none) rfl (grantOnce_sends _)
  · rfl

theorem satisfyGather_sends (n : LineNo) (s : State) : Sends s (satisfyGather n s) :=
  Sends.trans (t := s.modQueue n _) rfl (examineHead_sends n _)

theorem modLine_work (n : LineNo) (f : Line → Line) (s : State) : LineWork s (s.modLine n f) := rfl

theorem modQueue_work (n : LineNo) (f : QueueUnit → QueueUnit) (s : State) :
    LineWork s (s.modQueue n f) := rfl

theorem modDecoder_work (n : LineNo) (f : Decoder → Decoder) (s : State) :
    LineWork s (s.modDecoder n f) := rfl

theorem modEstimator_work (n : LineNo) (f : Estimator → Estimator) (s : State) :
    LineWork s (s.modEstimator n f) := rfl

theorem stopFirstDigit_work (n : LineNo) (s : State) : LineWork s (stopFirstDigit n s) := rfl

theorem finishFlight_work (n : LineNo) (s : State) : LineWork s (finishFlight n s) := by
  unfold finishFlight; dsimp only
  split
  · split
    · exact LineWork.trans (t := (s.modQueue n _).modQueue n _) rfl
        (completeOrder_answers _ _ _ _).lineWork
    · rfl
  · rfl

theorem endQueueOrder_work (n : LineNo) (c : ResultCode) (s : State) :
    LineWork s (endQueueOrder n c s) := by
  unfold endQueueOrder; dsimp only; split
  · exact LineWork.trans (t := s.modQueue n _) rfl (completeOrder_answers _ _ _ _).lineWork
  · rfl

theorem reportOverflow_work (n : LineNo) (e : Entry) (s : State) :
    LineWork s (reportOverflow n e s) := by
  unfold reportOverflow; split
  · rfl
  · exact (reportFault_reports _ _ _ s).lineWork.trans (modLine_work n _ _)

theorem handOver_work (n : LineNo) (e : Entry) (s : State) : LineWork s (handOver n e s).1 := by
  unfold handOver; dsimp only; split
  · exact LineWork.trans (t := stopFirstDigit n ((s.modLine n _).modLine n _)) rfl
      (examineHead_sends n _).lineWork
  · exact LineWork.trans (t := s.modLine n _) rfl (reportOverflow_work n e _)

theorem discardQueue_work (n : LineNo) (s : State) : LineWork s (discardQueue n s) :=
  ((withdrawRequest_sends n s).lineWork.trans (endQueueOrder_work n _ _)).trans
    (modQueue_work n _ _)

theorem flushQueue_work (n : LineNo) (s : State) : LineWork s (flushQueue n s) :=
  ((withdrawRequest_sends n s).lineWork.trans (endQueueOrder_work n _ _)).trans
    (modQueue_work n _ _)

theorem toneEnds_work (k : SenderNo) (s : State) : LineWork s (toneEnds k s) := by
  unfold toneEnds; split
  · rfl
  · dsimp only; split
    · exact LineWork.trans (t := s.setSender k _) rfl (capture_reports _ _ _ _).lineWork
    · rfl

theorem gapEnds_work (k : SenderNo) (s : State) : LineWork s (gapEnds k s) := by
  unfold gapEnds; split
  · rfl
  · dsimp only; split
    · exact (finishFlight_work _ s).trans (bindSender_sends _ _ _).lineWork
    · exact (finishFlight_work _ s).trans
        (LineWork.trans (t := State.setSender _ k none) rfl
          ((examineHead_sends _ _).trans (grantOnce_sends _)).lineWork)

/-! ### Estimator, decoder and supervisor -/

theorem learnFromTrain_work (n : LineNo) (s : State) : LineWork s (learnFromTrain n s) := by
  unfold learnFromTrain; dsimp only
  split
  · rfl
  · split
    · split
      · exact (modEstimator_work n _ s).trans (completeOrder_answers _ _ _ _).lineWork
      · exact modEstimator_work n _ s
    · exact modEstimator_work n _ s

theorem reportDialSpeed_work (n : LineNo) (m : Nat) (s : State) :
    LineWork s (reportDialSpeed n m s) := by
  unfold reportDialSpeed; split
  · rfl
  · exact (reportFault_reports _ _ _ s).lineWork.trans (modLine_work n _ _)

theorem trainWithoutDigit_work (n : LineNo) (s : State) : LineWork s (trainWithoutDigit n s) := rfl

theorem endLearn_work (n : LineNo) (c : ResultCode) (d : Learn → Nat) (s : State) :
    LineWork s (endLearn n c d s) := by
  unfold endLearn; split
  · rfl
  · exact (modEstimator_work n _ s).trans (completeOrder_answers _ _ _ _).lineWork

theorem startTrain_work (n : LineNo) (t : Tick) (s : State) : LineWork s (startTrain n t s) := by
  unfold startTrain; split <;> rfl

theorem dropCall_work (n : LineNo) (m : LineMode) (s : State) : LineWork s (dropCall n m s) := rfl

theorem clearCall_work (n : LineNo) (s : State) : LineWork s (clearCall n s) :=
  (((discardQueue_work n s).trans (dropCall_work n .idle _)).trans
    (releaseSender_sends n _).lineWork).trans (capture_reports _ _ _ _).lineWork

theorem startSeizing_work (n : LineNo) (t : Tick) (s : State) : LineWork s (startSeizing n t s) := rfl

theorem abandonTrain_work (n : LineNo) (s : State) : LineWork s (abandonTrain n s) := rfl

theorem flash_work (n : LineNo) (b : Nat) (s : State) : LineWork s (flash n b s) :=
  ((abandonTrain_work n s).trans (handOver_work n _ _)).trans (capture_reports _ _ _ _).lineWork

theorem longBreak_work (n : LineNo) (s : State) : LineWork s (longBreak n s) :=
  (capture_reports _ _ _ s).lineWork.trans (abandonTrain_work n _)

theorem completePeriod_work (n : LineNo) (s : State) : LineWork s (completePeriod n s) := by
  unfold completePeriod; dsimp only; split
  · split <;> rfl
  · rfl

theorem countPulse_work (n : LineNo) (s : State) : LineWork s (countPulse n s) :=
  ((completePeriod_work n s).trans (stopFirstDigit_work n _)).trans (modDecoder_work n _ _)

theorem digitEnds_work (n : LineNo) (g : Nat) (c : TrainContext) (s : State) :
    LineWork s (digitEnds n g c s) := by
  unfold digitEnds; dsimp only
  refine LineWork.trans ?_ (capture_reports _ _ _ _).lineWork
  refine LineWork.trans ?_ (handOver_work _ _ _)
  refine LineWork.trans ?_ (modLine_work n _ _)
  split
  · exact (learnFromTrain_work n s).trans (reportDialSpeed_work n _ _)
  · exact learnFromTrain_work n s

theorem endTrain_work (n : LineNo) (s : State) : LineWork s (endTrain n s) := by
  unfold endTrain; dsimp only; split
  · rfl
  · split
    · exact digitEnds_work n _ _ s
    · exact (capture_reports _ _ _ s).lineWork.trans (abandonTrain_work n _)

/-- One part of a line tick after another keeps to the work of a line. -/
theorem Ticked.andThen_work {s : State} {x : Ticked} {f : State → Ticked} (hx : LineWork s x.state)
    (hf : ∀ u, LineWork u (f u).state) : LineWork s (x.andThen f).state :=
  hx.trans (hf x.state)

theorem breakTest_work (n : LineNo) (s : State) : LineWork s (breakTest n s).state := by
  unfold breakTest; dsimp only; split
  · exact clearCall_work n s
  · rfl

theorem makeTest_work (n : LineNo) (s : State) : LineWork s (makeTest n s).state := by
  unfold makeTest; dsimp only; split
  · split
    · exact countPulse_work n s
    · rfl
  · split
    · exact endTrain_work n s
    · rfl

theorem breakEnds_work (n : LineNo) (t : Tick) (s : State) : LineWork s (breakEnds n t s).state := by
  unfold breakEnds; dsimp only
  split
  · split
    · rfl
    · exact LineWork.trans (t := hitInMake n s) rfl (makeTest_work n _)
  · split
    · exact LineWork.trans (t := candidatePulse n t s) rfl (makeTest_work n _)
    · split
      · unfold quietly; dsimp only; split
        · exact flash_work n _ s
        · exact longBreak_work n s
      · exact (clearCall_work n s).trans (startSeizing_work n t _)

theorem openInMake_work (n : LineNo) (t : Tick) (s : State) :
    LineWork s (openInMake n t s).state := by
  unfold openInMake; dsimp only; split
  · exact LineWork.trans (t := nextBreak n t s) rfl (breakTest_work n _)
  · exact ((endTrain_work n s).trans (startTrain_work n t _)).trans (breakTest_work n _)

/-- One line tick of the decoder keeps to the work of a line. -/
theorem decodeTick_work (n : LineNo) (e : Option Edge) (s : State) :
    LineWork s (decodeTick n e s).state := by
  unfold decodeTick; dsimp only
  split
  · exact (startTrain_work n _ s).trans (breakTest_work n _)
  · rfl
  · exact breakEnds_work n _ s
  · exact breakTest_work n s
  · split
    · split
      · exact LineWork.trans (t := absorbMake n s) rfl (breakTest_work n _)
      · exact (countPulse_work n s).trans (openInMake_work n _ _)
    · exact openInMake_work n _ s
  · exact makeTest_work n s

theorem takeUp_work (n : LineNo) (p : ProfileNo) (q : Polarity) (a : AdoptedSet) (s : State) :
    LineWork s (takeUp n p q a s) := by
  unfold takeUp; dsimp only; split
  · rfl
  · exact LineWork.trans (t := s.setLine n _) rfl (capture_reports _ _ _ _).lineWork

theorem clearImage_work (n : LineNo) (s : State) : LineWork s (clearImage n s) := rfl

theorem takeOut_work (n : LineNo) (s : State) : LineWork s (takeOut n s) := by
  unfold takeOut; dsimp only
  refine LineWork.trans ?_ (clearImage_work n _)
  refine LineWork.trans ?_ (releaseSender_sends n _).lineWork
  exact ((endLearn_work n _ _ s).trans (discardQueue_work n _)).trans rfl

theorem completeSeizure_work (n : LineNo) (s : State) : LineWork s (completeSeizure n s) := by
  unfold completeSeizure; split
  · exact (modLine_work n _ s).trans (capture_reports _ _ _ _).lineWork
  · rfl

theorem expireFirstDigit_work (n : LineNo) (s : State) : LineWork s (expireFirstDigit n s) :=
  ((dropCall_work n _ s).trans (reportFault_reports _ _ _ _).lineWork).trans
    (capture_reports _ _ _ _).lineWork

/-- What the supervisor and the decoder do at a line tick keeps to the work of a line. -/
theorem superviseTick_work (n : LineNo) (e : Option Edge) (s : State) :
    LineWork s (superviseTick n e s).state := by
  unfold superviseTick
  split
  · rfl
  · rfl
  · rfl
  · unfold seizingTick; split
    · rfl
    · split
      · split
        · rfl
        · exact (completeSeizure_work n s).trans (decodeTick_work n _ _)
      · split
        · exact completeSeizure_work n s
        · rfl
  · exact decodeTick_work n _ s
  · unfold lockoutTick; split
    · split <;> rfl
    · rfl

/-! ### The line tick -/

theorem raiseTimers_work (n : LineNo) (s : State) : LineWork s (raiseTimers n s) := rfl

theorem firstDigitTest_work (n : LineNo) (s : State) : LineWork s (firstDigitTest n s).state := by
  unfold firstDigitTest; split
  · exact expireFirstDigit_work n s
  · rfl

theorem learnTest_work (n : LineNo) (s : State) : LineWork s (learnTest n s).state := by
  unfold learnTest; split
  · exact endLearn_work n _ _ s
  · rfl

theorem expiryTests_work (n : LineNo) (s : State) : LineWork s (expiryTests n s).state := by
  unfold expiryTests; split
  · exact Ticked.andThen_work (learnTest_work n s) (firstDigitTest_work n)
  · exact Ticked.andThen_work (firstDigitTest_work n s) (learnTest_work n)

theorem gatherTest_work (n : LineNo) (s : State) : LineWork s (gatherTest n s).state := by
  unfold gatherTest; split
  · exact (satisfyGather_sends n s).lineWork
  · rfl

theorem executionFinished_work (n : LineNo) (s : State) : LineWork s (executionFinished n s) :=
  ((modQueue_work n _ s).trans (finishFlight_work n _)).trans (examineHead_sends n _).lineWork

theorem guardTest_work (n : LineNo) (t : Tick) (s : State) : LineWork s (guardTest n t s).state := by
  unfold guardTest; split
  · exact executionFinished_work n s
  · rfl

theorem executionTest_work (n : LineNo) (s : State) : LineWork s (executionTest n s).state := by
  unfold executionTest; split
  · rfl
  · split
    · rfl
    · split
      · have h : LineWork s (endRecallBreak n s) := rfl
        exact Ticked.andThen_work h (guardTest_work n _)
      · rfl
    · exact guardTest_work n _ s
    · split
      · exact executionFinished_work n s
      · rfl

theorem waitTest_work (n : LineNo) (s : State) : LineWork s (waitTest n s).state := by
  unfold waitTest; split
  · split
    · exact LineWork.trans (reportFault_reports _ _ _ s).lineWork rfl
    · rfl
  · rfl

/-- The timers' tests of a line tick keep to the work of a line. -/
theorem timerTests_work (n : LineNo) (s : State) : LineWork s (timerTests n s).state :=
  Ticked.andThen_work
    (Ticked.andThen_work
      (Ticked.andThen_work (expiryTests_work n s) (gatherTest_work n)) (executionTest_work n))
    (waitTest_work n)

/-- A sample touches the line and the record of what has been sampled in the phase. -/
theorem takeSample_state (n : LineNo) (high : Bool) (s : State) :
    ∃ l, (takeSample n high s).1 =
      (s.setScanBus
        { s.scanBus with sampled := s.scanBus.sampled.set (lineGroup n) true }).setLine n l := by
  unfold takeSample; dsimp only; split
  · exact ⟨_, rfl⟩
  · exact ⟨_, rfl⟩

/-- A line tick keeps to the work of a line, but for the record of what has been sampled in the phase. -/
theorem lineTickEffects_work (n : LineNo) (high : Bool) (s : State) :
    LineWork
      (s.setScanBus { s.scanBus with sampled := s.scanBus.sampled.set (lineGroup n) true })
      (lineTickEffects n high s).state := by
  obtain ⟨l, hl⟩ := takeSample_state n high s
  unfold lineTickEffects
  rcases h : takeSample n high s with ⟨s1, e⟩
  rw [h] at hl
  dsimp only at hl ⊢
  refine Ticked.andThen_work ?_ (timerTests_work n)
  refine LineWork.trans ?_ (superviseTick_work n _ _)
  refine LineWork.trans ?_ (raiseTimers_work n _)
  rw [hl]; rfl

/-! ### The end of an event -/

/-- An event that keeps to the work of a line does so with what it shows. -/
theorem settle_work (before after : State) : LineWork after (settle before after) := by
  unfold settle
  generalize shownStore before after.settleMutes = m
  unfold State.settleMutes
  generalize Vector.ofFn _ = v
  rfl

theorem event_work (f : State → State) (s : State) (h : LineWork s (f s)) :
    LineWork s (event f s) := h.trans (settle_work s (f s))

theorem event_orderWork (f : State → State) (s : State) (h : OrderWork s (f s)) :
    OrderWork s (event f s) := h.trans (settle_work s (f s)).orderWork

/-- A line after an event: as the event left it, with its MUTE latch re-evaluated. -/
theorem settle_line (before after : State) (n : LineNo) :
    (settle before after).line n = { after.line n with mute := after.muteOn n } := by
  simp [settle, State.settleMutes, State.line, State.setStore]

/-- Everything but the lines and the store stands at the end of an event. -/
theorem settle_eq (before after : State) :
    settle before after =
      { after with lines := (settle before after).lines, store := (settle before after).store } := by
  unfold settle
  generalize shownStore before after.settleMutes = m
  unfold State.settleMutes
  generalize Vector.ofFn _ = v
  rfl

theorem State.settleMutes_of_sound (s : State)
    (h : ∀ n : LineNo, (s.line n).mute = s.muteOn n) : s.settleMutes = s := by
  have : (Vector.ofFn fun n => ({ s.line n with mute := s.muteOn n } : Line)) = s.lines := by
    ext i hi
    simp [← h, State.line]
  simp [State.settleMutes, this]

/-- An event that changes nothing shows nothing. -/
theorem settle_self (s : State) (h : ∀ n : LineNo, (s.line n).mute = s.muteOn n) :
    settle s s = s := by
  have hi : ∀ m n, writeImage s s m n = m := by
    intro m n; unfold writeImage; split
    · rfl
    · exact writeChanged_self m _ _
  have hs : ∀ m k, writeSenderStatus s s m k = m := by
    intro m k; simp [writeSenderStatus]
  have hf : ∀ {α : Type} (f : List (Nat × Word) → α → List (Nat × Word)) (l : List α) m,
      (∀ m x, f m x = m) → l.foldl f m = m := by
    intro α f l m hfx
    induction l generalizing m with
    | nil => rfl
    | cons x rest ih => rw [List.foldl_cons, hfx, ih]
  unfold settle
  rw [State.settleMutes_of_sound s h]
  simp [shownStore, writeWaitCount, hf _ _ _ hi, hf _ _ _ hs, State.setStore]

/-! ### Orders and sweeps -/

theorem refuse_orderWork (k : SlotNo) (c : ResultCode) (d : Nat) (s : State) :
    OrderWork s (refuse k c d s) := (refuse_answers k c d s).lineWork.orderWork

theorem finishNow_orderWork (k : SlotNo) (c : ResultCode) (d : Nat) {s t : State}
    (h : OrderWork s t) : OrderWork s (finishNow k c d t) :=
  h.trans (finishNow_answers k c d t).lineWork.orderWork

theorem withLine_orderWork (k : SlotNo) (c : OrderCopy) (f : LineNo → State → State) (s : State)
    (h : ∀ n, OrderWork s (f n s)) : OrderWork s (withLine k c f s) := by
  unfold withLine; split
  · exact h _
  · exact refuse_orderWork _ _ _ s

theorem ifLineFree_orderWork (k : SlotNo) (n : LineNo) (f : State → State) (s : State)
    (h : OrderWork s (f s)) : OrderWork s (ifLineFree k n f s) := by
  unfold ifLineFree; split
  · exact refuse_orderWork _ _ _ s
  · exact h

theorem openOrder_work (k : SlotNo) (c : OrderCopy) (s : State) : OrderWork s (openOrder k c s) := by
  refine withLine_orderWork _ _ _ s fun n => ?_
  split
  · exact refuse_orderWork _ _ _ s
  · split
    · exact refuse_orderWork _ _ _ s
    · split
      · exact refuse_orderWork _ _ _ s
      · exact finishNow_orderWork _ _ _ (takeUp_work _ _ _ _ s).orderWork

theorem closeOrder_work (k : SlotNo) (c : OrderCopy) (s : State) :
    OrderWork s (closeOrder k c s) := by
  refine withLine_orderWork _ _ _ s fun n => ?_
  split
  · exact refuse_orderWork _ _ _ s
  · exact finishNow_orderWork _ _ _ (takeOut_work n s).orderWork

theorem adoptOrder_work (k : SlotNo) (c : OrderCopy) (s : State) :
    OrderWork s (adoptOrder k c s) := by
  unfold adoptOrder; split
  · exact refuse_orderWork _ _ _ s
  · dsimp only; split
    · exact OrderWork.trans (t := rejectSet _ _ _ s) rfl (refuse_orderWork _ _ _ _)
    · exact finishNow_orderWork _ _ _ rfl

theorem learnOrder_work (k : SlotNo) (c : OrderCopy) (s : State) :
    OrderWork s (learnOrder k c s) := by
  refine withLine_orderWork _ _ _ s fun n => ifLineFree_orderWork _ _ _ s ?_
  split
  · exact refuse_orderWork _ _ _ s
  · rfl

theorem releaseOrder_work (k : SlotNo) (c : OrderCopy) (s : State) :
    OrderWork s (releaseOrder k c s) := by
  refine withLine_orderWork _ _ _ s fun n => ifLineFree_orderWork _ _ _ s ?_
  dsimp only; split
  · exact refuse_orderWork _ _ _ s
  · split
    · exact refuse_orderWork _ _ _ s
    · split
      · exact refuse_orderWork _ _ _ s
      · split
        · rfl
        · exact OrderWork.trans (t := (accept k .release (some n) c s).modQueue n _) rfl
            (examineHead_sends n _).lineWork.orderWork

theorem injectOrder_work (k : SlotNo) (c : OrderCopy) (s : State) :
    OrderWork s (injectOrder k c s) := by
  refine withLine_orderWork _ _ _ s fun n => ifLineFree_orderWork _ _ _ s ?_
  dsimp only; split
  · exact refuse_orderWork _ _ _ s
  · split
    · exact refuse_orderWork _ _ _ s
    · split
      · exact refuse_orderWork _ _ _ s
      · split
        · exact refuse_orderWork _ _ _ s
        · exact OrderWork.trans
            (t := (stopFirstDigit n (accept k .inject (some n) c s)).modQueue n _) rfl
            (examineHead_sends n _).lineWork.orderWork

theorem flushOrder_work (k : SlotNo) (c : OrderCopy) (s : State) :
    OrderWork s (flushOrder k c s) := by
  refine withLine_orderWork _ _ _ s fun n => ?_
  split
  · exact refuse_orderWork _ _ _ s
  · exact finishNow_orderWork _ _ _ (flushQueue_work n s).orderWork

theorem peekOrder_work (k : SlotNo) (c : OrderCopy) (s : State) :
    OrderWork s (peekOrder k c s) := by
  refine withLine_orderWork _ _ _ s fun n => ?_
  dsimp only; split
  · exact refuse_orderWork _ _ _ s
  · split
    · exact finishNow_orderWork _ _ _ rfl
    · exact refuse_orderWork _ _ _ s

theorem markOrder_work (k : SlotNo) (c : OrderCopy) (s : State) :
    OrderWork s (markOrder k c s) := by
  unfold markOrder; split
  · exact refuse_orderWork _ _ _ s
  · split
    · exact refuse_orderWork _ _ _ s
    · split
      · exact (markDone_answers k c 0 s).lineWork.orderWork
      · rfl

theorem withdrawOrder_work (k : SlotNo) (s : State) : OrderWork s (withdrawOrder k s) := by
  unfold withdrawOrder; split
  · rfl
  · split
    · exact (endLearn_work _ _ _ s).orderWork
    · exact OrderWork.trans (t := endQueueOrder _ _ (s.modQueue _ _))
        (LineWork.trans (t := s.modQueue _ _) rfl (endQueueOrder_work _ _ _)).orderWork
        (examineHead_sends _ _).lineWork.orderWork
    · exact OrderWork.trans (t := endQueueOrder _ _ (s.modQueue _ _))
        (LineWork.trans (t := s.modQueue _ _) rfl (endQueueOrder_work _ _ _)).orderWork
        (examineHead_sends _ _).lineWork.orderWork
    · exact (completeOrder_answers _ _ _ s).lineWork.orderWork
    · rfl

/-- The examination of a slot keeps to the work of an order. -/
theorem examineSlot_work (k : SlotNo) (s : State) : OrderWork s (examineSlot k s) := by
  unfold examineSlot; split
  · unfold postedOrder; dsimp only; split
    · exact openOrder_work _ _ s
    · exact closeOrder_work _ _ s
    · exact adoptOrder_work _ _ s
    · exact learnOrder_work _ _ s
    · exact releaseOrder_work _ _ s
    · exact injectOrder_work _ _ s
    · exact flushOrder_work _ _ s
    · exact peekOrder_work _ _ s
    · exact markOrder_work _ _ s
    · exact refuse_orderWork _ _ _ s
  · split
    · exact withdrawOrder_work _ s
    · rfl

theorem sweepPast_work (k : SlotNo) (s : State) : OrderWork s (sweepPast k s) := by
  unfold sweepPast; split
  · refine event_orderWork _ s ?_
    exact OrderWork.trans (t := recheckLoss s) (recheckLoss_reports s).lineWork.orderWork rfl
  · rfl

theorem examined_work (k : SlotNo) (f : State → State) (s : State) (h : OrderWork s (f s)) :
    OrderWork s (examined k f s) := (event_orderWork f s h).trans (sweepPast_work k _)

/-- A sweep that goes on keeps to the work of an order. -/
theorem sweepOne_work (k : SlotNo) (s : State) : OrderWork s (sweepOne k s) := by
  unfold sweepOne; split
  · exact examined_work k _ s (examineSlot_work k s)
  · exact sweepPast_work k s

theorem sweepThrough_work (k : Nat) (s : State) : OrderWork s (sweepThrough k s) := by
  unfold sweepThrough
  generalize List.finRange 16 = l
  induction l generalizing s with
  | nil => rfl
  | cons j rest ih =>
    rw [List.foldl_cons]
    refine OrderWork.trans ?_ (ih _)
    split
    · exact sweepOne_work j s
    · rfl

end Sys2Proof.Machine
end

