-- ==== Sys2Proof/Laws/Shown.lean ====
section
/-! SUPPORT. Where the end of an event and a record of the capture unit write, and what the words written read as. -/

namespace Sys2Proof.Machine

/-! ### What the end of an event writes -/

theorem imageWords_length (s : State) (n : LineNo) : (s.imageWords n).length = 12 := by
  unfold State.imageWords; dsimp only; split <;> rfl

theorem readWord_foldl_other {α : Type} (f : List (Nat × Word) → α → List (Nat × Word))
    (l : List α) (m : List (Nat × Word)) (a : Nat)
    (hf : ∀ m x, readWord (f m x) a = readWord m a) :
    readWord (l.foldl f m) a = readWord m a := by
  induction l generalizing m with
  | nil => rfl
  | cons x rest ih => rw [List.foldl_cons, ih, hf]

/-- A line's image is written at its own words alone. -/
theorem readWord_writeImage_other (before after : State) (m : List (Nat × Word)) (n : LineNo)
    (a : Nat) (h : a < imageAddress n ∨ imageAddress n + 12 ≤ a) :
    readWord (writeImage before after m n) a = readWord m a := by
  unfold writeImage
  split
  · rfl
  · exact readWord_writeChanged_other m _ a _ _ (by rw [imageWords_length]; exact h)

/-- The end of an event leaves every word alone that shows nothing of the part's own state. -/
theorem readWord_shownStore_other (before after : State) (a : Nat) (h : shownAddress a = false) :
    readWord (shownStore before after) a = readWord after.store a := by
  simp only [shownAddress, Bool.or_eq_false_iff, Bool.and_eq_false_iff, decide_eq_false_iff_not]
    at h
  have h1 : ∀ m, readWord (writeWaitCount before after m) a = readWord m a := by
    intro m; unfold writeWaitCount; split
    · rfl
    · exact readWord_writeWord_other m _ _ _ (by unfold waitCountAddress; omega)
  have h2 : ∀ m k, readWord (writeSenderStatus before after m k) a = readWord m a := by
    intro m k; unfold writeSenderStatus; split
    · rfl
    · exact readWord_writeWord_other m _ _ _ (by unfold senderStatusAddress; have := k.isLt; omega)
  have h3 : ∀ m n, readWord (writeImage before after m n) a = readWord m a := by
    intro m n
    exact readWord_writeImage_other before after m n a
      (by unfold imageAddress; have := n.isLt; omega)
  unfold shownStore
  rw [h1, readWord_foldl_other _ _ _ _ h2, readWord_foldl_other _ _ _ _ h3]

/-- A word that shows nothing of the part's own state, after an event. -/
theorem settle_peek_other (before after : State) (a : Nat) (h : shownAddress a = false) :
    (settle before after).peek a = after.peek a := by
  unfold settle
  rw [State.setStore_peek', readWord_shownStore_other _ _ a h]
  unfold State.settleMutes
  generalize Vector.ofFn _ = v
  rfl

/-! ### Records -/

/-- A record that fits the filling page, with no loss pending, is placed there (R168, step 2). -/
theorem captureWords_fits (ws : List Word) (s : State) (f : Filling) (hl : s.capture.loss = 0)
    (hf : s.capture.filling = some f) (hp : f.position + ws.length ≤ 64) :
    captureWords ws s =
      (putRecord f.position ws s).setCapture
        { s.capture with
          filling := some { f with position := f.position + ws.length, count := f.count + 1 } } := by
  have h0 : recheckLoss s = s := by simp [recheckLoss, hl]
  unfold captureWords
  rw [h0]
  dsimp only
  rw [if_pos hl]
  unfold placeRecord
  rw [hf]
  dsimp only
  rw [if_pos hp]
  rfl

/-- The run of writes that starts at an address. -/
def runWrites (base : Nat) (ws : List Word) : List (Nat × Word) :=
  ws.zipIdx.map fun (w, i) => (base + i, w)

theorem readWord_runWrites_other (m : List (Nat × Word)) (base a : Nat) (ws : List Word)
    (h : a < base ∨ base + ws.length ≤ a) :
    readWord (writeWords m (runWrites base ws)) a = readWord m a := by
  refine readWord_writeWords_other m _ a ?_
  intro p hp
  simp only [runWrites, List.mem_map, Prod.exists] at hp
  obtain ⟨w, i, hw, rfl⟩ := hp
  have := List.snd_lt_of_mem_zipIdx hw
  simp only at this ⊢
  omega

/-- The words of a run read as written. -/
theorem readWord_runWrites (m : List (Nat × Word)) (base : Nat) (ws : List Word)
    (hm : storeWf m = true) (hb : base + ws.length ≤ storeSize) (i : Nat) (hi : i < ws.length) :
    readWord (writeWords m (runWrites base ws)) (base + i) = ws[i] := by
  induction ws generalizing m base i with
  | nil => simp at hi
  | cons w rest ih =>
    simp only [List.length_cons] at hb hi
    have hcons : runWrites base (w :: rest) = (base, w) :: runWrites (base + 1) rest := by
      simp only [runWrites, List.zipIdx_cons, List.map_cons, Nat.add_zero, List.cons.injEq, true_and]
      rw [List.zipIdx_succ]
      simp only [List.map_map]
      refine List.map_congr_left ?_
      rintro ⟨x, j⟩ _
      simp only [Function.comp_apply, Prod.mk.injEq, and_true]
      omega
    rw [hcons, writeWords_cons]
    cases i with
    | zero =>
      rw [readWord_runWrites_other _ _ _ _ (by omega)]
      exact readWord_writeWord_same m base w hm (by omega)
    | succ j =>
      have := ih (writeWord m base w) (base + 1) (storeWf_writeWord m base w hm) (by omega) j
        (by omega)
      rw [show base + (j + 1) = base + 1 + j by omega, this]
      rfl

end Sys2Proof.Machine
end

