-- ==== Sys2Proof/Tests/Slice0.lean ====
section
/-! SUPPORT. Tests: ill-formed commands, values worked in the spec, and for each statement with hypotheses a state and
operands that meet them. -/

namespace Sys2Proof.Tests

open Sys2Proof Sys2Proof.Machine

set_option Elab.async false

/-! ### A small part to test on -/

/-- The raw fields of a profile within every range and relation. -/
def fields : List Nat :=
  [1, 0, 1, 0, 1, 2, 3, 5000, 40, 20, 80, 15, 400, 100, 70, 140, 24, 150, 600, 10, 5000, 200, 300]

/-- The adopted set of those fields. -/
def set0 : AdoptedSet := adoptedSet fields 1

/-- The part with profile 0 in force, a page filling, at tick 1000. -/
def part : State :=
  { State.reset with
    timeBase := { State.reset.timeBase with clock := 1000 }
    profiles := State.reset.profiles.set 0 { adopted := some set0, generation := 1 }
    capture := { State.reset.capture with filling := some { position := 5, count := 1, age := 0 } } }

/-- The part at the end of a tick. -/
def partAtTickEnd : State := { part with timeBase := { part.timeBase with frameIndex := 7 } }

/-- A debounced level since tick 500. -/
def scanAt (level : Level) : Scan :=
  { polarity := .presentHigh, level := level, run := 0, candidate := none, edgeStamp := 500 }

/-- The same with one sample of the other level taken, at tick 999. -/
def scanRun (level : Level) : Scan := { scanAt level with run := 1, candidate := some 999 }

/-- A line in service on profile 0. -/
def lineIn (mode : LineMode) (sc : Scan) : Line :=
  { Line.outOfService false with
    scan := some sc, mode := mode, profile := some 0, estimator := some (.opened set0) }

/-- The call context under a discipline. -/
def callOf (d : Discipline) : CallContext := { callContext set0 with discipline := d }

/-- A line on a call with these queue items. -/
def lineOn (d : Discipline) (sc : Scan) (q : QueueUnit) : Line :=
  { (lineIn .active sc).seized set0 with call := some (callOf d), firstDigit := none, queue := q }

/-- The part with line 0 so. -/
def withLine0 (l : Line) : State := part.setLine 0 l

/-- An entry queued. -/
def entry (k : EntryKind) (o : Origin) (owner : Option SlotNo) : Entry :=
  { kind := k, origin := o, owner := owner }

/-- A DIALLED TONE queued. -/
def tone (code : Nat) : Entry := entry (.tone code) .dialled none

/-- A queue unit with entries and an entry in flight. -/
def queueOf (l : List Entry) (f : Option Flight) : QueueUnit :=
  { QueueUnit.empty with entries := l, flight := f }

/-- An entry in flight that no order owns. -/
def flying (e : Entry) : Option Flight := some { entry := e, owned := false }

/-- A running timer one line tick before its limit. -/
def lastTick : Timer := { count := 4, limit := 5 }

/-- A running timer far from its limit. -/
def midway : Timer := { count := 4, limit := 9 }

/-- A pending LEARN of slot 2. -/
def learning (t : Timer) : Learn := { slot := 2, timer := t, passedOver := 3 }

/-- A train context of the profile. -/
def train0 : TrainContext := trainContext set0 300

/-- A decoder in BREAK or MAKE of a train with these pulses. -/
def decoderIn (sub : SubState) (pulses periods : Nat) : Decoder :=
  { Decoder.atRest with
    sub := sub, ctx := some train0, breakStart := some 600, makeStart := some 660, pulses := pulses,
    countedBreakStart := some 500, candidateMake := some 39, periods := periods,
    periodSum := 100 * periods, makeSum := 39 * periods }

/-- A sender bound to line 0. -/
def bound (p : SendPhase) (countdown : Nat) : Binding :=
  { newBinding 0 5 .dialled (readTone State.reset.store 5) with
    phase := p, countdown := countdown, started := true }

/-- A request of a line. -/
def requestOf (n : LineNo) (cls : SenderClass) : Request :=
  { line := n, cls := cls, senderWait := 5, waitCount := 4, expired := false, age := 4 }

/-- An order posted in a slot, with the sweep under way at slot 0. -/
def posted (slot : SlotNo) (kind line : Nat) (params : List Word) (s : State) : State :=
  (s.setSweep (some 0) false).pokes
    ((slotPosted :: asWord (256 * kind + line) :: params).zipIdx.map fun (w, i) =>
      (slotAddress slot + i, w))

/-- An order of the acceptance list. -/
def held (slot : SlotNo) (kind : HeldKind) (line : Option LineNo) : HeldOrder :=
  { slot := slot, kind := kind, line := line, ahead := 0
    copy := { kindLine := 0, p0 := 0x240, p1 := 7, p2 := 1, p3 := 0, p4 := 0 } }

/-- The state with an acceptance list and the sweep under way at slot 0. -/
def holding (l : List HeldOrder) (s : State) : State := (s.setAccepted l).setSweep (some 0) false

/-! ### Ill-formed commands, one for each check -/

theorem test_sendHoldSet_needs_bit0 : (Instr.sendHoldSet 0x001E).wellFormed = false := by decide
theorem test_sendHoldClear_refuses_bit0 : (Instr.sendHoldClear 0x0001).wellFormed = false := by decide
theorem test_maskWrite_refuses_softReset : (Instr.controlMaskWrite 0x8000).wellFormed = false := by
  decide
theorem test_softReset_needs_bit15 : (Instr.softReset 0x7FFF).wellFormed = false := by decide
theorem test_statusClear_needs_a_cause : (Instr.statusClear 0x8001).wellFormed = false := by decide
theorem test_ignored_refuses_control : (Instr.registerWriteIgnored 0x1001 0).wellFormed = false := by
  decide

/-! ### Values worked in the spec -/

/-- 01, debounce of one break: the sample of tick 106 accepts the OPEN edge stamped 104. -/
theorem test_debounce_third_sample :
    debounce 3 .opened 106
        { polarity := .presentLow, level := .closed, run := 2, candidate := some 104, edgeStamp := 0 } =
      ({ polarity := .presentLow, level := .opened, run := 0, candidate := none, edgeStamp := 104 },
        some { level := .opened, stamp := 104 }) := by decide

/-- 04, a fast dial at the band limit: −263 / 8 truncates to −32, and the clamp returns 1143. -/
theorem test_track_clamps_at_band : trackP16 1143 55 1143 2286 = 1143 := by decide

/-- 04: 1150 with a period of 60 would go to 1127 in a wider band. -/
theorem test_track_truncates_toward_zero : trackP16 1150 60 800 2286 = 1127 := by decide

/-- 04, the same train's statistics, and OFF-BAND against 1143. -/
theorem test_fast_train_statistics :
    (meanPeriod 3 167, makePercent 167 65) = (56, 39) ∧
      offBand (some (56, 39)) { train0 with pLo16 := 1143 } = true := by decide

/-- 04, learning a slow dial. -/
theorem test_learned_value :
    learnedP16 { decoderIn .inMake 4 3 with periodSum := 360 } train0 = 1920 := by decide

/-- 05, bringing a profile into force: its three speeds. -/
theorem test_derived_speeds : [periodFrom 90, periodFrom 160, periodFrom 60] = [1778, 1000, 2667] := by
  decide

/-- 05: an ADOPT of fields all 0 fails at word 5. -/
theorem test_zero_fields_refused :
    profileRefusal (List.replicate 23 0) = some (.fieldRange, 5) := by decide

/-- 08, the first frames of a tone: the increments, and the samples of frames 1 to 4. -/
theorem test_first_tone_frames :
    (phaseIncrement 770, phaseIncrement 1336) = (6308, 10945) ∧
      [sampleValue 6308 10945 1800 2300, sampleValue 12616 21890 1800 2300,
        sampleValue 18924 32835 1800 2300, sampleValue 25232 43780 1800 2300] =
        [5945, 7360, 3512, -1585] := by decide

/-- 08, a clamped entry: code 12 with 100, 1633, 1000, 20, 5000 and 2300. -/
theorem test_clamped_entry :
    let v := readTone
      (part.pokes [(0x220, 100), (0x221, 1633), (0x222, 1000), (0x223, 20), (0x224, 5000)]).store 12
    (v.low, v.high, v.onMs, v.offMs, v.levelLow) = (200, 1633, 500, 30, 4095) ∧ v.incLow = 1638 := by
  decide +kernel

/-- 11: a PEEK word of a DIALLED 7 in flight, and of an ORDERED pause of 300 ms. -/
theorem test_peek_words :
    (peekWord true (tone 7), peekWord false (entry (.pause 300) .ordered none)) =
      (0x1007, 0x8000 + 0x2000 + 300) := by decide

/-- A step takes the front command: an ignored write leaves the block as it is. -/
theorem test_step_takes_front :
    step { State.reset with pending := [.registerWriteIgnored 0x1000 5, .sweep] } =
      .next { State.reset with pending := [.sweep] } := rfl

/-! ### States and operands that meet the statements' hypotheses

Each theorem below names the statement it is for, and is about one state, or one state for each of its clauses. -/

def scanOpen : Scan := scanAt .opened
def scanClosed : Scan := scanAt .closed
def scanOpening : Scan := scanRun .closed
def scanClosing : Scan := scanRun .opened

theorem witness_StepTakesFrontCommand : part.pending = [] := rfl

theorem witness_EveryCommandAnswersAndKeepsQueue :
    StoreSound part ∧ MarkTargetsSound part ∧ (Instr.sweep).wellFormed = true ∧
      Instr.sweep ≠ .storeInitialisationComplete := by decide +kernel

theorem witness_PinResetStillsThePart :
    (initialising part).ready = false ∧ Instr.sweep ≠ .pinReset ∧
      Instr.sweep ≠ .storeInitialisationComplete := by decide +kernel

theorem witness_InitialisationLeavesThePart : (initialising part).ready = false := rfl

theorem witness_TickAdvancesClockAndAgedPageCloses_tick :
    partAtTickEnd.ready = true ∧ partAtTickEnd.timeBase.frameIndex = 7 ∧
      partAtTickEnd.timeBase.tickTaken = false := by decide +kernel

/-- A digit 5 in flight and nothing behind it. -/
def fiveInFlight : QueueUnit := queueOf [] (flying (tone 5))

/-- Line 0 with a sender in TONE or GAP. -/
def sending (p : SendPhase) (countdown : Nat) (d : Discipline) (q : QueueUnit) : State :=
  (withLine0 { lineOn d scanClosed q with mute := true }).setSender 0 (some (bound p countdown))

def stateInTone : State := sending .tone 9 .immediate fiveInFlight
def stateInGap : State := sending .gap 9 .immediate fiveInFlight

/-- After the frame boundary line 0 carries the sender's sample in TONE, and 0 in GAP. -/
theorem witness_FrameBoundaryMovesPhaseAndHighway :
    stateInTone.ready = true ∧ stateInGap.ready = true ∧
      ((frameBoundary stateInTone).line 0).mode = .active ∧
      (frameBoundary stateInTone).boundSender 0 = some 0 ∧
      ((frameBoundary stateInTone).sender 0).map (·.phase) = some .tone ∧
      (frameBoundary stateInGap).boundSender 0 = some 0 ∧
      ((frameBoundary stateInGap).sender 0).map (·.phase) = some .gap := by decide +kernel

/-- The end of a TONE, of a GAP with a TONE behind it, of a GAP with nothing behind it, and no end. -/
theorem witness_FrameBoundaryMovesPhaseAndHighway_senders :
    LastFrame 0 (bound .tone 1) .tone (sending .tone 1 .immediate fiveInFlight) ∧
    (∀ q ∈ [queueOf [tone 1] (flying (tone 5)), fiveInFlight],
      let s := sending .gap 1 .immediate q
      MarkTargetsSound s ∧ EntriesSound s ∧ LastFrame 0 (bound .gap 1) .gap s ∧
        (s.line 0).queue.flight = flying (tone 5) ∧ PageStaysOpen s ∧
        (∀ j : SenderNo, j ≠ 0 → s.sender j = none) ∧ (s.line 0).mode = .active ∧
        (s.line 0).sendable (tone 1) = true ∧ s.sendHold = false ∧
        (s.line 0).queue.waiting = false ∧ s.waitList = []) ∧
    ∀ s ∈ [stateInTone, stateInGap, { stateInTone with timeBase := partAtTickEnd.timeBase }],
      s.ready = true ∧ (∀ k : SenderNo, ∀ b ∈ s.sender k, phaseEnds b = false) ∧
        PageStaysOpen s := by decide +kernel

def filling0 : Filling := { position := 5, count := 1, age := 1000 }

def stateAged : State :=
  { part with
    timeBase := { part.timeBase with ageDue := true }
    capture := { part.capture with filling := some filling0 } }

theorem witness_TickAdvancesClockAndAgedPageCloses_page :
    StoreSound stateAged ∧ MuteSound stateAged ∧ stateAged.ready = true ∧
      stateAged.timeBase.ageDue = true ∧ stateAged.capture.filling = some filling0 ∧
      max 2 (min 1000 (stateAged.peek 0x002).toNat) ≤ filling0.age := by decide +kernel

theorem witness_LineTickTakesTheSample :
    lineTickDue 88 part = true ∧ MuteSound part ∧ Unserved 88 part ∧
      part.line 88 = Line.outOfService false := by decide +kernel

theorem witness_DebounceAcceptsAtTheDthSample :
    scanOpen.run = 0 ∧ Level.closed ≠ scanOpen.level ∧ (1 ≤ 1 ∧ 0 < 1) ∧ (1 ≤ 15 ∧ 14 < 15) := by
  decide

/-- The part with a line 0, under a debounce of three samples. -/
def underThree (l : Line) : State :=
  { withLine0 l with
    profiles :=
      part.profiles.set 0 { adopted := some { set0 with debounce := 3 }, generation := 1 } }

/-- A first and a second sample of the other level under a debounce of three, in IDLE, SEIZING and LOCKOUT and on a
call with a LEARN pending. -/
theorem witness_DebounceAcceptsAtTheDthSample_short :
    ∀ x ∈ [(true, LineMode.idle, scanOpen), (true, .idle, scanClosing),
        (false, .seizing, scanOpening), (true, .lockout, { scanOpen with edgeStamp := 900 }), (false, .active, scanClosed),
        (false, .active, scanOpening)],
      let l : Line :=
        match x.2.1 with
        | .active =>
          { lineOn .gather x.2.2 fiveInFlight with
            estimator := some { Estimator.opened set0 with learn := some (learning midway) } }
        | mode => { lineIn mode x.2.2 with seizure := some { start := 961, seizeTime := 40 } }
      let s := underThree l
      ShortTick 0 x.1 x.2.2 { set0 with debounce := 3 } s ∧ MuteSound s ∧ LearnWaits 0 s ∧
        OnlyLearnMoves 0 x.2.2 s := by decide +kernel

/-- A sample of the debounced level, and one that completes the run. -/
theorem witness_DebounceAcceptsAtTheDthSample_ends :
    SteadyTick 0 false scanClosing (withLine0 (lineIn .idle scanClosing)) ∧
      EdgeTick 0 true scanClosing set0 (withLine0 (lineIn .idle scanClosing)) := by decide +kernel

def stateIdle : State := withLine0 (lineIn .idle scanClosing)
def seizureAt (start : Tick) : Seizure := { start := start, seizeTime := 40 }
def stateSeizing (sc : Scan) (start : Tick) : State :=
  withLine0 { lineIn .seizing sc with seizure := some (seizureAt start) }

theorem witness_IdleAndSeizingTakeTheirEdges_idle :
    MuteSound stateIdle ∧ EdgeTick 0 true scanClosing set0 stateIdle ∧
      corrected scanClosing.polarity true = .closed ∧ (stateIdle.line 0).mode = .idle ∧
      Resting 0 stateIdle ∧ NoLearn 0 stateIdle := by decide +kernel

def stateOpening : State := stateSeizing scanOpening 960
def stateWaiting : State := stateSeizing scanClosed 961

/-- An edge stamped 39 ticks after the start, and a steady tick 39 after it, where seize_time is 40. -/
theorem witness_IdleAndSeizingTakeTheirEdges_seizing :
    (∀ s ∈ [stateOpening, stateWaiting],
      MuteSound s ∧ (s.line 0).mode = .seizing ∧ Resting 0 s ∧ NoLearn 0 s) ∧
    (stateOpening.line 0).seizure = some (seizureAt 960) ∧
      EdgeTick 0 false scanOpening set0 stateOpening ∧
      corrected scanOpening.polarity false = .opened ∧
      since (edgeStampOf scanOpening stateOpening) 960 < 40 ∧
    (stateWaiting.line 0).seizure = some (seizureAt 961) ∧
      SteadyTick 0 true scanClosed stateWaiting ∧ since stateWaiting.clock 961 < 40 := by
  decide +kernel

/-- An edge stamped 49 ticks after the start. -/
theorem witness_IdleAndSeizingTakeTheirEdges_complete :
    let s := stateSeizing scanOpening 950
    StoreSound s ∧ MuteSound s ∧ (s.line 0).mode = .seizing ∧ Resting 0 s ∧ NoLearn 0 s ∧
      (s.line 0).seizure = some (seizureAt 950) ∧ EdgeTick 0 false scanOpening set0 s ∧
      corrected scanOpening.polarity false = .opened ∧
      40 ≤ since (edgeStampOf scanOpening s) 950 ∧
      since s.clock (edgeStampOf scanOpening s) < set0.flashMax ∧
      (s.line 0).estimator = some (.opened set0) ∧ set0.generation ≤ 255 ∧
      RecordGoesTo s 3 0xA05 := by decide +kernel

def stateSeized : State := stateSeizing scanClosed 960

theorem witness_SeizureCompletes :
    StoreSound stateSeized ∧ MuteSound stateSeized ∧ SteadyTick 0 true scanClosed stateSeized ∧
      (stateSeized.line 0).mode = .seizing ∧ (stateSeized.line 0).seizure = some (seizureAt 960) ∧
      stateSeized.setInForce 0 = some set0 ∧ set0.generation ≤ 255 ∧
      40 ≤ since stateSeized.clock 960 ∧ Unserved 0 stateSeized ∧ NoLearn 0 stateSeized ∧
      RecordGoesTo stateSeized 3 0xA05 := by decide +kernel

def stateMute : State :=
  withLine0 { lineOn .gather scanClosed .empty with firstDigit := some lastTick }

theorem witness_FirstDigitExpiryLocksOut :
    StoreSound stateMute ∧ MuteSound stateMute ∧ SteadyTick 0 true scanClosed stateMute ∧
      (stateMute.line 0).mode = .active ∧ DecoderWaits 0 stateMute ∧
      (stateMute.line 0).firstDigit = some lastTick ∧ lastTick.limit ≤ lastTick.count + 1 ∧
      (stateMute.line 0).queue = .empty ∧ Unserved 0 stateMute ∧ NoLearn 0 stateMute ∧
      RecordGoesTo stateMute 3 0xA05 ∧ FaultGoesTo stateMute 0 := by decide +kernel

def stateLockout : State :=
  withLine0 (lineIn .lockout { scanOpen with edgeStamp := 600 })

theorem witness_LockoutReturnsToIdle :
    MuteSound stateLockout ∧
      SteadyTick 0 false { scanOpen with edgeStamp := 600 } stateLockout ∧
      scanOpen.level = .opened ∧ (stateLockout.line 0).mode = .lockout ∧
      stateLockout.setInForce 0 = some set0 ∧ set0.flashMax ≤ since stateLockout.clock 600 ∧
      Resting 0 stateLockout ∧ NoLearn 0 stateLockout := by decide +kernel

/-- A line in LOCKOUT with a LEARN pending. -/
def lockedOut (sc : Scan) : State :=
  withLine0
    { lineIn .lockout sc with
      estimator := some { Estimator.opened set0 with learn := some (learning midway) } }

/-- The loop of `scanOpening`, its candidate stamp flash_max back. -/
def scanLongOpening : Scan := { scanOpening with candidate := some 600 }

/-- A loop that stays closed, and one open for 399 ticks; then a CLOSED edge, an OPEN edge, and an OPEN edge stamped
flash_max back. -/
theorem witness_LockoutReturnsToIdle_stays :
    (∀ x ∈ [(true, scanClosed), (false, { scanOpen with edgeStamp := 601 })],
      SteadyTick 0 x.1 x.2 (lockedOut x.2) ∧
        (x.2.level = .closed ∨ since part.clock x.2.edgeStamp < set0.flashMax)) ∧
    (∀ x ∈ [(true, scanClosing), (false, scanOpening), (false, scanLongOpening)],
      EdgeTick 0 x.1 x.2 set0 (lockedOut x.2)) ∧
    (∀ sc ∈ [scanClosed, { scanOpen with edgeStamp := 601 }, scanClosing, scanOpening,
        scanLongOpening],
      let s := lockedOut sc
      MuteSound s ∧ (s.line 0).mode = .lockout ∧ Resting 0 s ∧ LearnWaits 0 s ∧
        s.setInForce 0 = some set0) ∧
    since part.clock (edgeStampOf scanOpening part) < set0.flashMax ∧
    set0.flashMax ≤ since part.clock (edgeStampOf scanLongOpening part) := by decide +kernel

def releasedQueue : QueueUnit :=
  { queueOf [tone 1, tone 2] (flying (tone 5)) with credit := 1, order := some (.release 3 1 false) }

/-- Line 0 in an open break of a train, a sender in GAP, and a RELEASE of slot 3. -/
def stateClearing : State :=
  holding [held 3 .release (some 0)]
    ((withLine0
      { lineOn .held scanOpen releasedQueue with
        decoder := decoderIn .inBreak 2 1, mute := true }).setSender 0 (some (bound .gap 9)))

theorem witness_ClearEndsTheCall :
    StoreSound stateClearing ∧ PoolSound stateClearing ∧ MarkTargetsSound stateClearing ∧
      SteadyTick 0 false scanOpen stateClearing ∧ scanOpen.level = .opened ∧
      (stateClearing.line 0).mode = .active ∧ (stateClearing.line 0).decoder.sub = .inBreak ∧
      (stateClearing.line 0).decoder.limit (·.flashMax) ≤
        (stateClearing.line 0).decoder.sinceBreak stateClearing.clock ∧
      NoLearn 0 stateClearing ∧ RecordGoesTo stateClearing 4 0xA05 ∧
      (stateClearing.line 0).queue.order = some (.release 3 1 false) := by decide +kernel

/-- The same break with no sender, request or order. -/
def stateClearingBare : State :=
  withLine0
    { lineOn .held scanOpen (queueOf [tone 1] (flying (tone 5))) with
      decoder := decoderIn .inBreak 2 1, mute := true }

theorem witness_ClearEndsTheCall_bare :
    StoreSound stateClearingBare ∧ PoolSound stateClearingBare ∧
      MarkTargetsSound stateClearingBare ∧ SteadyTick 0 false scanOpen stateClearingBare ∧
      (stateClearingBare.line 0).mode = .active ∧
      (stateClearingBare.line 0).decoder = decoderIn .inBreak 2 1 ∧
      (stateClearingBare.line 0).decoder.limit (·.flashMax) ≤
        (stateClearingBare.line 0).decoder.sinceBreak stateClearingBare.clock ∧
      NoLearn 0 stateClearingBare ∧ RecordGoesTo stateClearingBare 4 0xA05 ∧
      MuteSound stateClearingBare ∧ (stateClearingBare.line 0).queue.order = none ∧
      Unserved 0 stateClearingBare := by decide +kernel

def stateMake (d : Decoder) : State :=
  withLine0 { lineOn .gather scanClosed fiveInFlight with decoder := d, mute := true }
def statePending : State :=
  stateMake { decoderIn .inMake 2 1 with pulsePending := true, makeStart := some 985 }

theorem witness_PendingPulseIsCounted :
    SteadyTick 0 true scanClosed statePending ∧ scanClosed.level = .closed ∧
      (statePending.line 0).mode = .active ∧ (statePending.line 0).decoder.sub = .inMake ∧
      (statePending.line 0).decoder.pulsePending = true ∧
      (statePending.line 0).decoder.ctx = some train0 ∧
      (statePending.line 0).decoder.breakStart = some 600 ∧
      (statePending.line 0).decoder.makeStart = some 985 ∧
      train0.makeMin ≤ since statePending.clock 985 := by decide +kernel

/-- The end of a train of these pulses and full periods. -/
def stateTrainEnd (pulses periods : Nat) : State := stateMake (decoderIn .inMake pulses periods)

/-- The short form after one pulse, and the long form after ten. -/
theorem witness_TrainEndsAsDigitOrMutilated :
    ∀ x ∈ [(1, 0, 1, 4), (10, 9, 0, 6)],
      let s := stateTrainEnd x.1 x.2.1
      let d := (s.line 0).decoder
      StoreSound s ∧ SteadyTick 0 true scanClosed s ∧ scanClosed.level = .closed ∧
      (s.line 0).mode = .active ∧ d.sub = .inMake ∧ d.pulsePending = false ∧ d.ctx = some train0 ∧
      d.makeStart = some 660 ∧ train0.tId ≤ since s.clock 660 ∧ d.pulses = x.1 ∧
      digitOf train0.map x.1 = x.2.2.1 ∧ (s.line 0).estimator = some (.opened set0) ∧
      NoLearn 0 s ∧ (s.line 0).queue.flight.isSome = true ∧ (s.line 0).queue.execution = .none ∧
      (s.line 0).queue.entries.length < 24 ∧
      (if d.periods = 0 then 4 else 6) = x.2.2.2 ∧ RecordGoesTo s x.2.2.2 0xA05 := by
  decide +kernel

/-- Two pulses with a period of 40 ms: off the band. -/
theorem witness_TrainEndsAsDigitOrMutilated_offBand :
    let s := stateMake { decoderIn .inMake 2 1 with periodSum := 40 }
    offBand (trainStatistics (s.line 0).decoder) train0 = true ∧
      (s.line 0).dialSpeedReported = false ∧ FaultGoesTo s 0 ∧ RecordGoesTo s 6 0xA05 ∧
      NoLearn 0 s ∧ (s.line 0).queue.flight.isSome = true ∧
      offBand (trainStatistics (decoderIn .inMake 2 1)) train0 = false ∧ s.waitList = [] := by
  decide +kernel

/-- A full queue, and a train ended, a flash or a break on a call of line 0 with nothing in flight. -/
def full : List Entry := List.replicate 24 (tone 1)
def stateTrain (d : Discipline) (sc : Scan) (l : List Entry) (x : Decoder) : State :=
  withLine0 { lineOn d sc (queueOf l none) with decoder := x, mute := true }

/-- A digit with room, a digit lost, and a count of 11. -/
theorem witness_TrainEndsAsDigitOrMutilated_queue :
    ∀ x ∈ [(1, []), (10, full.tail), (1, full), (11, [])],
      let s := stateTrain .gather scanClosed x.2 (decoderIn .inMake x.1 0)
      let d := (s.line 0).decoder
      StoreSound s ∧ SteadyTick 0 true scanClosed s ∧ (s.line 0).mode = .active ∧
        (s.line 0).call = some (callOf .gather) ∧ d.sub = .inMake ∧ d.pulsePending = false ∧
        d.ctx = some train0 ∧ d.makeStart = some 660 ∧ train0.tId ≤ since s.clock 660 ∧
        NoLearn 0 s ∧ TimersWait 0 (callOf .gather) s ∧ d.pulses = x.1 ∧
        (s.line 0).queue.entries = x.2 ∧ (s.line 0).firstDigit = none ∧
        offBand (trainStatistics d) train0 = false ∧ GatherWaits 0 s ∧
        (s.line 0).overflowReported = false ∧ FaultGoesTo s 0 ∧ RecordGoesTo s 4 0xA05 := by
  decide +kernel

def stateGather (q : QueueUnit) : State :=
  withLine0 (lineOn .gather scanClosed { q with gatherTimer := some lastTick })

theorem witness_GatherWaitSatisfiesTheGather :
    (∀ s ∈ [stateGather fiveInFlight, stateGather .empty],
      SteadyTick 0 true scanClosed s ∧ InCall 0 (callOf .gather) s ∧ DecoderWaits 0 s ∧
        (s.line 0).queue.gatherTimer = some lastTick ∧ (s.line 0).queue.execution = .none) ∧
    ((stateGather fiveInFlight).line 0).queue.flight.isSome = true ∧
    ((stateGather .empty).line 0).queue.entries = [] ∧
      ((stateGather .empty).line 0).queue.waiting = false := by decide +kernel

/-- Two DIALLED entries and nothing in flight. -/
theorem witness_GatherWaitSatisfiesTheGather_examined :
    let s := stateGather (queueOf [tone 1, tone 2] none)
    SteadyTick 0 true scanClosed s ∧ InCall 0 (callOf .gather) s ∧ DecoderWaits 0 s ∧
      NoLearn 0 s ∧ (s.line 0).queue.gatherTimer = some lastTick ∧
      TimersWait 0 (callOf .gather) s := by decide +kernel

/-- An ORDERED entry in flight, in execution. -/
def flight1 (k : EntryKind) (owned : Bool) : Flight :=
  { entry := entry k .ordered (some 1), owned := owned }
def stateExecuting (k : EntryKind) (x : Execution) (r : Option OrderRecord) : State :=
  holding [held 1 .inject (some 0)]
    (withLine0
      (lineOn .held scanClosed
        { queueOf [] (some (flight1 k r.isSome)) with execution := x, order := r }))

def stateRecallBreak : State := stateExecuting .recall (.recallBreak 800) none

theorem witness_RecallAndPauseRunTheirCourse_break :
    SteadyTick 0 true scanClosed stateRecallBreak ∧ InCall 0 (callOf .held) stateRecallBreak ∧
      DecoderWaits 0 stateRecallBreak ∧
      (stateRecallBreak.line 0).queue.execution = .recallBreak 800 ∧
      (stateRecallBreak.line 0).queue.flight.isSome = true ∧
      (callOf .held).flashOut ≤ since stateRecallBreak.clock 800 ∧
      0 < (callOf .held).recallGuard := by decide +kernel

/-- The end of a guard and of a pause: at an INJECT's last entry, at an earlier one, at a RELEASE's last credit,
and of no order; with nothing queued behind it and with a TONE or a RECALL. -/
theorem witness_RecallAndPauseRunTheirCourse_finish :
    (∀ r ∈ [some (.inject 1 2 1), some (.inject 1 2 2), some (.release 1 2 true), none],
      ∀ x ∈ [(EntryKind.recall, Execution.recallGuard 700), (.pause 100, .pause 900)],
      ∀ l ∈ [[], [entry (.tone 1) .ordered (some 1)], [entry .recall .ordered none]],
      let s := (stateExecuting x.1 x.2 r).modQueue 0 fun q => { q with entries := l }
      StoreSound s ∧ MarkTargetsSound s ∧ EntriesSound s ∧ SteadyTick 0 true scanClosed s ∧
        InCall 0 (callOf .held) s ∧ DecoderWaits 0 s ∧ LearnWaits 0 s ∧
        (s.line 0).queue.flight = some (flight1 x.1 r.isSome) ∧ (s.line 0).queue.entries = l ∧
        (s.line 0).queue.waiting = false ∧ (s.line 0).queue.execution = x.2 ∧
        (s.line 0).queue.order = r ∧ GatherWaits 0 s ∧ RequestWaits 0 s) ∧
    0 < (callOf .held).senderWait ∧
    (callOf .held).recallGuard ≤ since part.clock 700 ∧ 100 ≤ since part.clock 900 := by
  decide +kernel

/-- A recall break that ends with a recall_guard of 0. -/
def callNoGuard : CallContext := { callOf .held with recallGuard := 0 }
def stateNoGuard (l : List Entry) : State :=
  (stateExecuting .recall (.recallBreak 800) (some (.inject 1 2 2))).modLine 0 fun x =>
    { x with call := some callNoGuard, hold := false, queue := { x.queue with entries := l } }

theorem witness_RecallAndPauseRunTheirCourse_noGuard :
    ∀ l ∈ [[], [entry (.tone 1) .ordered (some 1)]],
      let s := stateNoGuard l
      StoreSound s ∧ MarkTargetsSound s ∧ EntriesSound s ∧ SteadyTick 0 true scanClosed s ∧
        InCall 0 callNoGuard s ∧ DecoderWaits 0 s ∧ LearnWaits 0 s ∧
        (s.line 0).queue.flight = some (flight1 .recall true) ∧
        (s.line 0).queue.execution = .recallBreak 800 ∧
        callNoGuard.flashOut ≤ since s.clock 800 ∧ callNoGuard.recallGuard = 0 ∧
        GatherWaits 0 s ∧ RequestWaits 0 s ∧ 0 < callNoGuard.senderWait := by decide +kernel

def waitingQueue : QueueUnit := { queueOf [tone 1] none with waiting := true }
def stateWaits : State :=
  (withLine0 (lineOn .immediate scanClosed waitingQueue)).setWaitList
    [requestOf 7 .b, requestOf 0 .a]

theorem witness_SenderWaitReportsOnce :
    StoreSound stateWaits ∧ MuteSound stateWaits ∧ SteadyTick 0 true scanClosed stateWaits ∧
      InCall 0 (callOf .immediate) stateWaits ∧ DecoderWaits 0 stateWaits ∧ NoLearn 0 stateWaits ∧
      (stateWaits.line 0).queue.execution = .none ∧
      GatherWaits 0 stateWaits ∧ stateWaits.sendHold = false ∧
      stateWaits.request 0 = some (requestOf 0 .a) ∧ (requestOf 0 .a).expired = false ∧
      (requestOf 0 .a).senderWait ≤ (requestOf 0 .a).waitCount + 1 ∧ FaultGoesTo stateWaits 0 := by
  decide +kernel

/-- A request that has expired, one under SEND-HOLD at the last tick of its count, and one before it. -/
theorem witness_SenderWaitReportsOnce_waits :
    ∀ x ∈ [({ requestOf 0 .a with expired := true, waitCount := 5 }, false),
        (requestOf 0 .a, true), ({ requestOf 0 .a with waitCount := 3 }, false)],
      let s : State :=
        { stateWaits.setWaitList [requestOf 7 .b, x.1] with
          control := { stateWaits.control with sendHold := x.2 } }
      MuteSound s ∧ SteadyTick 0 true scanClosed s ∧ InCall 0 (callOf .immediate) s ∧
        DecoderWaits 0 s ∧ NoLearn 0 s ∧ (s.line 0).queue.execution = .none ∧
        GatherWaits 0 s ∧ s.request 0 = some x.1 ∧
        (x.1.expired = true ∨ (s.sendHold = true ∧ x.1.waitCount < x.1.senderWait) ∨
          (s.sendHold = false ∧ x.1.waitCount + 1 < x.1.senderWait)) := by decide +kernel

def estLearning : Estimator :=
  { Estimator.opened set0 with learnMark := true, learn := some (learning lastTick) }
def stateLearning : State :=
  holding [held 2 .learn (some 0)]
    (withLine0 { lineIn .idle scanOpen with estimator := some estLearning })

/-- The last tick of a LEARN's timer on this line. -/
def learnsOn (l : Line) : State :=
  holding [held 2 .learn (some 0)] (withLine0 { l with estimator := some estLearning })

/-- In IDLE, SEIZING, LOCKOUT on a closed loop, and ACTIVE in the first train of a call. -/
def lastLearnTicks : List (Bool × Scan × State) :=
  [ (false, scanOpen, stateLearning),
    (true, scanClosed, learnsOn { lineIn .seizing scanClosed with seizure := some (seizureAt 961) }),
    (true, scanClosed, learnsOn (lineIn .lockout scanClosed)),
    (false, scanOpen,
      learnsOn
        { lineOn .gather scanOpen .empty with
          decoder := { decoderIn .inBreak 0 0 with breakStart := some 990 }
          firstDigit := some midway, mute := true }) ]

theorem witness_LearnExpires :
    (∀ x ∈ lastLearnTicks,
      let s := x.2.2
      StoreSound s ∧ MuteSound s ∧ MarkTargetsSound s ∧ SteadyTick 0 x.1 x.2.1 s ∧
        (s.line 0).mode ≠ .out ∧ (s.line 0).estimator = some estLearning) ∧
    estLearning.learn = some (learning lastTick) ∧ lastTick.limit ≤ lastTick.count + 1 := by
  decide +kernel

/-- The last hypothesis, for the same states. -/
theorem witness_LearnExpires_alone : ∀ x ∈ lastLearnTicks, OnlyLearnMoves 0 x.2.1 x.2.2 := by
  decide +kernel

/-- A marked train cleared at the last tick of the LEARN's timer. -/
def stateLearnClear : State :=
  learnsOn { lineOn .gather scanOpen .empty with decoder := decoderIn .inBreak 1 0, mute := true }

theorem witness_LearnExpires_clear :
    StoreSound stateLearnClear ∧ MarkTargetsSound stateLearnClear ∧
      SteadyTick 0 false scanOpen stateLearnClear ∧ scanOpen.level = .opened ∧
      (stateLearnClear.line 0).mode = .active ∧ (stateLearnClear.line 0).decoder.sub = .inBreak ∧
      (stateLearnClear.line 0).decoder.limit (·.flashMax) ≤
        (stateLearnClear.line 0).decoder.sinceBreak stateLearnClear.clock ∧
      (stateLearnClear.line 0).estimator = some estLearning ∧ estLearning.learnMark = true := by
  decide +kernel

def stateToneEnd : State := sending .tone 1 .immediate fiveInFlight

theorem witness_ToneEndsInGap :
    StoreSound stateToneEnd ∧ MuteSound stateToneEnd ∧
      LastFrame 0 (bound .tone 1) .tone stateToneEnd ∧ (bound .tone 1).code < 16 ∧
      (stateToneEnd.line 0).call = some (callOf .immediate) ∧
      (callOf .immediate).reportSent = true ∧ RecordGoesTo stateToneEnd 3 0xA05 := by
  decide +kernel

/-- The last frame of a GAP, with SEND-HOLD so; an order of slot 1 owns the entry in flight, or none does. -/
def stateGapEnd (d : Discipline) (l : List Entry) (r : Option OrderRecord) (sendHold : Bool) : State :=
  let s :=
    holding [held 1 .inject (some 0)]
      (sending .gap 1 d
        { queueOf l (some (flight1 (.tone 5) r.isSome)) with order := r, credit := l.length })
  { s with control := { s.control with sendHold := sendHold } }

/-- With a sendable TONE behind it, owned and not; with SEND-HOLD set; with a head that may not go; and with nothing
behind it. -/
theorem witness_GapEndContinuesOrFrees :
    ∀ x ∈ [(Discipline.held, [tone 1, tone 2], some (.inject 1 4 2), false, true),
        (.held, [tone 1], none, false, true), (.immediate, [tone 1], some (.inject 1 4 1), true, true),
        (.gather, [tone 1], none, false, false), (.immediate, [], some (.inject 1 4 1), false, false),
        (.held, [], some (.release 1 4 true), false, false), (.immediate, [], none, false, false)],
      let s := stateGapEnd x.1 x.2.1 x.2.2.1 x.2.2.2.1
      let q := (s.line 0).queue
      StoreSound s ∧ MarkTargetsSound s ∧ EntriesSound s ∧ LastFrame 0 (bound .gap 1) .gap s ∧
        q.flight = some (flight1 (.tone 5) x.2.2.1.isSome) ∧ (s.line 0).mode = .active ∧
        q.entries = x.2.1 ∧ q.order = x.2.2.1 ∧ q.waiting = false ∧ s.waitList = [] ∧
        s.sendHold = x.2.2.2.1 ∧
        ({ s.line 0 with queue := { q with flight := none } } : Line).toneReady = x.2.2.2.2 := by
  decide +kernel

def stateSweeping : State := part.setSweep (some 0) false
def stateLossy : State :=
  { stateSweeping with capture := { stateSweeping.capture with filling := none, loss := 3 } }

theorem witness_SweepExaminesAndEnds_end :
    (∀ s ∈ [stateSweeping, stateLossy, stateLossy.poke 0xA00 1],
      StoreSound s ∧ MuteSound s ∧ s.ready = true ∧ s.board.sweepAt = some 0 ∧
        ∀ j : SlotNo, slotActs j s = false) ∧
    stateSweeping.capture.loss = 0 ∧ 0 < stateLossy.capture.loss ∧
      stateLossy.peek (pageAddress 0) = 0 ∧ (stateLossy.poke 0xA00 1).peek (pageAddress 0) ≠ 0 := by
  decide +kernel

theorem witness_SweepExaminesAndEnds_unknown :
    ∀ slot ∈ [(0 : SlotNo), 15],
      let s := posted slot 0 0 [] part
      StoreSound s ∧ MuteSound s ∧ Posted 0 slot s ∧
        ∀ j : SlotNo, slot.val < j.val → slotActs j s = false := by decide +kernel

/-- Each kind and an unknown one posted in slot 0 and in slot 15, a WITHDRAW in slot 0, and nothing. -/
theorem witness_SweepExaminesAndEnds_slot :
    (∀ slot ∈ [(0 : SlotNo), 15], ∀ kind ∈ [0, 1, 2, 3, 4, 5, 6, 7, 8, 9, 10],
      let s := (posted slot kind 0 [] part).setSweep (some slot.val) false
      s.ready = true ∧ s.board.sweepAt = some slot.val ∧ slotIsPosted slot s = true ∧
        (s.orderCopy slot).kind = kind) ∧
    slotIsWithdrawn 0 ((holding [held 0 .mark none] part).poke 0x020 slotWithdraw) = true ∧
    stateSweeping.ready = true ∧ stateSweeping.board.sweepAt = some 0 ∧
      slotActs 0 stateSweeping = false := by decide +kernel

/-- Nothing acts in slot 3 and the sweep passes it alone: an order posted there afterwards waits, and one in slot 4
is taken by this sweep (R156, R157). -/
theorem test_passed_slot_waits :
    let s := stateSweeping.setSweep (some 3) false
    ∃ t, exec (.openLine 3) s = .next t ∧ t.board.sweepAt = some 4 ∧
      (let u := t.pokes [(slotAddress 3, slotPosted), (slotAddress 4, slotPosted)]
       sweepReaches 3 u = false ∧ sweepReaches 4 u = true) :=
  ⟨_, rfl, by decide +kernel⟩

/-- An OPEN of a line OUT whose raw sample is low. -/
def stateOpen (polarity : Word) : State := posted 15 1 0 [0, polarity] part

theorem witness_OpenBringsIntoService :
    ∀ x ∈ [(Polarity.presentHigh, (0 : Word), Level.opened), (.presentLow, 1, .closed)],
      let s := stateOpen x.2.1
      StoreSound s ∧ MuteSound s ∧ Posted 1 15 s ∧ (s.orderCopy 15).line? = some 0 ∧
        (s.line 0).mode = .out ∧ (s.orderCopy 15).p0.toNat = 0 ∧
        (s.profile 0).adopted = some set0 ∧ (s.orderCopy 15).p1 = x.2.1 ∧
        corrected x.1 (s.line 0).raw = x.2.2 ∧ RecordGoesTo s 3 0xA05 := by decide +kernel

theorem witness_CloseTakesOutOfService :
    (∀ s ∈ [posted 4 2 0 [] stateClearing, posted 4 2 0 [] stateLearning],
      StoreSound s ∧ PoolSound s ∧ MarkTargetsSound s ∧ Posted 2 4 s ∧
        (s.orderCopy 4).line? = some 0 ∧ (s.line 0).mode ≠ .out) ∧
    NoLearn 0 stateClearing ∧
      (stateClearing.line 0).queue.order = some (.release 3 1 false) ∧
    (stateLearning.line 0).learnPending = some (learning lastTick) ∧
      (stateLearning.line 0).queue.order = none := by decide +kernel

/-- A CLOSE, and a FLUSH, of a line with no sender, request or order. -/
theorem witness_Close_and_Flush_bare :
    ∀ kind ∈ [2, 7],
      let s := posted 4 kind 0 [] stateClearingBare
      StoreSound s ∧ PoolSound s ∧ MuteSound s ∧ MarkTargetsSound s ∧ Posted kind 4 s ∧
        (s.orderCopy 4).line? = some 0 ∧ (s.line 0).mode ≠ .out ∧
        (s.line 0).queue.order = none ∧ NoLearn 0 s ∧ Unserved 0 s := by decide +kernel

/-- An ADOPT of profile 0 with these raw fields in the store, line 0 in IDLE on it. -/
def stateAdopt (l : List Nat) : State :=
  posted 4 3 0 []
    (stateIdle.pokes (l.zipIdx.map fun (v, i) => (profileAddress 0 + i, asWord v)))

theorem witness_AdoptMakesANewSet :
    let s := stateAdopt fields
    StoreSound s ∧ MuteSound s ∧ GenerationsSound s ∧ Posted 3 4 s ∧
      (s.orderCopy 4).profile? = some 0 ∧ profileRefusal (rawFields s 0) = none ∧
      (s.line 0).profile = some 0 ∧ (s.line 0).mode = .idle := by decide +kernel

/-- The first and the last field out of range, and each relation broken. -/
theorem witness_AdoptRefusesAndKeeps :
    ∀ x ∈ [(fields.set 0 2, ResultCode.fieldRange, 0), (fields.set 22 2001, .fieldRange, 22),
        ((fields.set 9 60).set 10 60, .relation, 1), (fields.set 18 149, .relation, 2),
        (fields.set 14 101, .relation, 3)],
      let s := stateAdopt x.1
      StoreSound s ∧ MuteSound s ∧ Posted 3 4 s ∧ (s.orderCopy 4).profile? = some 0 ∧
        rawFields s 0 = x.1 ∧ profileRefusal (rawFields s 0) = some x.2 := by
  decide +kernel

/-- A call of line 0. -/
def called (d : Discipline) (q : QueueUnit) : State := withLine0 (lineOn d scanClosed q)

theorem witness_LearnIsAccepted :
    let s := posted 4 4 0 [] (called .held fiveInFlight)
    StoreSound s ∧ MuteSound s ∧ Posted 4 4 s ∧ (s.orderCopy 4).line? = some 0 ∧
      lineHolder s 0 = none ∧ (s.line 0).mode ≠ .out ∧
      (s.line 0).estimator = some (.opened set0) := by decide +kernel

def twoQueued : QueueUnit := queueOf [tone 1, tone 2] (flying (tone 5))

/-- With two DIALLED entries queued, and with none. -/
theorem witness_ReleaseGivesCredit :
    ∀ x ∈ [(twoQueued, (1 : Word), 1), (twoQueued, 24, 2), (fiveInFlight, 24, 0)],
      let s := posted 4 5 0 [x.2.1] (called .held x.1)
      StoreSound s ∧ MuteSound s ∧ Posted 5 4 s ∧ (s.orderCopy 4).line? = some 0 ∧
        lineHolder s 0 = none ∧ (s.line 0).mode = .active ∧ 1 ≤ (s.orderCopy 4).p0.toNat ∧
        (s.orderCopy 4).p0.toNat ≤ 24 ∧ (s.line 0).discipline = .held ∧
        (s.line 0).queue.flight.isSome = true ∧
        min (s.orderCopy 4).p0.toNat (s.line 0).queue.dialledCount = x.2.2 := by decide +kernel

/-- With nothing in flight. -/
theorem witness_ReleaseGivesCredit_examined :
    let s := posted 4 5 0 [2] (called .held (queueOf [tone 1, tone 2] none))
    StoreSound s ∧ MuteSound s ∧ Posted 5 4 s ∧ (s.orderCopy 4).line? = some 0 ∧
      lineHolder s 0 = none ∧ (s.line 0).mode = .active ∧ (s.orderCopy 4).p0.toNat = 2 ∧
      (s.line 0).discipline = .held ∧ (s.line 0).queue.flight = none ∧
      (s.line 0).queue.dialledCount = 2 := by decide +kernel

/-- Three codes: 1, a pause and a recall. -/
theorem witness_InjectAppendsTheString :
    let s := posted 4 6 0 [0x0A03, 0x4601, 0, 0, 0] (called .held twoQueued)
    StoreSound s ∧ MuteSound s ∧ Posted 6 4 s ∧ (s.orderCopy 4).line? = some 0 ∧
      lineHolder s 0 = none ∧ (s.line 0).mode = .active ∧ (s.orderCopy 4).injectCount = 3 ∧
      (s.orderCopy 4).injectCodes = [1, 16, 17] ∧
      (s.line 0).queue.entries.length + (s.orderCopy 4).injectCount ≤ 24 ∧
      (s.line 0).queue.flight.isSome = true := by decide +kernel

theorem witness_InjectAppendsTheString_examined :
    let s := posted 4 6 0 [0x0A03, 0x4601, 0, 0, 0] (called .held .empty)
    StoreSound s ∧ MuteSound s ∧ Posted 6 4 s ∧ (s.orderCopy 4).line? = some 0 ∧
      lineHolder s 0 = none ∧ (s.line 0).mode = .active ∧ (s.orderCopy 4).injectCount = 3 ∧
      (s.orderCopy 4).injectCodes = [1, 16, 17] ∧ (s.line 0).queue = .empty := by decide +kernel

def stateFlush : State := posted 4 7 0 [] stateClearing

theorem witness_FlushEmptiesTheQueue :
    StoreSound stateFlush ∧ MuteSound stateFlush ∧ MarkTargetsSound stateFlush ∧
      Posted 7 4 stateFlush ∧ (stateFlush.orderCopy 4).line? = some 0 ∧
      (stateFlush.line 0).mode ≠ .out ∧
      (stateFlush.line 0).queue.order = some (.release 3 1 false) := by decide +kernel

def statePeek (target : Nat) : State := posted 4 8 0 [asWord target] (called .held twoQueued)

theorem witness_PeekWritesTheSnapshot :
    ∀ target ∈ [0x240, 0x3E6],
      StoreSound (statePeek target) ∧ MuteSound (statePeek target) ∧
        Posted 8 4 (statePeek target) ∧ ((statePeek target).orderCopy 4).line? = some 0 ∧
        ((statePeek target).line 0).mode ≠ .out ∧
        ((statePeek target).orderCopy 4).p0.toNat = target ∧
        ((statePeek target).line 0).queue.entries.length ≤ 24 := by decide +kernel

theorem witness_MarkWritesOrWaits :
    ∀ x ∈ [([], (0x240 : Word), (0 : Word)), ([held 3 .release (some 0)], 0x3FF, 1)],
      let s := posted 4 9 0 [x.2.1, 0x1234, x.2.2] (part.setAccepted x.1)
      StoreSound s ∧ MuteSound s ∧ Posted 9 4 s ∧ 0x240 ≤ (s.orderCopy 4).p0.toNat ∧
        (s.orderCopy 4).p0.toNat ≤ 0x3FF ∧ (s.orderCopy 4).p2 = x.2.2 ∧
        s.board.accepted = x.1 := by decide +kernel

def stateMarks : State :=
  holding
    [held 3 .release (some 0), held 4 .mark none, held 5 .learn (some 1), held 6 .mark none] part

theorem witness_CompletionReleasesMarks :
    StoreSound stateMarks ∧ SlotsDistinct stateMarks ∧ MarkTargetsSound stateMarks ∧
      (stateMarks.board.accepted.filter fun o => o.slot != 3).takeWhile
        (fun o => decide (o.kind = .mark)) = [held 4 .mark none] := by decide +kernel

theorem witness_CommonChecksRefuse_unknown :
    ∀ x ∈ [(0, (0 : SlotNo)), (10, 15), (255, 15)],
      let s := posted x.2 x.1 0 [] part
      StoreSound s ∧ MuteSound s ∧ s.capture.loss = 0 ∧ sweepReaches x.2 s = true ∧
        slotIsPosted x.2 s = true ∧ (s.orderCopy x.2).kind = x.1 := by decide +kernel

theorem witness_CommonChecksRefuse_range :
    ∀ x ∈ [(1, 96), (2, 96), (3, 8), (4, 255), (5, 96), (6, 96), (7, 96), (8, 96)],
      let s := posted 4 x.1 x.2 [] part
      StoreSound s ∧ MuteSound s ∧ Posted x.1 4 s ∧ (s.orderCopy 4).lineField = x.2 := by
  decide +kernel

theorem witness_CommonChecksRefuse_busy :
    ∀ kind ∈ [4, 5, 6],
      let s := posted 4 kind 0 [] stateClearing
      StoreSound s ∧ MuteSound s ∧ Posted kind 4 s ∧ (s.orderCopy 4).line? = some 0 ∧
        lineHolder s 0 = some 3 := by decide +kernel

def injectQueue : QueueUnit :=
  { queueOf [tone 1, entry (.tone 2) .ordered (some 3)] (flying (tone 5)) with
    order := some (.inject 3 0 1) }
def withdrawn (slot : SlotNo) (s : State) : State := s.poke (slotAddress slot) slotWithdraw

theorem witness_WithdrawCancelsHeldOrder :
    ∀ x ∈ [((2 : SlotNo), held 2 .learn (some 0), stateLearning, none),
        (6, held 6 .mark none, holding [held 6 .mark none] part, none),
        (3, held 3 .release (some 0), stateClearing, flying (tone 5)),
        (3, held 3 .inject (some 0), holding [held 3 .inject (some 0)] (called .held injectQueue),
          flying (tone 5)),
        (3, held 3 .inject (some 0),
          holding [held 3 .inject (some 0)] (called .held { injectQueue with flight := none }), none)],
      let s := withdrawn x.1 x.2.2.1
      StoreSound s ∧ MuteSound s ∧ MarkTargetsSound s ∧ SlotsDistinct s ∧ EntriesSound s ∧
        s.capture.loss = 0 ∧ sweepReaches x.1 s = true ∧ s.slotState x.1 = slotWithdraw ∧
        s.board.accepted = [x.2.1] ∧ x.2.1.slot = x.1 ∧
        (x.2.1.kind = .learn → ((s.line 0).learnPending.map (·.slot)) = some x.1) ∧
        (x.2.1.kind = .release ∨ x.2.1.kind = .inject →
          (s.line 0).queue.flight = x.2.2.2 ∧
            (s.line 0).queue.order.map (·.slot) = some x.1) := by decide +kernel

/-- A posted order on line 0 OUT, in service, or on a call: the states of each check that follows. -/
def wrong : List (Nat × List Word × State) :=
  [ (1, [0, 0], stateIdle), (1, [1, 0], part), (1, [8, 0], part), (1, [0, 2], part), (2, [], part),
    (4, [], part), (7, [], part), (8, [0x240], part), (8, [0x23F], stateIdle),
    (8, [0x3E7], stateIdle), (5, [1], part), (5, [0], called .held .empty),
    (5, [25], called .held .empty), (5, [24], called .gather .empty), (6, [1], part),
    (6, [0], called .held .empty), (6, [13], called .held .empty),
    (6, [12, 0, 0, 0, 0x4800], called .held .empty),
    (6, [1], called .held (queueOf (List.replicate 24 (tone 1)) none)),
    (9, [0x23F, 1, 0], part), (9, [0x400, 1, 0], part), (9, [0x240, 1, 2], part) ]

/-- Each of them is refused at its own check: the row shows its result. -/
theorem witness_KindChecksRefuse :
    (∀ x ∈ wrong,
      let s := posted 4 x.1 0 x.2.1 x.2.2
      StoreSound s ∧ MuteSound s ∧ Posted x.1 4 s ∧ (s.orderCopy 4).line? = some 0 ∧
        lineHolder s 0 = none) ∧
    (wrong.map fun x => (postedOrder 4 (posted 4 x.1 0 x.2.1 x.2.2)).peek 0x047) =
      [0x3000, 0x4000, 0x4000, 0xF000, 0x3000, 0x3000, 0x3000, 0x3000, 0x9000, 0x9000, 0x3000,
        0xF000, 0xF000, 0xA000, 0x3000, 0xF000, 0xF000, 0xF00C, 0x8000, 0x9000, 0x9000, 0xF000] := by
  decide +kernel

theorem witness_HostWritesAndRegistersAsLaidOut :
    StoreSound part ∧ part.ready = true ∧ (Instr.registerWriteIgnored 0x1005 7).wellFormed = true ∧
      (Instr.registerWriteIgnored 0x1FFF 7).wellFormed = true := by decide +kernel

/-- SEND-HOLD set, with a request in the list. -/
def stateHolding : State :=
  ({ withLine0 (lineOn .immediate scanClosed waitingQueue) with
    control := { State.reset.control with sendHold := true } }).setWaitList [requestOf 0 .b]

/-- The same, with a RECALL at the head of line 1. -/
def stateHoldingRecall : State :=
  stateHolding.setLine 1
    (lineOn .immediate scanClosed (queueOf [entry .recall .dialled none, tone 2] none))

theorem witness_ControlWriteTakesBits_recall :
    PoolSound stateHoldingRecall ∧ stateHoldingRecall.ready = true ∧
      stateHoldingRecall.sendHold = true ∧ stateHoldingRecall.sender 0 = none ∧
      stateHoldingRecall.waitList = [] ++ requestOf 0 .b :: [] ∧
      (stateHoldingRecall.line 1).mode = .active ∧
      (stateHoldingRecall.line 1).queue.flight = none ∧
      (stateHoldingRecall.line 1).queue.entries = [entry .recall .dialled none, tone 2] ∧
      (stateHoldingRecall.line 1).sendable (entry .recall .dialled none) = true := by
  decide +kernel

theorem witness_ControlWriteTakesBits :
    part.ready = true ∧ part.sendHold = false ∧ (0x001E : Word).getLsbD 15 = false ∧
      (0x001F : Word).getLsbD 0 = true ∧
    PoolSound stateHolding ∧ stateHolding.ready = true ∧ stateHolding.sendHold = true ∧
      (0x001E : Word).getLsbD 0 = false := by decide +kernel

theorem witness_SoftResetResets :
    StoreSound stateClearing ∧ SlotsDistinct stateClearing ∧ stateClearing.ready = true ∧
      (0x8001 : Word).getLsbD 15 = true ∧ stateClearing.capture.filling.isSome = true ∧
      part.board.accepted = [] ∧ stateLossy.capture.filling = none := by decide +kernel

theorem witness_DerivedSpeedsFollowTheFormula :
    fields.length = 23 ∧ profileRefusal fields = none ∧ 50 ≤ 50 ∧ 199 < 200 ∧ 200 ≤ 200 := by decide

/-- A period at the same speed, and one each side of it. -/
theorem witness_SpeedEstimateFollowsTheRules :
    set0.pLo16 ≤ set0.pHi16 ∧ set0.gapMin ≤ set0.gapMax ∧ (Estimator.opened set0).source = .profile ∧
      set0.mode = .tracking ∧ 1143 ≤ 1600 ∧ 1600 ≤ 2286 ∧ 1600 ≤ 100 * 16 ∧ 100 * 16 ≤ 1600 := by
  decide

/-- Line 0 in a break or in QUIET, at a tick that completes a change, with the first-digit timer so. -/
def stateEdge (sc : Scan) (d : Decoder) (tm : Option Timer) : State :=
  withLine0 { lineOn .immediate sc .empty with decoder := d, firstDigit := tm }

/-- With the first-digit timer stopped, and in the first train of a call. -/
theorem witness_EdgesStartTrainsAndEndBreaks_start :
    ∀ tm ∈ [none, some midway],
      let s := stateEdge scanOpening .atRest tm
      EdgeTick 0 false scanOpening set0 s ∧ corrected scanOpening.polarity false = .opened ∧
        OnCall 0 (callOf .immediate) s ∧ FirstDigitWaits 0 s ∧
        (s.line 0).decoder.sub = .quiet ∧ (s.line 0).estimator = some (.opened set0) ∧
        since s.clock (edgeStampOf scanOpening s) < set0.flashMax := by decide +kernel

/-- Breaks of 19, 20 and 80 ticks, at the bounds 20 and 80; the make after pulse 2 began at 900 or at 700, where T_id
is 300. -/
theorem witness_EdgesStartTrainsAndEndBreaks_end :
    ∀ x ∈ [((980 : Tick), 0, 19, (900 : Tick)), (980, 2, 19, 900), (980, 2, 19, 700),
        (979, 2, 20, 900), (919, 0, 80, 900)],
      let d := { decoderIn .inBreak x.2.1 0 with breakStart := some x.1, makeStart := some x.2.2.2 }
      let s := stateEdge scanClosing d (if x.2.1 = 0 then some midway else none)
      StoreSound s ∧ MarkTargetsSound s ∧
        EdgeTick 0 true scanClosing set0 s ∧ corrected scanClosing.polarity true = .closed ∧
        OnCall 0 (callOf .immediate) s ∧ FirstDigitWaits 0 s ∧ (s.line 0).decoder = d ∧
        d.sub = .inBreak ∧ d.ctx = some train0 ∧
        since (edgeStampOf scanClosing s) x.1 = x.2.2.1 ∧
        (train0.tId ≤ since s.clock x.2.2.2 ↔ x.2.2.2 = 700) ∧
        since s.clock (edgeStampOf scanClosing s) < train0.makeMin ∧
        NoLearn 0 s ∧ TimersWait 0 (callOf .immediate) s ∧ (s.line 0).queue.entries = [] ∧
        RecordGoesTo s 4 0xA05 := by decide +kernel

/-- A break of 20 ticks whose make has stood 15 samples, under a debounce of 16 samples in all. -/
def scanLate : Scan := { scanAt .opened with run := 15, candidate := some 985 }

theorem witness_EdgesStartTrainsAndEndBreaks_counted :
    ∀ pulses ∈ [0, 2],
      let d := { decoderIn .inBreak pulses 1 with breakStart := some 965 }
      let s := stateEdge scanLate d (if pulses = 0 then some lastTick else none)
      EdgeTick 0 true scanLate set0 s ∧ corrected scanLate.polarity true = .closed ∧
        OnCall 0 (callOf .immediate) s ∧ d.sub = .inBreak ∧ d.ctx = some train0 ∧
        since (edgeStampOf scanLate s) 965 = train0.breakMin ∧
        since s.clock (edgeStampOf scanLate s) = train0.makeMin := by decide +kernel

theorem witness_TrainStatisticsRoundHalfUp :
    (decoderIn .inMake 1 0).periods = 0 ∧ 1 ≤ (decoderIn .inMake 3 2).periods ∧
      0 < (decoderIn .inMake 3 2).periodSum ∧
      (decoderIn .inMake 3 2).makeSum ≤ (decoderIn .inMake 3 2).periodSum := by decide

/-- A marked train with two full periods, and one with one. -/
theorem witness_QualifyingTrainIsLearned :
    ∀ periods ∈ [2, 1],
      let s := holding [held 2 .learn (some 0)]
        (withLine0
          { lineOn .gather scanClosed .empty with
            decoder := decoderIn .inMake 3 periods, estimator := some estLearning })
      StoreSound s ∧ MarkTargetsSound s ∧ (s.line 0).estimator = some estLearning ∧
        estLearning.learn = some (learning lastTick) ∧ estLearning.learnMark = true ∧
        (s.line 0).decoder.ctx = some train0 ∧ train0.pLo16 ≤ train0.pHi16 ∧
        (s.line 0).decoder.periods = periods := by decide +kernel

/-- The end of such a train at the last tick of the LEARN's timer, its digit queued and lost. -/
def learnsAtEnd (l : List Entry) : State :=
  learnsOn
    { lineOn .gather scanClosed (queueOf l none) with decoder := decoderIn .inMake 3 2, mute := true }

theorem witness_QualifyingTrainIsLearned_trainEnd :
    ∀ l ∈ [[], full],
      let s := learnsAtEnd l
      let d := (s.line 0).decoder
      StoreSound s ∧ MarkTargetsSound s ∧ SteadyTick 0 true scanClosed s ∧
        scanClosed.level = .closed ∧ (s.line 0).mode = .active ∧ d = decoderIn .inMake 3 2 ∧
        d.pulsePending = false ∧ d.ctx = some train0 ∧ d.makeStart = some 660 ∧
        train0.tId ≤ since s.clock 660 ∧ train0.pLo16 ≤ train0.pHi16 ∧
        (s.line 0).estimator = some estLearning ∧ (s.line 0).queue.order = none ∧
        RecordGoesTo s 6 0xA05 := by decide +kernel

/-- A marked train on a call of line 0, its LEARN far from its window's end. -/
def marked (sc : Scan) (d : Decoder) (tm : Option Timer) : State :=
  withLine0
    { lineOn .gather sc .empty with
      decoder := d, firstDigit := tm
      estimator := some { estLearning with learn := some (learning midway) } }

/-- A hit in QUIET, a flash and a long break; a count of 11, and of 2 with one period; a clear; and a first-digit
expiry. -/
theorem witness_QualifyingTrainIsLearned_passed :
    (∀ x ∈ [((990 : Tick), 0, 9), (918, 0, 81), (600, 3, 399)],
      let s := marked scanClosing { decoderIn .inBreak x.2.1 0 with breakStart := some x.1 } none
      EdgeTick 0 true scanClosing set0 s ∧ corrected scanClosing.polarity true = .closed ∧
        (s.line 0).mode = .active ∧ since (edgeStampOf scanClosing s) x.1 = x.2.2) ∧
    train0.breakMin = 20 ∧ train0.breakMax = 80 ∧ train0.flashMax = 400 ∧
    SteadyTick 0 true scanClosed (marked scanClosed (decoderIn .inMake 11 9) none) ∧
    SteadyTick 0 true scanClosed (marked scanClosed (decoderIn .inMake 2 1) none) ∧
      train0.tId ≤ since part.clock 660 ∧
    SteadyTick 0 false scanOpen (marked scanOpen (decoderIn .inBreak 1 0) none) ∧
      train0.flashMax ≤ since part.clock 600 ∧
    SteadyTick 0 true scanClosed (marked scanClosed .atRest (some lastTick)) ∧
      DecoderWaits 0 (marked scanClosed .atRest (some lastTick)) ∧
      lastTick.limit ≤ lastTick.count + 1 := by decide +kernel

/-- A break of line 0 from this tick, after these pulses, closed with these entries queued. -/
def stateClosed (start : Tick) (pulses : Nat) (l : List Entry) : State :=
  stateTrain .gather scanClosing l { decoderIn .inBreak pulses 0 with breakStart := some start }

/-- A flash of 81 and of 399 ticks with room and without, and a long break. -/
theorem witness_LongerBreaksAreFlashMutilationOrClear :
    ∀ x ∈ [((918 : Tick), 0, 81, []), (600, 0, 399, full.tail), (600, 0, 399, full),
        (918, 1, 81, [])],
      let s := stateClosed x.1 x.2.1 x.2.2.2
      StoreSound s ∧ EdgeTick 0 true scanClosing set0 s ∧
        corrected scanClosing.polarity true = .closed ∧ (s.line 0).mode = .active ∧
        (s.line 0).call = some (callOf .gather) ∧ (s.line 0).decoder.sub = .inBreak ∧
        (s.line 0).decoder.ctx = some train0 ∧ (s.line 0).decoder.breakStart = some x.1 ∧
        (s.line 0).decoder.pulses = x.2.1 ∧ NoLearn 0 s ∧ TimersWait 0 (callOf .gather) s ∧
        GatherWaits 0 s ∧ (s.line 0).firstDigit = none ∧ (s.line 0).queue.entries = x.2.2.2 ∧
        since (edgeStampOf scanClosing s) x.1 = x.2.2.1 ∧
        (s.line 0).overflowReported = false ∧ FaultGoesTo s 0 ∧ RecordGoesTo s 3 0xA05 := by
  decide +kernel

/-- A break of 400 ticks. -/
theorem witness_LongerBreaksAreFlashMutilationOrClear_clear :
    let s := stateClosed 599 2 []
    StoreSound s ∧ PoolSound s ∧ MarkTargetsSound s ∧ EdgeTick 0 true scanClosing set0 s ∧
      corrected scanClosing.polarity true = .closed ∧ (s.line 0).mode = .active ∧
      (s.line 0).decoder.sub = .inBreak ∧ (s.line 0).decoder.ctx = some train0 ∧
      (s.line 0).decoder.breakStart = some 599 ∧ NoLearn 0 s ∧
      since (edgeStampOf scanClosing s) 599 = train0.flashMax ∧ RecordGoesTo s 4 0xA05 := by
  decide +kernel

/-- Makes of 14 and of 15 ticks with the pulse pending, the first with the first-digit timer running and without, and
of 299 and 300 ticks with the pulse counted, at the bounds 15 and 300. -/
theorem witness_OpenEdgesInMakeAreDecided :
    ∀ x ∈ [((985 : Tick), true, 14, none), (985, true, 14, some midway), (984, true, 15, none),
        (700, false, 299, none), (699, false, 300, none)],
      let d :=
        { decoderIn .inMake 2 1 with
          makeStart := some x.1, pulsePending := x.2.1, breakStart := some 650 }
      let s := (stateTrain .gather scanOpening [] d).modLine 0 fun l => { l with firstDigit := x.2.2.2 }
      EdgeTick 0 false scanOpening set0 s ∧ corrected scanOpening.polarity false = .opened ∧
        OnCall 0 (callOf .gather) s ∧ FirstDigitWaits 0 s ∧ (s.line 0).decoder = d ∧
        d.sub = .inMake ∧ d.ctx = some train0 ∧
        since (edgeStampOf scanOpening s) x.1 = x.2.2.1 ∧
        train0.makeMin = 15 ∧ train0.tId = 300 ∧ since s.clock 650 < train0.flashMax ∧
        since s.clock (edgeStampOf scanOpening s) < set0.flashMax ∧
        (s.line 0).estimator = some (.opened set0) ∧ NoLearn 0 s ∧
        TimersWait 0 (callOf .gather) s ∧ (s.line 0).queue.entries = [] := by decide +kernel

/-- A make of 14 ticks in a break that began 400 ticks ago. -/
theorem witness_OpenEdgesInMakeAreDecided_clear :
    let d :=
      { decoderIn .inMake 1 0 with
        makeStart := some 985, pulsePending := true, breakStart := some 600 }
    let s := stateTrain .gather scanOpening [] d
    EdgeTick 0 false scanOpening set0 s ∧ OnCall 0 (callOf .gather) s ∧ d.ctx = some train0 ∧
      since (edgeStampOf scanOpening s) 985 = 14 ∧ train0.flashMax ≤ since s.clock 600 := by
  decide +kernel

/-- An entry at the head of line 0, with one behind it. -/
def stateHead (d : Discipline) (e : Entry) (sendHold : Bool) : State :=
  let s := called d (queueOf [e, tone 9] none)
  { s with control := { s.control with sendHold := sendHold } }

/-- A DIALLED TONE without credit, one that may go, an ORDERED RECALL and an ORDERED PAUSE, and a DIALLED RECALL without
credit. -/
theorem witness_HeadExaminationActs :
    ∀ x ∈ [(Discipline.held, tone 5, false), (.immediate, tone 5, true),
        (.held, entry .recall .ordered none, true),
        (.held, entry (.pause 100) .ordered none, true),
        (.held, entry .recall .dialled none, false)],
      ∀ sendHold ∈ [false, true],
      let s := stateHead x.1 x.2.1 sendHold
      (s.line 0).mode = .active ∧ (s.line 0).call = some (callOf x.1) ∧
        (s.line 0).queue.flight = none ∧ (s.line 0).queue.entries = [x.2.1, tone 9] ∧
        (s.line 0).sendable x.2.1 = x.2.2 ∧ (s.line 0).queue.waiting = false ∧
        s.sendHold = sendHold := by decide +kernel

/-- An empty queue with a request left, a line that is not ACTIVE, and one with an entry in flight. -/
theorem witness_HeadExaminationActs_rows :
    (let s := called .held { QueueUnit.empty with waiting := true }
     (s.line 0).mode = .active ∧ (s.line 0).call = some (callOf .held) ∧
       (s.line 0).queue.flight = none ∧ (s.line 0).queue.entries = [] ∧
       (s.line 0).queue.waiting = true) ∧
    (stateIdle.line 0).mode ≠ .active ∧
    ((called .held fiveInFlight).line 0).queue.flight.isSome = true := by decide +kernel

def stateGrant : State := { stateHolding with control := State.reset.control }

theorem witness_GrantChoosesSenderAndRequest_held :
    PoolSound stateHolding ∧ stateHolding.sendHold = true := by decide +kernel

theorem witness_GrantChoosesSenderAndRequest :
    PoolSound stateGrant ∧ stateGrant.sendHold = false ∧ stateGrant.sender 0 = none ∧
      stateGrant.waitList = [] ++ requestOf 0 .b :: [] ∧ (requestOf 0 .b).cls = .b := by
  decide +kernel

theorem witness_ToneValuesAndSamples : 15 < 16 ∧ 4095 ≤ 4095 ∧ 128 ≤ 128 ∧ 127 < 128 ∧ 255 < 256 := by
  decide

/-- A page with room, none, a page that is not free, and a full page before a free one. -/
def captures : List State :=
  [ part, { stateLossy with capture := { stateLossy.capture with loss := 0 } },
    { stateLossy with capture := { stateLossy.capture with loss := 0 } }.poke 0xA00 1,
    { part with capture := { part.capture with filling := some { filling0 with position := 59 } } } ]

theorem witness_RecordIsPlacedOrLost :
    (∀ s ∈ captures, StoreSound s ∧ s.capture.loss = 0) ∧
    captures.map (fun s => s.capture.filling.map (·.position)) = [some 5, none, none, some 59] ∧
    captures.map (fun s => s.peek (pageAddress s.capture.nextPage)) = [0, 0, 1, 0] ∧
    StoreSound stateLossy ∧ 0 < stateLossy.capture.loss ∧
    StoreSound (stateLossy.poke 0xA00 1) ∧
      (stateLossy.poke 0xA00 1).peek (pageAddress 0) ≠ 0 := by decide +kernel

/-- Slot 0 free, slot 7 alone free, none free, and under FAULT-OVERFLOW. -/
theorem witness_FaultFillsTheLowestFreeSlot :
    let full (n : Nat) : State := part.pokes ((List.range n).map fun k => (faultSlotAddress k, 1))
    StoreSound (full 8) ∧ FaultGoesTo part 0 ∧ FaultGoesTo (full 7) 7 ∧
      (full 8).peek 0x005 = 0 ∧ (∀ k < 8, (full 8).peek (faultSlotAddress k) ≠ 0) ∧
      (part.poke 0x005 1).peek 0x005 ≠ 0 := by decide +kernel

/-! The state after reset meets what every step is to keep, and answers a next state (`witness_steps`). -/

theorem witness_QueueAndPoolLawsKept : PoolSound State.reset ∧ ServiceSound State.reset := by
  decide +kernel

theorem witness_StoreFormKept : StoreSound State.reset := by decide +kernel

theorem witness_HoldLawKept :
    PoolSound State.reset ∧ ServiceSound State.reset ∧ HoldSound State.reset := by decide +kernel

theorem witness_ShownWordsKept :
    (Instr.frameBoundary).wellFormed = true ∧ StoreSound State.reset ∧
      MarkTargetsSound State.reset ∧ ShownSound State.reset := by decide +kernel

theorem witness_OrderBoardLawsKept :
    OnePerLine State.reset ∧ SlotsDistinct State.reset ∧ MarkTargetsSound State.reset ∧
      SweepSound State.reset := by decide +kernel

theorem witness_SpeedLawKept : SpeedsSound State.reset := by decide +kernel

theorem witness_MuteAndOutLawsKept : MuteSound State.reset ∧ OutLinesBare State.reset := by
  decide +kernel

theorem witness_CaptureAndRangeLawsKept :
    CaptureSound State.reset ∧ StoreSound State.reset ∧ GenerationsSound State.reset ∧
      ScanSound State.reset ∧ SendersSound State.reset ∧ EntriesSound State.reset := by
  decide +kernel

theorem witness_steps : step State.reset = .next State.reset := rfl

end Sys2Proof.Tests
end

section
/-! The statistics of a train and the OFF-BAND flag read from them (R69, R70). -/

namespace Sys2Proof.Machine

@[simp] theorem trainStatistics_of_periods_zero {d : Decoder} (h : d.periods = 0) :
    trainStatistics d = none := if_pos h

@[simp] theorem trainStatistics_of_periods_pos {d : Decoder} (h : 1 ≤ d.periods) :
    trainStatistics d =
      some (meanPeriod d.periods d.periodSum, makePercent d.periodSum d.makeSum) :=
  if_neg (Nat.pos_iff_ne_zero.mp h)

@[simp] theorem offBand_none (c : TrainContext) : offBand none c = false := rfl

@[simp] theorem offBand_some_iff (mean percent : Nat) (c : TrainContext) :
    offBand (some (mean, percent)) c = true ↔ mean * 16 < c.pLo16 ∨ c.pHi16 < mean * 16 := by
  simp [offBand]

/-- Rounding half up adds less than one percent, so makes within their periods stay within 100. -/
theorem makePercent_le_hundred {sum makes : Nat} (hsum : 0 < sum) (hmakes : makes ≤ sum) :
    makePercent sum makes ≤ 100 := by
  have below : 100 * makes + sum / 2 < 101 * sum := by omega
  exact Nat.le_of_lt_succ ((Nat.div_lt_iff_lt_mul hsum).mpr below)

/-- Settles O45: the two cases of R69, a train without full periods and one with them. -/
theorem trainStatisticsRoundHalfUp : Obligations.TrainStatisticsRoundHalfUp := by
  intro d c
  refine ⟨fun noPeriods => ?_, fun fullPeriods => ⟨?_, ?_, makePercent_le_hundred⟩⟩
  · simp [trainStatistics_of_periods_zero noPeriods]
  · exact trainStatistics_of_periods_pos fullPeriods
  · rw [trainStatistics_of_periods_pos fullPeriods]
    exact offBand_some_iff _ _ c

end Sys2Proof.Machine
end

section
/-! The derived speeds of an adopted set: the conversion of a speed to a period, what raw fields that pass an ADOPT's
checks satisfy, and the order of the three speeds (R84 to R86). -/

namespace Sys2Proof.Machine

/-- The period at `v` is at least `q` as soon as `q` periods of `v` fit in the rounded dividend. -/
theorem le_periodFrom_iff {q v : Nat} (hv : 0 < v) : q ≤ periodFrom v ↔ q * v ≤ 160000 + v / 2 :=
  Nat.le_div_iff_mul_le hv

theorem periodFrom_at_slowest : periodFrom 50 = 3200 := by decide

theorem periodFrom_ge {v : Nat} (hv : 0 < v) (hv' : v ≤ 200) : 800 ≤ periodFrom v := by
  rw [le_periodFrom_iff hv]
  omega

/-- With the period of `w` kept, one step down in speed lowers the product of speed and period by at least 800: enough
for one period more at the slower speed and for the rounding. -/
theorem periodFrom_strictAnti {v w : Nat} (hv : 0 < v) (hvw : v < w) (hw : w ≤ 200) :
    periodFrom w < periodFrom v := by
  have hw0 : 0 < w := by omega
  have atLeast : 800 ≤ periodFrom w := periodFrom_ge hw0 hw
  have product : periodFrom w * w ≤ 160000 + w / 2 := (le_periodFrom_iff hw0).mp le_rfl
  have oneSlower : periodFrom w * (v + 1) ≤ periodFrom w * w := Nat.mul_le_mul_left _ hvw
  rw [Nat.mul_succ] at oneSlower
  rw [← Nat.succ_le_iff, le_periodFrom_iff hv, Nat.succ_mul]
  omega

theorem periodFrom_antitone {v w : Nat} (hv : 0 < v) (hvw : v ≤ w) (hw : w ≤ 200) :
    periodFrom w ≤ periodFrom v := by
  obtain rfl | slower := hvw.eq_or_lt
  · exact le_rfl
  · exact (periodFrom_strictAnti hv slower hw).le

/-- The fastest dial gives the shortest period, and the periods fall from the slowest speed to the fastest. -/
theorem periodFrom_bandSound {low nominal high : Nat} (lowest : 50 ≤ low)
    (aboveLow : low ≤ nominal) (belowHigh : nominal ≤ high) (highest : high ≤ 200) :
    BandSound (periodFrom high) (periodFrom nominal) (periodFrom low) := by
  refine ⟨?_, ?_, ?_, ?_⟩
  · exact periodFrom_ge (by omega) highest
  · exact periodFrom_antitone (by omega) belowHigh highest
  · exact periodFrom_antitone (by omega) aboveLow (by omega)
  · exact periodFrom_at_slowest ▸ periodFrom_antitone (by decide) lowest (by omega)

theorem profileRefusal_eq_none_iff (raw : List Nat) :
    profileRefusal raw = none ↔
      firstOutOfRange raw = none ∧ brokenRelation (adoptedSet raw 0) = none := by
  unfold profileRefusal
  split <;> simp [*]

theorem brokenRelation_eq_none_iff (a : AdoptedSet) :
    brokenRelation a = none ↔
      (a.breakMin < a.breakMax ∧ a.breakMax < a.flashMax) ∧
      (a.makeMin < a.gapMin ∧ a.gapMin ≤ a.gapMax) ∧
      a.bandLow ≤ a.nominal ∧ a.nominal ≤ a.bandHigh := by
  unfold brokenRelation
  split_ifs <;> simp_all

theorem field_within_range {raw : List Nat} (inRange : firstOutOfRange raw = none) (i : Nat)
    (hraw : i < raw.length) (hi : i < fieldRanges.length) :
    fieldRanges[i].1 ≤ raw.getD i 0 ∧ raw.getD i 0 ≤ fieldRanges[i].2 := by
  have pairIn : (raw[i], fieldRanges[i]) ∈ raw.zip fieldRanges :=
    List.mem_iff_getElem.mpr ⟨i, by simp [hraw, hi], by simp⟩
  have within := List.findIdx?_eq_none_iff.mp inRange _ pairIn
  simpa [hraw] using within

/-- The band of an accepted set: its limits are in the range of speeds, with the nominal speed between them. -/
theorem band_of_accepted {raw : List Nat} (hlen : raw.length = 23)
    (accepted : profileRefusal raw = none) :
    50 ≤ raw.getD 14 0 ∧ raw.getD 14 0 ≤ raw.getD 13 0 ∧ raw.getD 13 0 ≤ raw.getD 15 0 ∧
      raw.getD 15 0 ≤ 200 := by
  obtain ⟨inRange, related⟩ := (profileRefusal_eq_none_iff raw).mp accepted
  obtain ⟨-, -, aboveLow, belowHigh⟩ := (brokenRelation_eq_none_iff _).mp related
  have lowest : 50 ≤ raw.getD 14 0 :=
    (field_within_range inRange 14 (by omega) (by decide)).1
  have highest : raw.getD 15 0 ≤ 200 :=
    (field_within_range inRange 15 (by omega) (by decide)).2
  exact ⟨lowest, aboveLow, belowHigh, highest⟩

theorem adoptedSet_bandSound {raw : List Nat} (g : Nat) (hlen : raw.length = 23)
    (accepted : profileRefusal raw = none) :
    BandSound (adoptedSet raw g).pLo16 (adoptedSet raw g).pNom16 (adoptedSet raw g).pHi16 := by
  obtain ⟨lowest, aboveLow, belowHigh, highest⟩ := band_of_accepted hlen accepted
  exact periodFrom_bandSound lowest aboveLow belowHigh highest

/-- Settles O40: the fall of the conversion, its three uses in an adopted set, and their order. -/
theorem derivedSpeedsFollowTheFormula : Obligations.DerivedSpeedsFollowTheFormula := by
  refine ⟨fun v w slowest slower fastest => ?_, fun raw g hlen accepted => ?_⟩
  · exact periodFrom_strictAnti (by omega) slower fastest
  · exact ⟨rfl, rfl, rfl, adoptedSet_bandSound g hlen accepted⟩

end Sys2Proof.Machine
end

section
/-! A grant: the sender and the request it takes, the request's leaving the list, and what the binding leaves in the
line and the sender (R125, R126). -/

namespace Sys2Proof.Machine

variable {s : State} {k : SenderNo} {r : Request} {before after : List Request}

/-! ### The sender and the request chosen -/

theorem freeSender_of_lowest (free : s.sender k = none)
    (lower : ∀ j : SenderNo, j < k → s.sender j ≠ none) : s.freeSender = some k := by
  refine List.find?_eq_some_iff_getElem.mpr ⟨by simp [free], k, by simp, by simp, fun j hj => ?_⟩
  simpa [Option.ne_none_iff_isSome] using lower ⟨j, by omega⟩ hj

/-- The oldest request of class A is the first of that class in the list. -/
theorem bestRequest_of_first_a (classA : r.cls = .a) (olderB : ∀ q ∈ before, q.cls = .b) :
    bestRequest (before ++ r :: after) = some r := by
  have noneOlder : before.find? (fun q => decide (q.cls = .a)) = none :=
    List.find?_eq_none.mpr fun q hq => by simp [olderB q hq]
  simp [bestRequest, List.find?_append, noneOlder, classA]

theorem bestRequest_of_all_b (classB : ∀ q ∈ r :: after, q.cls = .b) :
    bestRequest (r :: after) = some r := by
  have noneA : (r :: after).find? (fun q => decide (q.cls = .a)) = none :=
    List.find?_eq_none.mpr fun q hq => by simp [classB q hq]
  simp only [bestRequest, noneA, List.head?_cons]

/-- A request that is the oldest of class A, or the oldest of a list without class A, is the one chosen (R125). -/
theorem bestRequest_of_oldest
    (oldest : (r.cls = .a ∧ ∀ q ∈ before, q.cls = .b) ∨
      (r.cls = .b ∧ before = [] ∧ ∀ q ∈ after, q.cls = .b)) :
    bestRequest (before ++ r :: after) = some r := by
  obtain ⟨classA, olderB⟩ | ⟨classB, rfl, youngerB⟩ := oldest
  · exact bestRequest_of_first_a classA olderB
  · exact bestRequest_of_all_b (List.forall_mem_cons.mpr ⟨classB, youngerB⟩)

/-! ### The request leaves the list -/

theorem withoutRequest_eq_self {n : LineNo} {l : List Request} (absent : ∀ q ∈ l, q.line ≠ n) :
    withoutRequest n l = l :=
  List.filter_eq_self.mpr fun q hq => by simpa using absent q hq

/-- With at most one request a line, taking out a line's request leaves all the others (R123). -/
theorem withoutRequest_append_cons
    (distinct : (before ++ r :: after).Pairwise fun p q => p.line ≠ q.line) :
    withoutRequest r.line (before ++ r :: after) = before ++ after := by
  obtain ⟨-, fromR, across⟩ := List.pairwise_append.mp distinct
  have older : withoutRequest r.line before = before :=
    withoutRequest_eq_self fun q hq => across q hq r List.mem_cons_self
  have younger : withoutRequest r.line after = after :=
    withoutRequest_eq_self fun q hq => (List.rel_of_pairwise_cons fromR hq).symm
  have split : withoutRequest r.line (before ++ r :: after) =
      withoutRequest r.line before ++ withoutRequest r.line after := by
    simp [withoutRequest]
  rw [split, older, younger]

/-! ### The binding -/

theorem Line.toneReady_head {l : Line} (ready : l.toneReady = true) :
    ∃ (code : Nat) (origin : Origin) (owner : Option SlotNo) (rest : List Entry),
      l.queue.entries = { kind := .tone code, origin := origin, owner := owner } :: rest := by
  unfold Line.toneReady at ready
  match h : l.queue.entries with
  | [] => simp [h] at ready
  | { kind := .tone code, origin, owner } :: rest => exact ⟨code, origin, owner, rest, rfl⟩
  | { kind := .recall, .. } :: _ => simp [h] at ready
  | { kind := .pause _, .. } :: _ => simp [h] at ready

theorem Line.leaveHead_waiting_flight {l : Line} {e : Entry} {rest : List Entry}
    (head : l.queue.entries = e :: rest) :
    l.leaveHead.queue.waiting = false ∧ l.leaveHead.queue.flight.isSome = true := by
  simp [Line.leaveHead, head]

theorem bindSender_of_tone {n : LineNo} {code : Nat} {origin : Origin} {owner : Option SlotNo}
    {rest : List Entry}
    (head : (s.line n).queue.entries =
      { kind := .tone code, origin := origin, owner := owner } :: rest) :
    bindSender k n s =
      (s.modLine n Line.leaveHead).setSender k
        (some (newBinding n code origin (readTone s.store code))) := by
  simp [bindSender, head]

theorem bindSender_waitList (k : SenderNo) (n : LineNo) (s : State) :
    (bindSender k n s).waitList = s.waitList := by
  unfold bindSender; split <;> rfl

theorem bindSender_sender_other (n : LineNo) (s : State) {j : SenderNo} (other : j ≠ k) :
    (bindSender k n s).sender j = s.sender j := by
  unfold bindSender; split
  · rw [State.setSender_sender_other _ _ _ _ other]; rfl
  · rfl

theorem bindSender_line_other (k : SenderNo) (s : State) {n m : LineNo} (other : m ≠ n) :
    (bindSender k n s).line m = s.line m := by
  unfold bindSender; split
  · rw [State.setSender_line, State.modLine_line_other _ _ _ _ other]
  · rfl

/-- A sender bound to a line with a TONE at its head begins that tone at zero phase, for the whole of its time
(R108, R128). -/
theorem bindSender_sender_same {n : LineNo} (ready : (s.line n).toneReady = true) :
    ∃ b : Binding, (bindSender k n s).sender k = some b ∧ b.line = n ∧ b.phase = .tone ∧
      b.accLow = 0 ∧ b.accHigh = 0 ∧ b.countdown = b.tone.onMs * 8 := by
  obtain ⟨code, origin, owner, rest, head⟩ := Line.toneReady_head ready
  rw [bindSender_of_tone head, State.setSender_sender_same]
  exact ⟨_, rfl, rfl, rfl, rfl, rfl, rfl⟩

/-- The line's TONE goes from the head into flight, and its unit no longer waits (R108). -/
theorem bindSender_line_same {n : LineNo} (ready : (s.line n).toneReady = true) :
    ((bindSender k n s).line n).queue.waiting = false ∧
      ((bindSender k n s).line n).queue.flight.isSome = true := by
  obtain ⟨code, origin, owner, rest, head⟩ := Line.toneReady_head ready
  rw [bindSender_of_tone head, State.setSender_line, State.modLine_line_same]
  exact Line.leaveHead_waiting_flight head

/-! ### The grant -/

theorem grantOnce_of_held (held : s.sendHold = true) : grantOnce s = s := if_pos held

theorem grantOnce_of_no_sender (busy : s.freeSender = none) : grantOnce s = s := by
  simp [grantOnce, busy]

theorem grantOnce_of_no_request (empty : s.waitList = []) : grantOnce s = s := by
  simp [grantOnce, empty, bestRequest]

theorem grantOnce_of_choice (clear : s.sendHold = false) (sender : s.freeSender = some k)
    (request : bestRequest s.waitList = some r) :
    grantOnce s =
      bindSender k r.line (s.setWaitList (withoutRequest r.line s.waitList)) := by
  simp [grantOnce, clear, sender, request]

/-- A line in the wait list waits, and so has a sendable TONE at its head (R106, R123). -/
theorem PoolSound.toneReady_of_mem (sound : PoolSound s) (listed : r ∈ s.waitList) :
    (s.line r.line).toneReady = true := by
  obtain ⟨queues, -, -, -, waits⟩ := sound
  obtain ⟨-, -, -, -, readyIfWaiting, -⟩ := queues r.line
  exact readyIfWaiting ((waits r.line).mpr ⟨r, listed, rfl⟩)

/-- Settles O48: the grant is the binding of the sender and the request chosen, over the list without that
request. -/
theorem grantChoosesSenderAndRequest : Obligations.GrantChoosesSenderAndRequest := by
  intro s sound
  constructor
  · rintro (held | busy | empty)
    · exact grantOnce_of_held held
    · exact grantOnce_of_no_sender busy
    · exact grantOnce_of_no_request empty
  · rintro k r clear free lower ⟨before, after, list, oldest⟩
    have ready : (s.line r.line).toneReady = true := sound.toneReady_of_mem (by simp [list])
    obtain ⟨-, -, -, distinct, -⟩ := sound
    have request : bestRequest s.waitList = some r := list ▸ bestRequest_of_oldest oldest
    have others : withoutRequest r.line s.waitList = before ++ after :=
      list ▸ withoutRequest_append_cons (list ▸ distinct)
    rw [grantOnce_of_choice clear (freeSender_of_lowest free lower) request]
    obtain ⟨waiting, flight⟩ := bindSender_line_same
      (s := s.setWaitList (withoutRequest r.line s.waitList)) (k := k) ready
    refine ⟨bindSender_waitList _ _ _, ?_, bindSender_sender_same ready,
      fun j other => bindSender_sender_other _ _ other, waiting, flight,
      fun m other => bindSender_line_other _ _ other⟩
    rw [bindSender_waitList, State.setWaitList_waitList, others, list]
    simp only [List.length_append, List.length_cons]
    omega

end Sys2Proof.Machine
end

section
/-! A fault reported: the words of its slot, the slot chosen, and the three cases of the report (R175). -/

namespace Sys2Proof.Machine

variable {s : State} {k : Nat}

/-! ### Several words written -/

/-- Of writes to different words, each word reads as its own write left it, whatever their order. -/
theorem readWord_writeWords_of_mem {m l : List (Nat × Word)} {a : Nat} {v : Word}
    (canonical : storeWf m = true) (inStore : a < storeSize)
    (distinct : l.Pairwise fun p q => p.1 ≠ q.1) (written : (a, v) ∈ l) :
    readWord (writeWords m l) a = v := by
  induction l generalizing m with
  | nil => simp at written
  | cons p rest ih =>
    obtain ⟨apart, distinct⟩ := List.pairwise_cons.mp distinct
    rw [writeWords_cons]
    obtain rfl | later := List.mem_cons.mp written
    · rw [readWord_writeWords_other _ _ _ apart]
      exact readWord_writeWord_same m a v canonical inStore
    · exact ih (storeWf_writeWord m p.1 p.2 canonical) distinct later

/-- Four neighbouring words, the first of them written last, as a mark is. -/
theorem State.pokes_words_mark_last {base : Nat} (sound : StoreSound s)
    (inStore : base + 4 ≤ storeSize) (mark x y z : Word) :
    (s.pokes [(base + 1, x), (base + 2, y), (base + 3, z), (base, mark)]).words base 4 =
      [mark, x, y, z] := by
  have reads {a : Nat} {v : Word} (near : a < base + 4)
      (written : (a, v) ∈ [(base + 1, x), (base + 2, y), (base + 3, z), (base, mark)]) :
      (s.pokes [(base + 1, x), (base + 2, y), (base + 3, z), (base, mark)]).peek a = v :=
    readWord_writeWords_of_mem sound (by omega) (by simp) written
  simp only [State.words, List.range_succ, List.range_zero, List.nil_append, List.cons_append,
    List.map_cons, List.map_nil, Nat.add_zero]
  rw [reads (a := base) (v := mark), reads (a := base + 1) (v := x),
    reads (a := base + 2) (v := y), reads (a := base + 3) (v := z)] <;> simp

/-- Writes that all fall into the regions leave every word outside them as it is. -/
theorem StoreFrame.of_pokes {l : List (Nat × Word)} {regions : List (Nat × Nat)}
    (within : ∀ p ∈ l, ∃ r ∈ regions, r.1 ≤ p.1 ∧ p.1 < r.1 + r.2) :
    StoreFrame s (s.pokes l) regions := by
  intro a outside
  refine readWord_writeWords_other s.store l a fun p hp same => ?_
  obtain ⟨r, hr, low, high⟩ := within p hp
  have := outside r hr
  omega

theorem StoreFrame.of_poke (s : State) (a : Nat) (v : Word) :
    StoreFrame s (s.poke a v) [(a, 1)] :=
  StoreFrame.of_pokes (l := [(a, v)]) (by simp)

/-! ### STATUS.FAULT -/

@[simp] theorem State.raiseFault_peek (a : Nat) : s.raiseFault.peek a = s.peek a := rfl

@[simp] theorem State.raiseFault_words (base length : Nat) :
    s.raiseFault.words base length = s.words base length := rfl

theorem StoreFrame.raiseFault {t : State} {regions : List (Nat × Nat)}
    (frame : StoreFrame s t regions) : StoreFrame s t.raiseFault regions := frame

/-! ### The slot chosen -/

theorem freeFaultSlot_eq_some_iff :
    freeFaultSlot s = some k ↔
      k < 8 ∧ s.peek (faultSlotAddress k) = 0 ∧ ∀ j < k, s.peek (faultSlotAddress j) ≠ 0 := by
  simp [freeFaultSlot, List.find?_range_eq_some, and_left_comm]

theorem freeFaultSlot_eq_none_iff :
    freeFaultSlot s = none ↔ ∀ k < 8, s.peek (faultSlotAddress k) ≠ 0 := by
  simp [freeFaultSlot]

/-! ### The report -/

variable {kind : FaultKind} {n : LineNo} {detail : Nat}

theorem reportFault_of_overflow (overflow : s.peek faultOverflowAddress ≠ 0) :
    reportFault kind n detail s = s := if_neg overflow

theorem reportFault_of_goesTo (goesTo : FaultGoesTo s k) :
    reportFault kind n detail s =
      (s.pokes
        [(faultSlotAddress k + 1, asWord n.val), (faultSlotAddress k + 2, s.clock),
          (faultSlotAddress k + 3, asWord detail),
          (faultSlotAddress k, faultValue kind)]).raiseFault := by
  obtain ⟨clear, free⟩ := goesTo
  simp only [reportFault, clear, freeFaultSlot_eq_some_iff.mpr free, if_true]

theorem reportFault_of_full (clear : s.peek faultOverflowAddress = 0)
    (full : ∀ k < 8, s.peek (faultSlotAddress k) ≠ 0) :
    reportFault kind n detail s = (s.poke faultOverflowAddress 1).raiseFault := by
  simp only [reportFault, clear, freeFaultSlot_eq_none_iff.mpr full, if_true]

/-- The eight fault slots lie in the store. -/
theorem faultSlotAddress_in_store (slot : k < 8) : faultSlotAddress k + 4 ≤ storeSize := by
  unfold faultSlotAddress storeSize
  omega

/-- Settles O51: dropped under FAULT-OVERFLOW, written into the lowest free slot, or marked by FAULT-OVERFLOW. -/
theorem faultFillsTheLowestFreeSlot : Obligations.FaultFillsTheLowestFreeSlot := by
  intro kind n detail s sound
  refine ⟨reportFault_of_overflow, fun k goesTo => ?_, fun clear full => ?_⟩
  · rw [reportFault_of_goesTo goesTo]
    obtain ⟨-, slot, -⟩ := goesTo
    refine ⟨?_, (StoreFrame.of_pokes ?_).raiseFault, rfl⟩
    · rw [State.raiseFault_words]
      exact State.pokes_words_mark_last sound (faultSlotAddress_in_store slot) _ _ _ _
    · simp
  · rw [reportFault_of_full clear full]
    refine ⟨?_, (StoreFrame.of_poke s faultOverflowAddress 1).raiseFault, rfl⟩
    rw [State.raiseFault_peek, State.poke_peek']
    exact readWord_writeWord_same s.store faultOverflowAddress 1 sound (by decide)

end Sys2Proof.Machine
end

section
/-! What one command can do to the part, said once at the finest grain: a move changes one item of the state by one of
the rules that the model has for it, and every operation of the part is a chain of moves. A law of a single item is
kept by every step as soon as each move keeps it. -/

namespace Sys2Proof.Machine

/-! ### The moves -/

/-- The words that the part writes of its own accord: header words 3 to 6, order and fault slots, the derived words of a
profile, and the capture pages (R177). -/
def reportAddress (a : Nat) : Bool :=
  (decide (3 ≤ a) && decide (a ≤ 6)) || (decide (0x020 ≤ a) && decide (a < 0x0C0)) ||
    (decide (0x0C0 ≤ a) && decide (a < 0x1C0) && decide (24 ≤ a % 32)) || decide (0xA00 ≤ a)

/-- How the capture unit moves: a record lost, a page opened behind a GAP record or for a record, a record placed, a page
closed, and a page aged (R167 to R171). -/
inductive CaptureMove (c : Capture) : Capture → Prop
  | lost (h : c.filling = none ∨ 0 < c.loss) :
    CaptureMove c { c with loss := saturate 65535 c.loss }
  | gap (h : c.loss ≠ 0) :
    CaptureMove c { c with filling := some { position := 5, count := 1, age := 0 }, loss := 0 }
  | opened (len : Nat) (h3 : 3 ≤ len) (h6 : len ≤ 6) (h : c.loss = 0) :
    CaptureMove c { c with filling := some { position := 2 + len, count := 1, age := 0 } }
  | placed (f : Filling) (len : Nat) (h3 : 3 ≤ len) (hf : c.filling = some f)
      (fits : f.position + len ≤ 64) :
    CaptureMove c
      { c with filling := some { f with position := f.position + len, count := f.count + 1 } }
  | closed : CaptureMove c
      { c with filling := none, nextPage := c.nextPage + 1, sequence := nextSequence c.sequence }
  | aged : CaptureMove c { c with filling := c.filling.map fun f => { f with age := f.age + 1 } }

/-- How a sender moves: it becomes FREE, takes a TONE, goes to GAP, or counts down (R122, R128, R129, R131). -/
inductive SenderMove (s : State) (k : SenderNo) : Option Binding → Prop
  | freed : SenderMove s k none
  | bound (n : LineNo) (code : Nat) (origin : Origin) :
    SenderMove s k (some (newBinding n code origin (readTone s.store code)))
  | gap (b : Binding) (h : s.sender k = some b) :
    SenderMove s k (some { b with phase := .gap, countdown := b.tone.offMs * 8, started := false })
  | counted (b : Binding) (h : s.sender k = some b) :
    SenderMove s k (some { b with countdown := b.countdown - 1 })

/-- How an estimate moves: it stays, or is clamped to the band of the open train's context (R66, R75). -/
def EstimateMove (l : Line) (e e' : Estimator) : Prop :=
  e'.p16 = e.p16 ∨ ∃ c ∈ l.decoder.ctx, ∃ v, e'.p16 = clamp c.pLo16 c.pHi16 v

/-- How a queue unit moves: entries and the entry in flight stand, leave or come in range within the room, and an empty
unit of a line OUT stays empty (R97, R98). -/
structure QueueMove (l : Line) (q : QueueUnit) : Prop where
  entries : ∀ e ∈ q.entries, e ∈ l.queue.entries ∨ e.inRange = true
  room : q.entries.length ≤ max l.queue.entries.length 24
  flight : ∀ f ∈ q.flight, f.entry ∈ l.queue.entries ∨ ∃ g ∈ l.queue.flight, f.entry = g.entry
  bare : l.mode = .out → l.queue = .empty → q = .empty

/-- What the supervisor and the decoder move of a line in service without a new estimate or train. -/
structure ServiceMove (l l' : Line) : Prop where
  inService : l.mode ≠ .out
  stays : l'.mode ≠ .out
  scan : l'.scan = l.scan
  estimator : l'.estimator = l.estimator
  ctx : l'.decoder.ctx = l.decoder.ctx ∨ l'.decoder.ctx = none
  queue : QueueMove l l'.queue

/-- How a line moves. -/
inductive LineMove (s : State) (n : LineNo) : Line → Prop
  | unscanned (high : Bool) (h : (s.line n).scan = none) :
    LineMove s n { s.line n with raw := high }
  | scanned (high : Bool) (sc : Scan) (c : Level) (h : (s.line n).scan = some sc) :
    LineMove s n
      { s.line n with
        raw := high
        scan := some
          (debounce (((s.setInForce n).map (·.debounce)).getD 0) c s.clock sc).1 }
  | timers : LineMove s n (s.line n).raiseTimers
  | service (l : Line) (h : ServiceMove (s.line n) l) : LineMove s n l
  | estimate (f : Estimator → Estimator)
      (h : ∀ e ∈ (s.line n).estimator, EstimateMove (s.line n) e (f e)) :
    LineMove s n { s.line n with estimator := (s.line n).estimator.map f }
  | train (a : AdoptedSet) (e : Estimator) (t : Nat) (stamp : Tick)
      (inService : (s.line n).mode ≠ .out) (ha : s.setInForce n = some a)
      (he : (s.line n).estimator = some e) :
    LineMove s n
      { s.line n with
        estimator := some (e.trainStart a)
        decoder :=
          { Decoder.atRest with
            sub := .inBreak, ctx := some (trainContext a t), breakStart := some stamp } }
  | queue (q : QueueUnit) (h : QueueMove (s.line n) q) : LineMove s n { s.line n with queue := q }
  | opened (p : ProfileNo) (pol : Polarity) (a : AdoptedSet)
      (ha : (s.profile p).adopted = some a) :
    LineMove s n ((s.line n).opened p pol a s.clock)
  | out : LineMove s n (Line.outOfService (s.line n).raw)

/-- An order that may join the acceptance list: its slot is not held, its line not by another LEARN, RELEASE or INJECT,
and a MARK's target lies in the host area (R155, R159, R163). -/
structure Acceptable (s : State) (o : HeldOrder) : Prop where
  slot : s.slotHeld o.slot = false
  line : o.kind.perLine = true → ∃ n, o.line = some n ∧ lineHolder s n = none
  target : o.kind = .mark → inHostArea o.copy.p0 0 = true

/-- One move of the part. -/
inductive Move (s : State) : State → Prop
  | line (n : LineNo) (l : Line) (h : LineMove s n l) : Move s (s.setLine n l)
  | sender (k : SenderNo) (b : Option Binding) (h : SenderMove s k b) : Move s (s.setSender k b)
  | frame : Move s (settleFrame s)
  | allOut : Move s (linesOut s)
  | poolFreed : Move s { s with senders := Vector.replicate 12 none, waitList := [] }
  | waitList (l : List Request) : Move s (s.setWaitList l)
  | accept (o : HeldOrder) (h : Acceptable s o) : Move s (s.setAccepted (s.board.accepted ++ [o]))
  | accepted (l : List HeldOrder) (h : l.Sublist s.board.accepted) : Move s (s.setAccepted l)
  | sweep (at? : Option Nat) (held : Bool) (h : ∀ k ∈ at?, k < 16 ∨ s.board.sweepAt = some k) :
    Move s (s.setSweep at? held)
  | capture (c : Capture) (h : CaptureMove s.capture c) : Move s (s.setCapture c)
  | adopt (p : ProfileNo) (raw : List Nat) (hlen : raw.length = 23)
      (accepted : profileRefusal raw = none) :
    Move s
      (s.setProfile p
        { adopted := some (adoptedSet raw (nextGeneration (s.profile p).generation))
          generation := nextGeneration (s.profile p).generation })
  | dropSets : Move s { s with profiles := s.profiles.map fun x => { x with adopted := none } }
  | causes (c : Causes) : Move s (s.setCauses c)
  | control (c : Control) : Move s (s.setControl c)
  | timeBase (t : TimeBase) : Move s (s.setTimeBase t)
  | scanBus (b : ScanBus) : Move s (s.setScanBus b)
  | report (l : List (Nat × Word)) (h : ∀ p ∈ l, reportAddress p.1 = true) : Move s (s.pokes l)
  | target (c : OrderCopy)
      (h : inHostArea c.p0 0 = true ∨ ∃ o ∈ s.board.accepted, o.kind = .mark ∧ o.copy = c) :
    Move s (s.poke c.p0.toNat c.p1)
  | snapshot (n : LineNo) (target : Word) (ws : List Word) (h : inHostArea target 25 = true)
      (hlen : ws.length ≤ (s.line n).queue.entries.length + 2) :
    Move s (s.pokes (runWrites target.toNat ws))

/-- A chain of moves. -/
abbrev Moves : State → State → Prop := Relation.ReflTransGen Move

variable {s t u : State} {n : LineNo} {k : SenderNo}

theorem Move.moves (h : Move s t) : Moves s t := .single h

theorem Moves.refl : Moves s s := Relation.ReflTransGen.refl

/-- What each move keeps, a chain of moves keeps. -/
theorem Moves.keeps {p : State → Prop} (hp : ∀ s t, Move s t → p s → p t) (h : Moves s t)
    (hs : p s) : p t := by
  induction h with
  | refl => exact hs
  | tail _ last ih => exact hp _ _ last ih

/-- Relations between the first and the last state of a chain come from those of the single moves. -/
theorem Moves.lift {r : State → State → Prop} (refl : ∀ s, r s s)
    (trans : ∀ s t u, r s t → r t u → r s u) (hr : ∀ s t, Move s t → r s t) (h : Moves s t) :
    r s t := by
  induction h with
  | refl => exact refl _
  | tail _ last ih => exact trans _ _ _ ih (hr _ _ last)

/-! ### Capture unit and fault unit -/

theorem reportAddress_iff (a : Nat) :
    reportAddress a = true ↔
      (3 ≤ a ∧ a ≤ 6) ∨ (0x020 ≤ a ∧ a < 0x0C0) ∨ (0x0C0 ≤ a ∧ a < 0x1C0 ∧ 24 ≤ a % 32) ∨
        0xA00 ≤ a := by
  simp only [reportAddress, Bool.or_eq_true, Bool.and_eq_true, decide_eq_true_eq, or_assoc,
    and_assoc]

theorem reportAddress_page (p : Fin 24) (i : Nat) : reportAddress (pageAddress p + i) = true := by
  rw [reportAddress_iff]
  unfold pageAddress
  omega

theorem Moves.poke_report {a : Nat} (v : Word) (h : reportAddress a = true) :
    Moves s (s.poke a v) :=
  (Move.report [(a, v)] (by simpa using h)).moves

theorem putRecord_moves (p : Nat) (ws : List Word) (s : State) : Moves s (putRecord p ws s) := by
  refine (Move.report _ fun q hq => ?_).moves
  obtain ⟨⟨w, i⟩, -, rfl⟩ := List.mem_map.mp hq
  exact (congrArg reportAddress (Nat.add_assoc _ p i)).trans (reportAddress_page _ _)

theorem closePage_moves (s : State) : Moves s (closePage s) := by
  unfold closePage
  split
  · exact .refl
  · refine Relation.ReflTransGen.trans (Move.report _ ?_).moves
      (((Move.capture _ ?_).moves).tail (.causes _))
    · have page := reportAddress_page s.capture.nextPage
      simpa using ⟨page 1, page 0, by decide⟩
    · exact .closed

theorem loseRecord_moves (s : State) (h : s.capture.filling = none ∨ 0 < s.capture.loss) :
    Moves s (loseRecord s) := by
  have first : Move s (s.setCapture { s.capture with loss := saturate 65535 s.capture.loss }) :=
    .capture _ (.lost h)
  unfold loseRecord setLoss
  dsimp only
  split
  · exact first.moves
  · exact first.moves.trans (Moves.poke_report _ (by decide))

/-- The next page opened for a record. -/
theorem openPage_moves {ws : List Word} (h3 : 3 ≤ ws.length) (h6 : ws.length ≤ 6) (s : State)
    (h : s.capture.loss = 0) : Moves s (openPage ws s) :=
  (putRecord_moves 2 ws s).tail (.capture _ (.opened ws.length h3 h6 h))

theorem recordInNextPage_moves {ws : List Word} (h3 : 3 ≤ ws.length) (h6 : ws.length ≤ 6)
    (s : State) (h : s.capture.loss = 0) (hf : s.capture.filling = none) :
    Moves s (recordInNextPage ws s) := by
  unfold recordInNextPage
  split
  · exact openPage_moves h3 h6 s h
  · exact loseRecord_moves s (.inl hf)

theorem closePage_filling (s : State) : (closePage s).capture.filling = none := by
  unfold closePage; split
  · assumption
  · rfl

theorem closePage_loss (s : State) : (closePage s).capture.loss = s.capture.loss := by
  unfold closePage; split <;> rfl

theorem placeRecord_moves {ws : List Word} (h3 : 3 ≤ ws.length) (h6 : ws.length ≤ 6)
    (s : State) (h : s.capture.loss = 0) : Moves s (placeRecord ws s) := by
  unfold placeRecord
  split
  · exact recordInNextPage_moves h3 h6 s h ‹_›
  · next f hf =>
    split
    · next fits => exact (putRecord_moves _ ws s).tail (.capture _ (.placed f _ h3 hf fits))
    · exact (closePage_moves s).trans
        (recordInNextPage_moves h3 h6 _ ((closePage_loss s).trans h) (closePage_filling s))

theorem recheckLoss_moves (s : State) : Moves s (recheckLoss s) := by
  unfold recheckLoss
  split
  · exact .refl
  · next loss =>
    split
    · unfold setLoss
      dsimp only
      rw [if_neg (fun h => loss h.symm)]
      refine Relation.ReflTransGen.trans ?_ (Moves.poke_report _ (by decide))
      exact (putRecord_moves 2 _ s).tail (.capture _ (.gap loss))
    · exact .refl

theorem captureWords_moves {ws : List Word} (h3 : 3 ≤ ws.length) (h6 : ws.length ≤ 6) (s : State) :
    Moves s (captureWords ws s) := by
  unfold captureWords
  dsimp only
  refine (recheckLoss_moves s).trans ?_
  split
  · next h => exact placeRecord_moves h3 h6 _ h
  · next h => exact loseRecord_moves _ (.inr (Nat.pos_of_ne_zero h))

/-- A record of one to four body words. -/
theorem capture_moves (kind : RecordKind) (n : LineNo) {body : List Word} (h1 : 1 ≤ body.length)
    (h4 : body.length ≤ 4) (s : State) : Moves s (capture kind n body s) :=
  captureWords_moves (by simp only [recordWords, List.length_cons]; omega) (by simp only [recordWords, List.length_cons]; omega) s

theorem reportFault_moves (kind : FaultKind) (n : LineNo) (d : Nat) (s : State) :
    Moves s (reportFault kind n d s) := by
  unfold reportFault
  split
  · split
    · next k hk =>
      have hk8 : k < 8 := List.mem_range.mp (List.mem_of_find?_eq_some hk)
      refine (Move.report _ fun q hq => ?_).moves.tail (.causes _)
      simp only [List.mem_cons, List.not_mem_nil, or_false] at hq
      have near : faultSlotAddress k ≤ q.1 ∧ q.1 ≤ faultSlotAddress k + 3 := by
        obtain rfl | rfl | rfl | rfl := hq <;> simp
      rw [reportAddress_iff]
      unfold faultSlotAddress at near
      omega
    · exact (Moves.poke_report 1 (by decide)).tail (.causes _)
  · exact .refl

/-! ### Order unit -/

theorem reportAddress_slot (k : SlotNo) (i : Nat) (hi : i < 8) :
    reportAddress (slotAddress k + i) = true := by
  rw [reportAddress_iff]
  unfold slotAddress
  have := k.isLt
  omega

theorem writeOutcome_moves (slot : SlotNo) (code : ResultCode) (d : Nat) (w : Word) (s : State) :
    Moves s (writeOutcome slot code d w s) := by
  refine (Move.report _ ?_).moves.tail (.causes _)
  simpa using ⟨reportAddress_slot slot 7 (by decide), reportAddress_slot slot 0 (by decide)⟩

theorem refuse_moves (slot : SlotNo) (code : ResultCode) (d : Nat) (s : State) :
    Moves s (refuse slot code d s) := writeOutcome_moves _ _ _ _ s

theorem finishNow_moves (slot : SlotNo) (code : ResultCode) (d : Nat) (s : State) :
    Moves s (finishNow slot code d s) := writeOutcome_moves _ _ _ _ s

theorem accept_moves {slot : SlotNo} {kind : HeldKind} {line : Option LineNo} {c : OrderCopy}
    (free : s.slotHeld slot = false)
    (lineFree : kind.perLine = true → ∃ n, line = some n ∧ lineHolder s n = none)
    (target : kind = .mark → inHostArea c.p0 0 = true) :
    Moves s (accept slot kind line c s) :=
  (Moves.poke_report _ (reportAddress_slot slot 0 (by decide))).tail
    (.accept _ ⟨free, lineFree, target⟩)

theorem markDone_moves (slot : SlotNo) (c : OrderCopy) (ahead : Nat) (s : State)
    (h : inHostArea c.p0 0 = true ∨ ∃ o ∈ s.board.accepted, o.kind = .mark ∧ o.copy = c) :
    Moves s (markDone slot c ahead s) := by
  have done := (Move.target c h).moves.trans (finishNow_moves slot .ok ahead _)
  unfold markDone
  dsimp only
  split
  · exact done.tail (.causes _)
  · exact done

theorem markDone_accepted (slot : SlotNo) (c : OrderCopy) (ahead : Nat) (s : State) :
    (markDone slot c ahead s).board.accepted = s.board.accepted := by
  unfold markDone; dsimp only; split <;> rfl

theorem completeMarks_moves (l : List HeldOrder) (s : State) (h : l.Sublist s.board.accepted) :
    Moves s (completeMarks l s) := by
  induction l generalizing s with
  | nil => exact (Move.accepted _ h).moves
  | cons o rest ih =>
    unfold completeMarks
    split
    · next mark =>
      have listed : o ∈ s.board.accepted := h.subset List.mem_cons_self
      refine (markDone_moves _ _ _ s (.inr ⟨o, listed, mark, rfl⟩)).trans (ih _ ?_)
      rw [markDone_accepted]
      exact (List.sublist_cons_self o rest).trans h
    all_goals exact (Move.accepted _ h).moves

theorem completeOrder_moves (slot : SlotNo) (code : ResultCode) (d : Nat) (s : State) :
    Moves s (completeOrder slot code d s) :=
  (finishNow_moves slot code d s).trans (completeMarks_moves _ _ List.filter_sublist)

theorem refuseHeld_moves (s : State) : Moves s (refuseHeld s) := by
  have each (l : List HeldOrder) (s : State) :
      Moves s (l.foldl (fun s o => refuse o.slot .reset 0 s) s) := by
    induction l generalizing s with
    | nil => exact .refl
    | cons o rest ih => exact (refuse_moves _ _ _ s).trans (ih _)
  exact (each _ s).tail (.accepted _ (List.nil_sublist _))

theorem requestSweep_moves (s : State) : Moves s (requestSweep s) := by
  unfold requestSweep
  split
  · exact (Move.sweep _ _ (by simp)).moves
  · next k hk => exact (Move.sweep _ _ (by simpa using .inr hk)).moves

theorem endSweep_moves (s : State) : Moves s (endSweep s) := by
  refine (recheckLoss_moves s).tail (.sweep _ _ ?_)
  split <;> simp

/-! ### Queue unit and sender pool -/

theorem QueueMove.of_entries {l : Line} {q : QueueUnit} (entries : q.entries = l.queue.entries)
    (flight : q.flight = l.queue.flight ∨ q.flight = none)
    (bare : l.mode = .out → l.queue = .empty → q = .empty) : QueueMove l q where
  entries e he := .inl (entries ▸ he)
  room := by rw [entries]; exact le_max_left _ _
  flight f hf := by
    obtain h | h := flight
    · exact .inr ⟨f, h ▸ hf, rfl⟩
    · simp [h] at hf
  bare := bare

theorem QueueMove.empty (l : Line) : QueueMove l .empty where
  entries e he := by simp [QueueUnit.empty] at he
  room := by simp [QueueUnit.empty]
  flight f hf := by simp [QueueUnit.empty] at hf
  bare _ _ := rfl

theorem QueueMove.refl (l : Line) : QueueMove l l.queue := .of_entries rfl (.inl rfl) fun _ h => h

theorem modLine_service {f : Line → Line} (h : ServiceMove (s.line n) (f (s.line n))) :
    Moves s (s.modLine n f) := (Move.line n _ (.service _ h)).moves

theorem modQueue_moves {f : QueueUnit → QueueUnit}
    (h : QueueMove (s.line n) (f (s.line n).queue)) : Moves s (s.modQueue n f) :=
  (Move.line n _ (.queue _ h)).moves

theorem Line.leaveHead_moves (n : LineNo) (s : State) : Moves s (s.modLine n Line.leaveHead) := by
  have h : QueueMove (s.line n) (s.line n).leaveHead.queue := by
    unfold Line.leaveHead
    split
    · exact .of_entries rfl (.inl rfl) fun _ h => h
    · next e rest head =>
      refine ⟨fun x hx => .inl ?_, ?_, fun f hf => .inl ?_, fun _ h => ?_⟩
      · exact head ▸ List.mem_cons_of_mem e hx
      · simp only [head, List.length_cons]; omega
      · obtain rfl : f = _ := by simpa using hf.symm
        simp [head]
      · rw [h] at head; cases head
  have eq : (s.line n).leaveHead = { s.line n with queue := (s.line n).leaveHead.queue } := by
    unfold Line.leaveHead; split <;> rfl
  have := Move.line n _ (.queue _ h)
  rw [← eq] at this
  exact this.moves

theorem bindSender_moves (k : SenderNo) (n : LineNo) (s : State) : Moves s (bindSender k n s) := by
  unfold bindSender
  split
  · exact (Line.leaveHead_moves n s).tail (.sender k _ (.bound n _ _))
  · exact .refl

theorem grantOnce_moves (s : State) : Moves s (grantOnce s) := by
  unfold grantOnce
  split
  · exact .refl
  · split
    · exact (Move.waitList _).moves.trans (bindSender_moves _ _ _)
    · exact .refl

theorem foldl_moves {α : Type} {f : State → α → State} (hf : ∀ s x, Moves s (f s x)) (l : List α)
    (s : State) : Moves s (l.foldl f s) := by
  induction l generalizing s with
  | nil => exact .refl
  | cons x rest ih => exact (hf s x).trans (ih _)

theorem grantAll_moves (s : State) : Moves s (grantAll s) :=
  foldl_moves (fun s _ => grantOnce_moves s) _ s

theorem postRequest_moves (n : LineNo) (s : State) (active : (s.line n).mode = .active) :
    Moves s (postRequest n s) := by
  have wait : Moves s (s.setWaitList (s.waitList ++ [newRequest n (s.line n)])) :=
    (Move.waitList _).moves
  refine (wait.trans (modQueue_moves (.of_entries rfl (.inl rfl) ?_))).trans (grantOnce_moves _)
  intro out
  exact absurd (active.symm.trans out) (by decide)

theorem withdrawRequest_moves (n : LineNo) (s : State) : Moves s (withdrawRequest n s) := by
  unfold withdrawRequest
  split
  · next waiting =>
    refine (Move.waitList _).moves.trans (modQueue_moves (.of_entries rfl (.inl rfl) ?_))
    intro _ empty
    have : (s.line n).queue = .empty := empty
    simp [this, QueueUnit.empty] at waiting
  · exact .refl

end Sys2Proof.Machine
end

section
/-! What sending leaves of a line: a grant changes a queue unit alone, and a head examination the queue unit and HOLD of its
own line. -/

namespace Sys2Proof.Machine

variable {s t : State} {n m : LineNo}

/-! ### Changes of the queue unit alone -/

/-- The line differs in its queue unit alone. -/
def QueueOnly (l l' : Line) : Prop := l' = { l with queue := l'.queue }

/-- The line differs in its queue unit and HOLD alone. -/
def SendOnly (l l' : Line) : Prop := l' = { l with queue := l'.queue, hold := l'.hold }

theorem QueueOnly.refl (l : Line) : QueueOnly l l := rfl

theorem SendOnly.refl (l : Line) : SendOnly l l := rfl

theorem QueueOnly.trans {l l' l'' : Line} (h : QueueOnly l l') (k : QueueOnly l' l'') :
    QueueOnly l l'' := by
  unfold QueueOnly at *; rw [k]; rw [h]

theorem SendOnly.trans {l l' l'' : Line} (h : SendOnly l l') (k : SendOnly l' l'') :
    SendOnly l l'' := by
  unfold SendOnly at *; rw [k]; rw [h]

theorem QueueOnly.sendOnly {l l' : Line} (h : QueueOnly l l') : SendOnly l l' := by
  unfold QueueOnly at h; unfold SendOnly; rw [h]

/-- What a change of the queue unit and HOLD leaves of the line. -/
theorem SendOnly.keeps {l l' : Line} (h : SendOnly l l') :
    l'.raw = l.raw ∧ l'.scan = l.scan ∧ l'.mute = l.mute ∧ l'.mode = l.mode ∧
      l'.profile = l.profile ∧ l'.seizure = l.seizure ∧ l'.call = l.call ∧
      l'.overflowReported = l.overflowReported ∧ l'.dialSpeedReported = l.dialSpeedReported ∧
      l'.hitCount = l.hitCount ∧ l'.digits = l.digits ∧ l'.firstDigit = l.firstDigit ∧
      l'.decoder = l.decoder ∧ l'.estimator = l.estimator := by
  unfold SendOnly at h; rw [h]; simp

theorem SendOnly.mode {l l' : Line} (h : SendOnly l l') : l'.mode = l.mode := by
  obtain ⟨-, -, -, mode, -⟩ := h.keeps; exact mode

theorem SendOnly.profile {l l' : Line} (h : SendOnly l l') : l'.profile = l.profile := by
  obtain ⟨-, -, -, -, profile, -⟩ := h.keeps; exact profile

theorem QueueOnly.hold {l l' : Line} (h : QueueOnly l l') : l'.hold = l.hold := by
  unfold QueueOnly at h; rw [h]

/-! ### Changes of one line -/

theorem State.modLine_line (s : State) (n m : LineNo) (f : Line → Line) :
    (s.modLine n f).line m = if m = n then f (s.line n) else s.line m :=
  s.setLine_line n m (f (s.line n))

@[simp] theorem State.modQueue_line_same (s : State) (n : LineNo) (f : QueueUnit → QueueUnit) :
    (s.modQueue n f).line n = { s.line n with queue := f (s.line n).queue } :=
  s.modLine_line_same n _

theorem State.modQueue_line_other (s : State) (f : QueueUnit → QueueUnit) (h : m ≠ n) :
    (s.modQueue n f).line m = s.line m :=
  s.modLine_line_other n m _ h

@[simp] theorem State.modDecoder_line_same (s : State) (n : LineNo) (f : Decoder → Decoder) :
    (s.modDecoder n f).line n = { s.line n with decoder := f (s.line n).decoder } :=
  s.modLine_line_same n _

@[simp] theorem State.modEstimator_line_same (s : State) (n : LineNo) (f : Estimator → Estimator) :
    (s.modEstimator n f).line n =
      { s.line n with estimator := (s.line n).estimator.map f } :=
  s.modLine_line_same n _

@[simp] theorem stopFirstDigit_line_same (n : LineNo) (s : State) :
    (stopFirstDigit n s).line n = { s.line n with firstDigit := none } :=
  s.modLine_line_same n _

theorem State.modQueue_queueOnly (s : State) (n m : LineNo) (f : QueueUnit → QueueUnit) :
    QueueOnly (s.line m) ((s.modQueue n f).line m) := by
  by_cases h : m = n
  · subst h; rw [State.modQueue_line_same]; rfl
  · rw [State.modQueue_line_other s f h]; rfl

theorem Line.leaveHead_queueOnly (l : Line) : QueueOnly l l.leaveHead := by
  unfold Line.leaveHead; split <;> rfl

/-- A report touches no line. -/
theorem Reports.line {s t : State} (h : Reports s t) (m : LineNo) : t.line m = s.line m := by
  obtain ⟨-, -, -, -, lines, -⟩ := h.keeps
  simp only [State.line, lines]

/-- The answer to an order touches no line. -/
theorem Answers.line {s t : State} (h : Answers s t) (m : LineNo) : t.line m = s.line m := by
  obtain ⟨-, -, -, -, lines, -⟩ := h.keeps
  simp only [State.line, lines]

/-! ### Grants and examinations -/

theorem bindSender_queueOnly (k : SenderNo) (n : LineNo) (s : State) (m : LineNo) :
    QueueOnly (s.line m) ((bindSender k n s).line m) := by
  unfold bindSender
  split
  · rw [State.setSender_line, State.modLine_line]
    split
    · next h => subst h; exact Line.leaveHead_queueOnly _
    · exact .refl _
  · exact .refl _

theorem grantOnce_queueOnly (s : State) (m : LineNo) :
    QueueOnly (s.line m) ((grantOnce s).line m) := by
  unfold grantOnce
  split
  · exact .refl _
  · split
    · exact bindSender_queueOnly _ _ (s.setWaitList _) m
    · exact .refl _

theorem releaseSender_queueOnly (n : LineNo) (s : State) (m : LineNo) :
    QueueOnly (s.line m) ((releaseSender n s).line m) := by
  unfold releaseSender
  split
  · exact grantOnce_queueOnly (s.setSender _ none) m
  · exact .refl _

theorem grantAll_queueOnly (s : State) (m : LineNo) :
    QueueOnly (s.line m) ((grantAll s).line m) := by
  unfold grantAll
  generalize List.range 12 = l
  induction l generalizing s with
  | nil => exact .refl _
  | cons _ rest ih => exact (grantOnce_queueOnly s m).trans (ih _)

theorem postRequest_queueOnly (n : LineNo) (s : State) (m : LineNo) :
    QueueOnly (s.line m) ((postRequest n s).line m) :=
  (State.modQueue_queueOnly (s.setWaitList (s.waitList ++ [newRequest n (s.line n)])) n m
    fun q => { q with waiting := true }).trans (grantOnce_queueOnly _ m)

theorem withdrawRequest_queueOnly (n : LineNo) (s : State) (m : LineNo) :
    QueueOnly (s.line m) ((withdrawRequest n s).line m) := by
  unfold withdrawRequest
  split
  · exact State.modQueue_queueOnly (s.setWaitList _) n m _
  · exact .refl _

theorem startRecall_line_other (s : State) (h : m ≠ n) : (startRecall n s).line m = s.line m := by
  unfold startRecall
  rw [State.modLine_line_other _ _ _ _ h, State.modLine_line_other _ _ _ _ h]

theorem startRecall_sendOnly (n : LineNo) (s : State) :
    SendOnly (s.line n) ((startRecall n s).line n) := by
  unfold startRecall
  rw [State.modLine_line_same, State.modLine_line_same]
  exact (Line.leaveHead_queueOnly _).sendOnly.trans rfl

theorem startPause_queueOnly (n : LineNo) (s : State) (m : LineNo) :
    QueueOnly (s.line m) ((startPause n s).line m) := by
  unfold startPause
  refine QueueOnly.trans ?_ (State.modQueue_queueOnly _ n m _)
  rw [State.modLine_line]
  split
  · next h => subst h; exact Line.leaveHead_queueOnly _
  · exact .refl _

/-- What the head examination of a line can come to, by the rows of R105. -/
inductive Examination (n : LineNo) (s : State) : State → Prop
  /-- The line is not ACTIVE, or has an entry in flight. -/
  | stands (h : (s.line n).mode ≠ .active ∨ (s.line n).queue.flight.isSome = true) :
    Examination n s s
  /-- A sendable TONE waits already. -/
  | waits (ready : (s.line n).toneReady = true) (waiting : (s.line n).queue.waiting = true) :
    Examination n s s
  /-- A sendable TONE asks for a sender. -/
  | posts (ready : (s.line n).toneReady = true) (waiting : (s.line n).queue.waiting = false) :
    Examination n s (postRequest n s)
  /-- Nothing may be sent now. -/
  | withdraws (active : (s.line n).mode = .active) (flight : (s.line n).queue.flight = none)
      (ready : (s.line n).toneReady = false) : Examination n s (withdrawRequest n s)
  /-- A RECALL starts. -/
  | recalls (e : Entry) (rest : List Entry) (active : (s.line n).mode = .active)
      (flight : (s.line n).queue.flight = none) (head : (s.line n).queue.entries = e :: rest)
      (kind : e.kind = .recall) (sendable : (s.line n).sendable e = true)
      (clear : s.sendHold = false) : Examination n s (startRecall n (withdrawRequest n s))
  /-- A PAUSE starts. -/
  | pauses (e : Entry) (rest : List Entry) (ms : Nat) (active : (s.line n).mode = .active)
      (flight : (s.line n).queue.flight = none) (head : (s.line n).queue.entries = e :: rest)
      (kind : e.kind = .pause ms) (sendable : (s.line n).sendable e = true)
      (clear : s.sendHold = false) : Examination n s (startPause n (withdrawRequest n s))

/-- The line is ready for a TONE exactly when it is ACTIVE with nothing in flight and its head is a sendable TONE. -/
theorem Line.toneReady_of_head {l : Line} {e : Entry} {rest : List Entry}
    (active : l.mode = .active) (flight : l.queue.flight = none)
    (head : l.queue.entries = e :: rest) :
    l.toneReady = match e.kind with
      | .tone _ => l.sendable e
      | .recall | .pause _ => false := by
  cases kind : e.kind <;> simp [Line.toneReady, active, flight, head, kind]

theorem Line.toneReady_of_empty {l : Line} (empty : l.queue.entries = []) :
    l.toneReady = false := by
  simp [Line.toneReady, empty]

theorem examineHead_examination (n : LineNo) (s : State) : Examination n s (examineHead n s) := by
  unfold examineHead
  dsimp only
  split
  · next h => exact .stands h
  · next h =>
    obtain ⟨active, flight⟩ := not_or.mp h
    have active : (s.line n).mode = .active := not_not.mp active
    have flight : (s.line n).queue.flight = none := by simpa using flight
    split
    · next empty => exact .withdraws active flight (Line.toneReady_of_empty empty)
    · next e rest head =>
      have ready := Line.toneReady_of_head active flight head
      split
      · next kind =>
        rw [kind] at ready
        dsimp only at ready
        split
        · next sendable =>
          split
          · next waiting => exact .waits (ready.trans sendable) waiting
          · next waiting => exact .posts (ready.trans sendable) (by simpa using waiting)
        · next sendable => exact .withdraws active flight (ready.trans (by simpa using sendable))
      · next kind =>
        rw [kind] at ready
        split
        · next go =>
          obtain ⟨sendable, clear⟩ : _ ∧ s.sendHold = false := by simpa using go
          exact .recalls e rest active flight head kind sendable clear
        · exact .withdraws active flight ready
      · next ms kind =>
        rw [kind] at ready
        split
        · next go =>
          obtain ⟨sendable, clear⟩ : _ ∧ s.sendHold = false := by simpa using go
          exact .pauses e rest ms active flight head kind sendable clear
        · exact .withdraws active flight ready

theorem Examination.queueOnly (ex : Examination n s t) (h : m ≠ n) :
    QueueOnly (s.line m) (t.line m) := by
  have withdrawn := withdrawRequest_queueOnly n s m
  cases ex with
  | stands | waits => exact .refl _
  | posts => exact postRequest_queueOnly n s m
  | withdraws => exact withdrawn
  | recalls => rw [startRecall_line_other _ h]; exact withdrawn
  | pauses => exact withdrawn.trans (startPause_queueOnly n _ m)

theorem Examination.sendOnly_same (ex : Examination n s t) : SendOnly (s.line n) (t.line n) := by
  have withdrawn := (withdrawRequest_queueOnly n s n).sendOnly
  cases ex with
  | stands | waits => exact .refl _
  | posts => exact (postRequest_queueOnly n s n).sendOnly
  | withdraws => exact withdrawn
  | recalls => exact withdrawn.trans (startRecall_sendOnly n _)
  | pauses => exact withdrawn.trans (startPause_queueOnly n _ n).sendOnly

/-- A head examination changes another line in its queue unit alone, by a grant. -/
theorem examineHead_queueOnly (s : State) (h : m ≠ n) :
    QueueOnly (s.line m) ((examineHead n s).line m) :=
  (examineHead_examination n s).queueOnly h

/-- A head examination changes the queue unit and HOLD of a line alone. -/
theorem examineHead_sendOnly (n : LineNo) (s : State) (m : LineNo) :
    SendOnly (s.line m) ((examineHead n s).line m) := by
  by_cases h : m = n
  · subst h; exact (examineHead_examination m s).sendOnly_same
  · exact (examineHead_queueOnly s h).sendOnly

/-! ### Finishes, completions and hand-overs -/

theorem completeOrder_line (slot : SlotNo) (code : ResultCode) (d : Nat) (s : State) (m : LineNo) :
    (completeOrder slot code d s).line m = s.line m :=
  (completeOrder_answers slot code d s).line m

theorem finishFlight_queueOnly (n : LineNo) (s : State) (m : LineNo) :
    QueueOnly (s.line m) ((finishFlight n s).line m) := by
  have cleared := State.modQueue_queueOnly s n m fun q => { q with flight := none }
  unfold finishFlight
  dsimp only
  split
  · next r _ _ =>
    have ordered := cleared.trans
      (State.modQueue_queueOnly _ n m fun q => { q with order := r.finish.1 })
    split
    · rw [completeOrder_line]; exact ordered
    · exact ordered
  · exact cleared

theorem endQueueOrder_queueOnly (n : LineNo) (code : ResultCode) (s : State) (m : LineNo) :
    QueueOnly (s.line m) ((endQueueOrder n code s).line m) := by
  unfold endQueueOrder
  dsimp only
  split
  · rw [completeOrder_line]; exact State.modQueue_queueOnly s n m _
  · exact State.modQueue_queueOnly s n m _

theorem discardQueue_queueOnly (n : LineNo) (s : State) (m : LineNo) :
    QueueOnly (s.line m) ((discardQueue n s).line m) :=
  ((withdrawRequest_queueOnly n s m).trans (endQueueOrder_queueOnly n _ _ m)).trans
    (State.modQueue_queueOnly _ n m _)

theorem flushQueue_queueOnly (n : LineNo) (s : State) (m : LineNo) :
    QueueOnly (s.line m) ((flushQueue n s).line m) :=
  ((withdrawRequest_queueOnly n s m).trans (endQueueOrder_queueOnly n _ _ m)).trans
    (State.modQueue_queueOnly _ n m _)

theorem Line.restartGather_queueOnly (l : Line) : QueueOnly l l.restartGather := by
  unfold Line.restartGather
  split
  · split <;> rfl
  all_goals rfl

theorem Line.appendDialled_queueOnly (l : Line) (e : Entry) : QueueOnly l (l.appendDialled e) := by
  unfold Line.appendDialled
  dsimp only
  split <;> rfl

theorem reportOverflow_line_other (e : Entry) (s : State) (h : m ≠ n) :
    (reportOverflow n e s).line m = s.line m := by
  unfold reportOverflow
  split
  · rfl
  · rw [State.modLine_line_other _ _ _ _ h, (reportFault_reports _ _ _ _).line]

theorem reportOverflow_line_same (n : LineNo) (e : Entry) (s : State) :
    (reportOverflow n e s).line n = { s.line n with overflowReported := true } := by
  unfold reportOverflow
  split
  · next h => rw [← h]
  · rw [State.modLine_line_same, (reportFault_reports _ _ _ _).line]

theorem reportDialSpeed_line_same (n : LineNo) (mean : Nat) (s : State) :
    (reportDialSpeed n mean s).line n = { s.line n with dialSpeedReported := true } := by
  unfold reportDialSpeed
  split
  · next h => rw [← h]
  · rw [State.modLine_line_same, (reportFault_reports _ _ _ _).line]

theorem handOver_queueOnly (e : Entry) (s : State) (h : m ≠ n) :
    QueueOnly (s.line m) ((handOver n e s).1.line m) := by
  have same (u : State) (f : Line → Line) : (u.modLine n f).line m = u.line m :=
    u.modLine_line_other n m f h
  unfold handOver
  dsimp only
  split
  · refine QueueOnly.trans ?_ (examineHead_queueOnly _ h)
    rw [stopFirstDigit, same, same, same]; exact .refl _
  · rw [reportOverflow_line_other _ _ h, same]; exact .refl _

/-- A hand-over leaves the mode of its line. -/
theorem handOver_mode (n : LineNo) (e : Entry) (s : State) :
    ((handOver n e s).1.line n).mode = (s.line n).mode := by
  have restarted : (s.line n).restartGather.mode = (s.line n).mode :=
    (Line.restartGather_queueOnly _).sendOnly.mode
  unfold handOver
  dsimp only
  split
  · rw [(examineHead_sendOnly n _ n).mode, stopFirstDigit_line_same]
    simp only [State.modLine_line_same]
    rw [(Line.appendDialled_queueOnly _ e).sendOnly.mode, restarted]
  · rw [reportOverflow_line_same]
    simp only [State.modLine_line_same, restarted]

theorem handOver_profile (n : LineNo) (e : Entry) (s : State) :
    ((handOver n e s).1.line n).profile = (s.line n).profile := by
  have restarted : (s.line n).restartGather.profile = (s.line n).profile :=
    (Line.restartGather_queueOnly _).sendOnly.profile
  unfold handOver
  dsimp only
  split
  · rw [(examineHead_sendOnly n _ n).profile, stopFirstDigit_line_same]
    simp only [State.modLine_line_same]
    rw [(Line.appendDialled_queueOnly _ e).sendOnly.profile, restarted]
  · rw [reportOverflow_line_same]
    simp only [State.modLine_line_same, restarted]

theorem capture_line (kind : RecordKind) (n : LineNo) (body : List Word) (s : State) (m : LineNo) :
    (capture kind n body s).line m = s.line m :=
  (capture_reports kind n body s).line m

theorem learnFromTrain_line (n : LineNo) (s : State) :
    ∃ f : Estimator → Estimator, ∀ m,
      (learnFromTrain n s).line m = (s.modEstimator n f).line m := by
  unfold learnFromTrain
  dsimp only
  split
  · next none =>
    refine ⟨id, fun m => ?_⟩
    by_cases h : m = n
    · subst h; simp
    · exact (s.modLine_line_other n m _ h).symm
  · split
    · split
      · exact ⟨_, fun m => completeOrder_line _ _ _ _ m⟩
      · exact ⟨_, fun _ => rfl⟩
    · exact ⟨_, fun _ => rfl⟩

theorem learnFromTrain_mode (n : LineNo) (s : State) :
    ((learnFromTrain n s).line n).mode = (s.line n).mode := by
  obtain ⟨f, h⟩ := learnFromTrain_line n s
  rw [h, State.modEstimator_line_same]

end Sys2Proof.Machine
end

section
/-! What an event of the part is made of: the acts of its units, each whole, with the situation in which the part takes it.
Every act is a chain of moves. -/

namespace Sys2Proof.Machine

variable {s t u : State} {n : LineNo}

/-! ### The acts -/

/-- The decoder works for the line: it is ACTIVE; or, in a state that no run reaches, it completes a seizure without a set
in force (log 18). -/
def Decoding (n : LineNo) (s : State) : Prop :=
  (s.line n).mode = .active ∨ ((s.line n).mode ≠ .out ∧ s.setInForce n = none)

theorem Decoding.inService (h : Decoding n s) : (s.line n).mode ≠ .out := by
  obtain active | ⟨inService, -⟩ := h
  · rw [active]; decide
  · exact inService

theorem Decoding.of_same (h : Decoding n s) (mode : (t.line n).mode = (s.line n).mode)
    (profile : (t.line n).profile = (s.line n).profile) (profiles : t.profiles = s.profiles) :
    Decoding n t := by
  have sets : t.setInForce n = s.setInForce n := by
    simp only [State.setInForce, State.profile, profile, profiles]
  rwa [Decoding, mode, sets]

/-- The lines, the profiles, the senders and the wait list stand. -/
structure Aside (s t : State) : Prop where
  moves : Moves s t
  lines : t.lines = s.lines
  profiles : t.profiles = s.profiles
  senders : t.senders = s.senders
  waitList : t.waitList = s.waitList

/-- One act of a unit of the part. -/
inductive Act (s : State) : State → Prop
  | aside {t : State} (h : Aside s t) : Act s t
  | sample (n : LineNo) (high : Bool) : Act s (takeSample n high s).1
  | timers (n : LineNo) : Act s (raiseTimers n s)
  | requests (f : Request → Request) (hf : ∀ r, (f r).line = r.line) :
    Act s (s.setWaitList (s.waitList.map f))
  /-- IDLE, SEIZING and LOCKOUT among themselves. -/
  | resting (n : LineNo) (mode : LineMode) (z : Option Seizure)
      (out : (s.line n).mode ≠ .out) (active : (s.line n).mode ≠ .active)
      (out' : mode ≠ .out) (active' : mode ≠ .active) :
    Act s (s.modLine n fun l => { l with mode := mode, seizure := z })
  | seized (n : LineNo) (a : AdoptedSet) (seizing : (s.line n).mode = .seizing) :
    Act s (s.modLine n fun l => l.seized a)
  | train (n : LineNo) (stamp : Tick) (on : Decoding n s) :
    Act s (startTrain n stamp s)
  | decoder (n : LineNo) (f : Decoder → Decoder) (on : Decoding n s)
      (ctx : ∀ d, (f d).ctx = d.ctx ∨ (f d).ctx = none) : Act s (s.modDecoder n f)
  | estimate (n : LineNo) (f : Estimator → Estimator)
      (h : ∀ e ∈ (s.line n).estimator, EstimateMove (s.line n) e (f e)) :
    Act s (s.modEstimator n f)
  | callItems (n : LineNo) (o d : Bool) (hits digits : Nat) (on : Decoding n s) :
    Act s
      (s.modLine n fun l =>
        { l with overflowReported := o, dialSpeedReported := d, hitCount := hits, digits := digits })
  | firstDigitStops (n : LineNo) (on : Decoding n s) : Act s (stopFirstDigit n s)
  | callClears (n : LineNo) (on : Decoding n s) :
    Act s (releaseSender n (dropCall n .idle (discardQueue n s)))
  | callExpires (n : LineNo) (active : (s.line n).mode = .active)
      (running : (s.line n).firstDigit.isSome = true) : Act s (dropCall n .lockout s)
  | handOver (n : LineNo) (e : Entry) (on : Decoding n s)
      (origin : e.origin = .dialled) (owner : e.owner = none) (range : e.inRange = true) :
    Act s (handOver n e s).1
  | gatherSatisfied (n : LineNo) (active : (s.line n).mode = .active)
      (running : (s.line n).queue.gatherTimer.isSome = true) : Act s (satisfyGather n s)
  | recallBreakEnds (n : LineNo) (start : Tick) (active : (s.line n).mode = .active)
      (running : (s.line n).queue.execution = .recallBreak start) : Act s (endRecallBreak n s)
  | executionFinishes (n : LineNo) (active : (s.line n).mode = .active)
      (running : (s.line n).queue.execution ≠ .none)
      (on : ∀ t, (s.line n).queue.execution ≠ .recallBreak t) : Act s (executionFinished n s)
  | examine (n : LineNo) : Act s (examineHead n s)
  | grant : Act s (grantOnce s)
  | toneEnds (k : SenderNo) (b : Binding) (h : s.sender k = some b) :
    Act s
      (s.setSender k
        (some { b with phase := .gap, countdown := b.tone.offMs * 8, started := false }))
  | gapEnds (k : SenderNo) : Act s (gapEnds k s)
  | opens (n : LineNo) (p : ProfileNo) (pol : Polarity) (a : AdoptedSet)
      (out : (s.line n).mode = .out) (ha : (s.profile p).adopted = some a) :
    Act s (s.setLine n ((s.line n).opened p pol a s.clock))
  | goesOut (n : LineNo) (inService : (s.line n).mode ≠ .out) :
    Act s
      (releaseSender n
        ((discardQueue n s).setLine n (Line.outOfService ((discardQueue n s).line n).raw)))
  | adopts (p : ProfileNo) (raw : List Nat) (hlen : raw.length = 23)
      (accepted : profileRefusal raw = none) :
    Act s
      (s.setProfile p
        { adopted := some (adoptedSet raw (nextGeneration (s.profile p).generation))
          generation := nextGeneration (s.profile p).generation })
  | credits (n : LineNo) (k : Nat) (order : Option OrderRecord)
      (active : (s.line n).mode = .active) (held : (s.line n).discipline = .held) (hk : 1 ≤ k)
      (begun : order = (s.line n).queue.order ∨ (s.line n).queue.entries ≠ []) :
    Act s
      (s.modQueue n fun q => { q with credit := releaseCredit k q, order := order })
  | injects (n : LineNo) (new : List Entry) (order : Option OrderRecord)
      (active : (s.line n).mode = .active)
      (room : (s.line n).queue.entries.length + new.length ≤ queueRoom)
      (origin : ∀ e ∈ new, e.origin = .ordered) (range : ∀ e ∈ new, e.inRange = true) :
    Act s
      ((stopFirstDigit n s).modQueue n fun q =>
        { q with entries := q.entries ++ new, order := order })
  | flushes (n : LineNo) (inService : (s.line n).mode ≠ .out) : Act s (flushQueue n s)
  | releaseWithdrawn (n : LineNo) :
    Act s (examineHead n (endQueueOrder n .cancelled (s.modQueue n fun q => { q with credit := 0 })))
  | injectWithdrawn (n : LineNo) (slot : SlotNo) :
    Act s (examineHead n (endQueueOrder n .cancelled (s.modQueue n (·.dropOwned slot))))

/-- The acts of one event. -/
abbrev Acts : State → State → Prop := Relation.ReflTransGen Act

theorem Act.acts (h : Act s t) : Acts s t := .single h

theorem Acts.refl : Acts s s := Relation.ReflTransGen.refl

theorem Acts.keeps {p : State → Prop} (hp : ∀ s t, Act s t → p s → p t) (h : Acts s t)
    (hs : p s) : p t := by
  induction h with
  | refl => exact hs
  | tail _ last ih => exact hp _ _ last ih

/-! ### Acts aside -/

theorem Reports.aside (moves : Moves s t) (h : Reports s t) : Aside s t := by
  obtain ⟨-, -, -, -, lines, profiles, senders, waitList, -⟩ := h.keeps
  exact ⟨moves, lines, profiles, senders, waitList⟩

theorem Answers.aside (moves : Moves s t) (h : Answers s t) : Aside s t := by
  obtain ⟨-, -, -, -, lines, profiles, senders, waitList, -⟩ := h.keeps
  exact ⟨moves, lines, profiles, senders, waitList⟩

theorem capture_acts (kind : RecordKind) (n : LineNo) {body : List Word} (h1 : 1 ≤ body.length)
    (h4 : body.length ≤ 4) (s : State) : Acts s (capture kind n body s) :=
  (Act.aside ((capture_reports kind n body s).aside (capture_moves kind n h1 h4 s))).acts

theorem reportFault_acts (kind : FaultKind) (n : LineNo) (d : Nat) (s : State) :
    Acts s (reportFault kind n d s) :=
  (Act.aside ((reportFault_reports kind n d s).aside (reportFault_moves kind n d s))).acts

theorem completeOrder_acts (slot : SlotNo) (code : ResultCode) (d : Nat) (s : State) :
    Acts s (completeOrder slot code d s) :=
  (Act.aside ((completeOrder_answers slot code d s).aside (completeOrder_moves slot code d s))).acts

theorem writeOutcome_acts (slot : SlotNo) (code : ResultCode) (d : Nat) (w : Word) (s : State) :
    Acts s (writeOutcome slot code d w s) :=
  (Act.aside ((writeOutcome_answers slot code d w s).aside
    (writeOutcome_moves slot code d w s))).acts

theorem refuse_acts (slot : SlotNo) (code : ResultCode) (d : Nat) (s : State) :
    Acts s (refuse slot code d s) := writeOutcome_acts _ _ _ _ s

theorem finishNow_acts (slot : SlotNo) (code : ResultCode) (d : Nat) (s : State) :
    Acts s (finishNow slot code d s) := writeOutcome_acts _ _ _ _ s

theorem accept_acts {slot : SlotNo} {kind : HeldKind} {line : Option LineNo} {c : OrderCopy}
    (free : s.slotHeld slot = false)
    (lineFree : kind.perLine = true → ∃ n, line = some n ∧ lineHolder s n = none)
    (target : kind = .mark → inHostArea c.p0 0 = true) :
    Acts s (accept slot kind line c s) :=
  (Act.aside ((accept_answers slot kind line c s).aside
    (accept_moves free lineFree target))).acts

/-! ### Two changes of one line -/

theorem State.setLine_setLine (s : State) (n : LineNo) (l l' : Line) :
    (s.setLine n l).setLine n l' = s.setLine n l' := by
  simp [State.setLine]

theorem State.modLine_modLine (s : State) (n : LineNo) (f g : Line → Line) :
    (s.modLine n f).modLine n g = s.modLine n fun l => g (f l) := by
  unfold State.modLine
  rw [State.setLine_line_same, State.setLine_setLine]

/-! ### The acts as moves -/

theorem active_ne_out {l : Line} (h : l.mode = .active) : l.mode ≠ .out := by rw [h]; decide

/-- A service move that stands in the items it may not touch. -/
theorem ServiceMove.of_same {l l' : Line} (inService : l.mode ≠ .out) (stays : l'.mode ≠ .out)
    (scan : l'.scan = l.scan := by rfl) (estimator : l'.estimator = l.estimator := by rfl)
    (ctx : l'.decoder.ctx = l.decoder.ctx ∨ l'.decoder.ctx = none := by exact .inl rfl)
    (queue : QueueMove l l'.queue := by exact .refl _) : ServiceMove l l' :=
  ⟨inService, stays, scan, estimator, ctx, queue⟩

theorem takeSample_moves (n : LineNo) (high : Bool) (s : State) :
    Moves s (takeSample n high s).1 := by
  unfold takeSample
  dsimp only
  split
  · next h => exact (Move.scanBus _).moves.tail (.line n _ (.unscanned high h))
  · next sc h => exact (Move.scanBus _).moves.tail (.line n _ (.scanned high sc _ h))

theorem startTrain_moves (n : LineNo) (stamp : Tick) (s : State)
    (inService : (s.line n).mode ≠ .out) : Moves s (startTrain n stamp s) := by
  unfold startTrain
  split
  · next a e ha he =>
    have move := Move.line n _ (.train a e (interDigit (e.trainStart a).p16 a) stamp inService ha he)
    rw [State.modDecoder, State.modEstimator, State.modLine_modLine]
    unfold State.modLine
    simp only [he, Option.map_some]
    exact move.moves
  · exact .refl

theorem modEstimator_moves {f : Estimator → Estimator}
    (h : ∀ e ∈ (s.line n).estimator, EstimateMove (s.line n) e (f e)) :
    Moves s (s.modEstimator n f) := (Move.line n _ (.estimate f h)).moves

theorem EstimateMove.of_p16 {l : Line} {e e' : Estimator} (h : e'.p16 = e.p16) :
    EstimateMove l e e' := .inl h

theorem trainWithoutDigit_moves (n : LineNo) (s : State) : Moves s (trainWithoutDigit n s) :=
  modEstimator_moves fun _ _ => .of_p16 rfl

theorem dropCall_moves (n : LineNo) (mode : LineMode) (s : State)
    (inService : (s.line n).mode ≠ .out) (out : mode ≠ .out) : Moves s (dropCall n mode s) := by
  refine (trainWithoutDigit_moves n s).trans (modLine_service (.of_same ?_ out (ctx := .inr rfl)))
  rw [trainWithoutDigit, State.modEstimator_line_same]
  exact inService

theorem QueueMove.dropOrder (l : Line) : QueueMove l l.queue.dropOrder where
  entries _ he := .inl he
  room := le_max_left _ _
  flight f hf := by
    obtain ⟨g, hg, rfl⟩ := Option.mem_map.mp hf
    exact .inr ⟨g, hg, rfl⟩
  bare _ h := by rw [h]; rfl

theorem endQueueOrder_moves (n : LineNo) (code : ResultCode) (s : State) :
    Moves s (endQueueOrder n code s) := by
  have dropped : Moves s (s.modQueue n QueueUnit.dropOrder) := modQueue_moves (.dropOrder _)
  unfold endQueueOrder
  dsimp only
  split
  · exact dropped.trans (completeOrder_moves _ _ _ _)
  · exact dropped

theorem discardQueue_moves (n : LineNo) (s : State) : Moves s (discardQueue n s) :=
  ((withdrawRequest_moves n s).trans (endQueueOrder_moves n _ _)).trans (modQueue_moves (.empty _))

theorem releaseSender_moves (n : LineNo) (s : State) : Moves s (releaseSender n s) := by
  unfold releaseSender
  split
  · exact (Move.sender _ none .freed).moves.trans (grantOnce_moves _)
  · exact .refl

theorem startRecall_moves (n : LineNo) (s : State) (inService : (s.line n).mode ≠ .out) :
    Moves s (startRecall n s) := by
  have mode : ((s.modLine n Line.leaveHead).line n).mode ≠ .out := by
    rw [State.modLine_line_same, (Line.leaveHead_queueOnly _).sendOnly.mode]; exact inService
  refine (Line.leaveHead_moves n s).trans (modLine_service ?_)
  exact .of_same mode mode
    (queue := .of_entries rfl (.inl rfl) fun out => absurd out mode)

theorem modQueue_service_moves {f : QueueUnit → QueueUnit} (inService : (s.line n).mode ≠ .out)
    (entries : (f (s.line n).queue).entries = (s.line n).queue.entries)
    (flight : (f (s.line n).queue).flight = (s.line n).queue.flight ∨
      (f (s.line n).queue).flight = none) : Moves s (s.modQueue n f) :=
  modQueue_moves (.of_entries entries flight fun out => absurd out inService)

theorem startPause_moves (n : LineNo) (s : State) (inService : (s.line n).mode ≠ .out) :
    Moves s (startPause n s) := by
  refine (Line.leaveHead_moves n s).trans (modQueue_service_moves ?_ rfl (.inl rfl))
  rw [State.modLine_line_same, (Line.leaveHead_queueOnly _).sendOnly.mode]; exact inService

theorem withdrawRequest_mode (n : LineNo) (s : State) (m : LineNo) :
    ((withdrawRequest n s).line m).mode = (s.line m).mode :=
  (withdrawRequest_queueOnly n s m).sendOnly.mode

theorem Line.active_of_toneReady {l : Line} (h : l.toneReady = true) : l.mode = .active := by
  simp only [Line.toneReady, Bool.and_eq_true, decide_eq_true_eq] at h
  exact h.1.1

theorem Examination.moves (ex : Examination n s t) : Moves s t := by
  have withdrawn := withdrawRequest_moves n s
  cases ex with
  | stands | waits => exact .refl
  | posts ready => exact postRequest_moves n s (Line.active_of_toneReady ready)
  | withdraws => exact withdrawn
  | recalls _ _ active =>
    exact withdrawn.trans
      (startRecall_moves n _ (active_ne_out ((withdrawRequest_mode n s n).trans active)))
  | pauses _ _ _ active =>
    exact withdrawn.trans
      (startPause_moves n _ (active_ne_out ((withdrawRequest_mode n s n).trans active)))

theorem examineHead_moves (n : LineNo) (s : State) : Moves s (examineHead n s) :=
  (examineHead_examination n s).moves

theorem QueueMove.appendDialled {l : Line} {e : Entry} (inService : l.mode ≠ .out)
    (room : l.hasRoom = true) (range : e.inRange = true) :
    QueueMove l (l.appendDialled e).queue := by
  have appended : (l.appendDialled e).queue.entries = l.queue.entries ++ [e] ∧
      (l.appendDialled e).queue.flight = l.queue.flight := by
    unfold Line.appendDialled
    dsimp only
    split
    · split <;> exact ⟨rfl, rfl⟩
    all_goals exact ⟨rfl, rfl⟩
  obtain ⟨entries, flight⟩ := appended
  have room : l.queue.entries.length < 24 := of_decide_eq_true room
  refine ⟨fun x hx => ?_, ?_, fun f hf => .inr ⟨f, flight ▸ hf, rfl⟩,
    fun out => absurd out inService⟩
  · obtain old | rfl := (List.mem_append.mp (entries ▸ hx)).imp_right List.mem_singleton.mp
    · exact .inl old
    · exact .inr range
  · rw [entries, List.length_append, List.length_singleton]; omega

theorem Line.restartGather_entries (l : Line) :
    l.restartGather.queue.entries = l.queue.entries ∧
      l.restartGather.queue.flight = l.queue.flight := by
  unfold Line.restartGather
  split
  · split <;> exact ⟨rfl, rfl⟩
  all_goals exact ⟨rfl, rfl⟩

theorem modLine_queueOnly_moves {f : Line → Line} (only : QueueOnly (s.line n) (f (s.line n)))
    (h : QueueMove (s.line n) (f (s.line n)).queue) : Moves s (s.modLine n f) := by
  have move := Move.line n _ (.queue _ h)
  rw [← show f (s.line n) = _ from only] at move
  exact move.moves

theorem stopFirstDigit_moves (n : LineNo) (s : State) (inService : (s.line n).mode ≠ .out) :
    Moves s (stopFirstDigit n s) :=
  modLine_service (.of_same inService inService)

theorem restartGather_moves (n : LineNo) (s : State) (inService : (s.line n).mode ≠ .out) :
    Moves s (s.modLine n Line.restartGather) := by
  obtain ⟨entries, flight⟩ := (s.line n).restartGather_entries
  exact modLine_queueOnly_moves (Line.restartGather_queueOnly _)
    (.of_entries entries (.inl flight) fun out => absurd out inService)

theorem reportOverflow_moves (n : LineNo) (e : Entry) (s : State)
    (inService : (s.line n).mode ≠ .out) : Moves s (reportOverflow n e s) := by
  unfold reportOverflow
  split
  · exact .refl
  · refine (reportFault_moves _ n _ s).trans (modLine_service (.of_same ?_ ?_)) <;>
      rw [(reportFault_reports _ _ _ _).line] <;> exact inService

theorem handOver_moves (n : LineNo) (e : Entry) (s : State) (inService : (s.line n).mode ≠ .out)
    (range : e.inRange = true) : Moves s (handOver n e s).1 := by
  have mode : ((s.modLine n Line.restartGather).line n).mode ≠ .out := by
    rw [State.modLine_line_same, (Line.restartGather_queueOnly _).sendOnly.mode]; exact inService
  unfold handOver
  dsimp only
  refine (restartGather_moves n s inService).trans ?_
  split
  · next room =>
    refine Relation.ReflTransGen.trans
      (b := (s.modLine n Line.restartGather).modLine n fun l => l.appendDialled e)
      (modLine_queueOnly_moves (Line.appendDialled_queueOnly _ e) (.appendDialled mode ?_ range)) ?_
    · rw [State.modLine_line_same]
      simpa [Line.hasRoom, (s.line n).restartGather_entries.1] using room
    · refine (stopFirstDigit_moves n _ ?_).trans (examineHead_moves n _)
      rw [State.modLine_line_same, (Line.appendDialled_queueOnly _ e).sendOnly.mode]; exact mode
  · exact reportOverflow_moves n e _ mode

theorem satisfyGather_moves (n : LineNo) (s : State) (inService : (s.line n).mode ≠ .out) :
    Moves s (satisfyGather n s) :=
  (modQueue_service_moves inService rfl (.inl rfl)).trans (examineHead_moves n _)

theorem finishFlight_moves (n : LineNo) (s : State) : Moves s (finishFlight n s) := by
  have cleared : Moves s (s.modQueue n fun q => { q with flight := none }) :=
    modQueue_moves (.of_entries rfl (.inr rfl) fun _ h => by rw [h]; rfl)
  unfold finishFlight
  dsimp only
  split
  · next r _ order =>
    have occupied : ((s.modQueue n fun q => { q with flight := none }).line n).queue ≠ .empty := by
      intro h
      rw [State.modQueue_line_same] at h
      have none : (s.line n).queue.order = none := congrArg (fun q : QueueUnit => q.order) h
      exact nomatch order.symm.trans none
    have ordered := cleared.trans (modQueue_moves (n := n) (f := fun q => { q with order := r.finish.1 })
      (.of_entries rfl (.inl rfl) fun _ h => absurd h occupied))
    split
    · exact ordered.trans (completeOrder_moves _ _ _ _)
    · exact ordered
  · exact cleared

theorem executionFinished_moves (n : LineNo) (s : State) (inService : (s.line n).mode ≠ .out) :
    Moves s (executionFinished n s) :=
  ((modQueue_service_moves inService rfl (.inl rfl)).trans (finishFlight_moves n _)).trans
    (examineHead_moves n _)

theorem gapEnds_moves (k : SenderNo) (s : State) : Moves s (gapEnds k s) := by
  unfold gapEnds
  split
  · exact .refl
  · next b _ =>
    dsimp only
    refine (finishFlight_moves b.line s).trans ?_
    split
    · exact bindSender_moves k b.line _
    · exact ((Move.sender k none .freed).moves.trans (examineHead_moves b.line _)).trans
        (grantOnce_moves _)

theorem QueueMove.sublist {l : Line} {q : QueueUnit} (entries : q.entries.Sublist l.queue.entries)
    (flight : q.flight = l.queue.flight)
    (bare : l.mode = .out → l.queue = .empty → q = .empty) : QueueMove l q where
  entries _ he := .inl (entries.subset he)
  room := entries.length_le.trans (le_max_left _ _)
  flight f hf := .inr ⟨f, flight ▸ hf, rfl⟩
  bare := bare

theorem flushQueue_moves (n : LineNo) (s : State) : Moves s (flushQueue n s) := by
  refine ((withdrawRequest_moves n s).trans (endQueueOrder_moves n _ _)).trans (modQueue_moves ?_)
  exact .sublist (List.nil_sublist _) rfl fun _ h => by rw [h]; rfl

/-- Every act is a chain of moves. -/
theorem Act.moves (h : Act s t) : Moves s t := by
  cases h with
  | aside h => exact h.moves
  | sample n high => exact takeSample_moves n high s
  | timers n => exact (Move.line n _ .timers).moves.tail (.waitList _)
  | requests f => exact (Move.waitList _).moves
  | resting n mode z out _ out' => exact modLine_service (.of_same out out')
  | seized n a seizing =>
    refine modLine_service (.of_same ?_ nofun (ctx := .inr rfl) (queue := .empty _))
    rw [seizing]; decide
  | train n stamp on => exact startTrain_moves n stamp s on.inService
  | decoder n f on ctx =>
    exact modLine_service (.of_same on.inService on.inService (ctx := ctx _))
  | estimate n f h => exact modEstimator_moves h
  | callItems n o d hits digits on => exact modLine_service (.of_same on.inService on.inService)
  | firstDigitStops n on => exact stopFirstDigit_moves n s on.inService
  | callClears n on =>
    refine ((discardQueue_moves n s).trans (dropCall_moves n .idle _ ?_ (by decide))).trans
      (releaseSender_moves n _)
    rw [(discardQueue_queueOnly n s n).sendOnly.mode]; exact on.inService
  | callExpires n active => exact dropCall_moves n .lockout s (active_ne_out active) (by decide)
  | handOver n e on _ _ range => exact handOver_moves n e s on.inService range
  | gatherSatisfied n active => exact satisfyGather_moves n s (active_ne_out active)
  | recallBreakEnds n _ active =>
    exact modLine_service (.of_same (active_ne_out active) (active_ne_out active)
      (queue := .of_entries rfl (.inl rfl) fun out => absurd out (active_ne_out active)))
  | executionFinishes n active => exact executionFinished_moves n s (active_ne_out active)
  | examine n => exact examineHead_moves n s
  | grant => exact grantOnce_moves s
  | toneEnds k b h => exact (Move.sender k _ (.gap b h)).moves
  | gapEnds k => exact gapEnds_moves k s
  | opens n p pol a _ ha => exact (Move.line n _ (.opened p pol a ha)).moves
  | goesOut n =>
    exact ((discardQueue_moves n s).tail (.line n _ .out)).trans (releaseSender_moves n _)
  | adopts p raw hlen accepted => exact (Move.adopt p raw hlen accepted).moves
  | credits n k order active => exact modQueue_service_moves (active_ne_out active) rfl (.inl rfl)
  | injects n new order active room _ range =>
    refine (stopFirstDigit_moves n s (active_ne_out active)).trans (modQueue_moves ?_)
    rw [stopFirstDigit_line_same]
    refine ⟨fun e he => ?_, ?_, fun f hf => .inr ⟨f, hf, rfl⟩,
      fun out => absurd out (active_ne_out active)⟩
    · exact (List.mem_append.mp he).imp_right (range e)
    · rw [List.length_append]; exact room.trans (le_max_right _ _)
  | flushes n => exact flushQueue_moves n s
  | releaseWithdrawn n =>
    refine Relation.ReflTransGen.trans (Relation.ReflTransGen.trans (modQueue_moves ?_)
      (endQueueOrder_moves n _ _)) (examineHead_moves n _)
    exact .of_entries rfl (.inl rfl) fun _ h => by rw [h]; rfl
  | injectWithdrawn n slot =>
    refine Relation.ReflTransGen.trans (Relation.ReflTransGen.trans (modQueue_moves ?_)
      (endQueueOrder_moves n _ _)) (examineHead_moves n _)
    exact .sublist List.filter_sublist rfl fun _ h => by rw [h]; rfl

theorem Acts.moves (h : Acts s t) : Moves s t := by
  induction h with
  | refl => exact .refl
  | tail _ last ih => exact ih.trans last.moves

end Sys2Proof.Machine
end

section
/-! What a command does: every command but the two of a pin reset is a chain of stages, each an event of the part with what
it shows, a change beside the lines and the store, or a word that the host writes. -/

namespace Sys2Proof.Machine

variable {s t u : State} {n : LineNo}

/-! ### The line tick -/

/-- Acts on a line that its decoder works for, behind which it still does. -/
def Serves (n : LineNo) (s t : State) : Prop := Decoding n s → Acts s t ∧ Decoding n t

theorem Serves.trans (h : Serves n s t) (k : Serves n t u) : Serves n s u := fun on =>
  have ⟨first, on⟩ := h on
  have ⟨second, on⟩ := k on
  ⟨first.trans second, on⟩

theorem Serves.refl (n : LineNo) (s : State) : Serves n s s := fun on => ⟨.refl, on⟩

theorem Serves.of_acts (h : Acts s t) (line : t.line n = s.line n) (profiles : t.profiles = s.profiles) :
    Serves n s t :=
  fun on => ⟨h, on.of_same (by rw [line]) (by rw [line]) profiles⟩

/-- An act that changes one line in other items than its mode and profile. -/
theorem Serves.of_act {f : Line → Line} (h : Decoding n s → Act s (s.modLine n f))
    (mode : (f (s.line n)).mode = (s.line n).mode := by rfl)
    (profile : (f (s.line n)).profile = (s.line n).profile := by rfl) :
    Serves n s (s.modLine n f) :=
  fun on => ⟨(h on).acts,
    on.of_same (by rw [State.modLine_line_same, mode]) (by rw [State.modLine_line_same, profile]) rfl⟩

theorem LineWork.profiles (h : LineWork s t) : t.profiles = s.profiles := by
  obtain ⟨-, -, -, -, profiles, -⟩ := h.keeps; exact profiles

theorem modDecoder_serves (n : LineNo) (f : Decoder → Decoder)
    (s : State) (ctx : ∀ d, (f d).ctx = d.ctx ∨ (f d).ctx = none := by exact fun _ => .inl rfl) :
    Serves n s (s.modDecoder n f) :=
  .of_act fun on => .decoder n f on ctx

theorem modEstimator_serves {f : Estimator → Estimator}
    (h : ∀ e ∈ (s.line n).estimator, EstimateMove (s.line n) e (f e)) :
    Serves n s (s.modEstimator n f) :=
  .of_act fun _ => .estimate n f h

theorem trainWithoutDigit_serves (n : LineNo) (s : State) : Serves n s (trainWithoutDigit n s) :=
  modEstimator_serves fun _ _ => .of_p16 rfl

theorem callItems_serves (n : LineNo) (o d : Bool) (hits digits : Nat) (s : State) :
    Serves n s
      (s.modLine n fun l =>
        { l with overflowReported := o, dialSpeedReported := d, hitCount := hits, digits := digits }) :=
  .of_act fun on => .callItems n o d hits digits on

theorem raiseHits_serves (n : LineNo) (s : State) : Serves n s (raiseHits n s) :=
  callItems_serves n (s.line n).overflowReported (s.line n).dialSpeedReported
    (saturate 255 (s.line n).hitCount) (s.line n).digits s

theorem abandonTrain_serves (n : LineNo) (s : State) : Serves n s (abandonTrain n s) :=
  (trainWithoutDigit_serves n s).trans (modDecoder_serves n _ _ fun _ => .inr rfl)

theorem stopFirstDigit_serves (n : LineNo) (s : State) : Serves n s (stopFirstDigit n s) :=
  .of_act fun on => .firstDigitStops n on

theorem capture_serves (kind : RecordKind) (n : LineNo) {body : List Word} (h1 : 1 ≤ body.length)
    (h4 : body.length ≤ 4) (s : State) : Serves n s (capture kind n body s) :=
  .of_acts (capture_acts kind n h1 h4 s) (capture_line kind n body s n)
    (capture_reports kind n body s).lineWork.profiles

theorem handOver_serves (n : LineNo) {e : Entry} (origin : e.origin = .dialled)
    (owner : e.owner = none) (range : e.inRange = true) (s : State) :
    Serves n s (handOver n e s).1 :=
  fun on => ⟨(Act.handOver n e on origin owner range).acts,
    on.of_same (handOver_mode n e s) (handOver_profile n e s) (handOver_work n e s).profiles⟩

theorem startTrain_serves (n : LineNo) (stamp : Tick) (s : State) :
    Serves n s (startTrain n stamp s) := by
  intro on
  refine ⟨(Act.train n stamp on).acts, ?_⟩
  unfold startTrain
  split
  · refine on.of_same ?_ ?_ rfl <;> rw [State.modDecoder_line_same, State.modEstimator_line_same]
  · exact on

theorem flash_serves (n : LineNo) (b : Nat) (s : State) : Serves n s (flash n b s) :=
  ((abandonTrain_serves n s).trans (handOver_serves n rfl rfl rfl _)).trans
    (capture_serves .flash n (by simp [flashBody]) (by simp [flashBody]) _)

theorem longBreak_serves (n : LineNo) (s : State) : Serves n s (longBreak n s) :=
  (capture_serves .mutilated n (by simp [mutilatedBody]) (by simp [mutilatedBody]) s).trans
    (abandonTrain_serves n _)

theorem completePeriod_serves (n : LineNo) (s : State) : Serves n s (completePeriod n s) := by
  unfold completePeriod
  dsimp only
  split
  · have added := modDecoder_serves n
      (·.addPeriod
        (since ((s.line n).decoder.breakStart.getD 0) ((s.line n).decoder.countedBreakStart.getD 0))
        ((s.line n).decoder.candidateMake.getD 0)) s
    split
    · next c hc =>
      refine added.trans (modEstimator_serves fun e _ => ?_)
      unfold Estimator.period
      split
      · refine .inr ⟨c, ?_, _, rfl⟩
        rw [State.modDecoder_line_same]
        exact hc
      all_goals exact .of_p16 rfl
    · exact added
  · exact .refl n s

theorem countPulse_serves (n : LineNo) (s : State) : Serves n s (countPulse n s) := by
  unfold countPulse
  exact ((completePeriod_serves n s).trans (stopFirstDigit_serves n _)).trans
    (modDecoder_serves n _ _)

theorem learnFromTrain_serves (n : LineNo) (s : State) : Serves n s (learnFromTrain n s) := by
  unfold learnFromTrain
  dsimp only
  split
  · exact .refl n s
  · split
    · next c _ _ hc =>
      split
      · have taught := modEstimator_serves (s := s) (n := n)
          (f := (·.learnValue (learnedP16 (s.line n).decoder c))) fun _ _ => .inr ⟨c, hc, _, rfl⟩
        exact taught.trans (.of_acts (completeOrder_acts _ _ _ _) (completeOrder_line _ _ _ _ n)
          (completeOrder_answers _ _ _ _).lineWork.profiles)
      · exact trainWithoutDigit_serves n s
    · exact trainWithoutDigit_serves n s

theorem reportDialSpeed_serves (n : LineNo) (mean : Nat) (s : State) :
    Serves n s (reportDialSpeed n mean s) := by
  unfold reportDialSpeed
  split
  · exact .refl n s
  · have report := reportFault_reports .dialSpeed n mean s
    refine Serves.trans
      (.of_acts (reportFault_acts .dialSpeed n mean s) (report.line n) report.lineWork.profiles) ?_
    exact callItems_serves n _ true _ _ _

theorem mapDigit_lt {m : DigitMap} {count digit : Nat} (h : mapDigit m count = some digit) :
    digit < 16 := by
  unfold mapDigit at h
  split at h
  · cases h
  · next valid =>
    cases m <;> simp only [Option.some.injEq] at h <;> subst h <;> (try split) <;> omega

theorem digitEnds_serves (n : LineNo) (digit : Nat) (c : TrainContext) (s : State)
    (range : digit < 16) : Serves n s (digitEnds n digit c s) := by
  have record (off hits lost : Bool) (count p16 : Nat) (stats : Option (Nat × Nat)) :
      1 ≤ (digitBody digit count off hits lost p16 stats).length ∧
        (digitBody digit count off hits lost p16 stats).length ≤ 4 := by
    cases stats <;> simp [digitBody]
  have taken (u : State) :
      Serves n u
        (u.modLine n fun l => { l with digits := saturate 65535 l.digits, decoder := .atRest }) := by
    have both := (callItems_serves n (u.line n).overflowReported (u.line n).dialSpeedReported
      (u.line n).hitCount (saturate 65535 (u.line n).digits) u).trans
        (modDecoder_serves n (fun _ => .atRest) _ fun _ => .inr rfl)
    rwa [State.modDecoder, State.modLine_modLine] at both
  unfold digitEnds
  dsimp only
  refine Serves.trans ?_ (capture_serves .digit n (record ..).1 (record ..).2 _)
  refine Serves.trans ?_ (handOver_serves n rfl rfl (by simpa [dialledTone, Entry.inRange] using range) _)
  refine Serves.trans ?_ (taken _)
  split
  · exact (learnFromTrain_serves n s).trans (reportDialSpeed_serves n _ _)
  · exact learnFromTrain_serves n s

theorem endTrain_serves (n : LineNo) (s : State) : Serves n s (endTrain n s) := by
  unfold endTrain
  dsimp only
  split
  · exact .refl n s
  · split
    · next hd => exact digitEnds_serves n _ _ s (mapDigit_lt hd)
    · exact (capture_serves .mutilated n (by simp [mutilatedBody]) (by simp [mutilatedBody]) s).trans
        (abandonTrain_serves n _)

theorem clearCall_acts (n : LineNo) (s : State) (on : Decoding n s) :
    Acts s (clearCall n s) :=
  (Act.callClears n on).acts.trans
    (capture_acts .clear n (by simp [clearBody]) (by simp [clearBody]) _)

theorem breakTest_acts (n : LineNo) (s : State) (on : Decoding n s) :
    Acts s (breakTest n s).state := by
  unfold breakTest
  dsimp only
  split
  · exact clearCall_acts n s on
  · exact .refl

theorem makeTest_serves (n : LineNo) (s : State) : Serves n s (makeTest n s).state := by
  unfold makeTest
  dsimp only
  split
  · split
    · exact countPulse_serves n s
    · exact .refl n s
  · split
    · exact endTrain_serves n s
    · exact .refl n s

theorem clearCall_mode (n : LineNo) (s : State) : ((clearCall n s).line n).mode = .idle := by
  unfold clearCall
  dsimp only
  rw [capture_line, (releaseSender_queueOnly n _ n).sendOnly.mode]
  unfold dropCall
  rw [State.modLine_line_same]

theorem hitInMake_serves (n : LineNo) (s : State) : Serves n s (hitInMake n s) := by
  unfold hitInMake
  exact (raiseHits_serves n s).trans (modDecoder_serves n _ _)

theorem candidatePulse_serves (n : LineNo) (stamp : Tick) (s : State) :
    Serves n s (candidatePulse n stamp s) := by
  unfold candidatePulse
  exact modDecoder_serves n _ s

theorem absorbMake_serves (n : LineNo) (s : State) : Serves n s (absorbMake n s) := by
  unfold absorbMake
  exact (raiseHits_serves n s).trans (modDecoder_serves n _ _)

theorem nextBreak_serves (n : LineNo) (stamp : Tick) (s : State) :
    Serves n s (nextBreak n stamp s) := by
  unfold nextBreak
  exact modDecoder_serves n _ s

theorem breakEnds_acts (n : LineNo) (stamp : Tick) (s : State)
    (on : Decoding n s) : Acts s (breakEnds n stamp s).state := by
  unfold breakEnds
  dsimp only
  split
  · split
    · exact ((raiseHits_serves n s).trans (abandonTrain_serves n _) on).1
    · exact ((hitInMake_serves n s).trans (makeTest_serves n _) on).1
  · split
    · exact ((candidatePulse_serves n stamp s).trans (makeTest_serves n _) on).1
    · split
      · unfold quietly
        dsimp only
        split
        · exact (flash_serves n _ s on).1
        · exact (longBreak_serves n s on).1
      · have idle := clearCall_mode n s
        refine (clearCall_acts n s on).tail (.resting n .seizing _ ?_ ?_ nofun nofun) <;>
          rw [idle] <;> decide

theorem openInMake_acts (n : LineNo) (stamp : Tick) (s : State)
    (on : Decoding n s) : Acts s (openInMake n stamp s).state := by
  unfold openInMake
  dsimp only
  split
  · obtain ⟨acts, on⟩ := nextBreak_serves n stamp s on
    exact acts.trans (breakTest_acts n _ on)
  · obtain ⟨acts, on⟩ := (endTrain_serves n s).trans (startTrain_serves n stamp _) on
    exact acts.trans (breakTest_acts n _ on)

/-- One line tick of the decoder of an ACTIVE line. -/
theorem decodeTick_acts (n : LineNo) (edge : Option Edge) (s : State)
    (on : Decoding n s) : Acts s (decodeTick n edge s).state := by
  unfold decodeTick
  dsimp only
  split
  · obtain ⟨acts, on⟩ := startTrain_serves n _ s on
    exact acts.trans (breakTest_acts n _ on)
  · exact .refl
  · exact breakEnds_acts n _ s on
  · exact breakTest_acts n s on
  · split
    · split
      · obtain ⟨acts, on⟩ := absorbMake_serves n s on
        exact acts.trans (breakTest_acts n _ on)
      · obtain ⟨acts, on⟩ := countPulse_serves n s on
        exact acts.trans (openInMake_acts n _ _ on)
    · exact openInMake_acts n _ s on
  · exact (makeTest_serves n s on).1

theorem resting_acts (n : LineNo) (mode : LineMode) (z : Option Seizure) (s : State)
    (out : (s.line n).mode ≠ .out := by simp [*]) (active : (s.line n).mode ≠ .active := by simp [*])
    (out' : mode ≠ .out := by decide) (active' : mode ≠ .active := by decide) :
    Acts s (s.modLine n fun l => { l with mode := mode, seizure := z }) :=
  (Act.resting n mode z out active out' active').acts

theorem completeSeizure_acts (n : LineNo) (s : State) (seizing : (s.line n).mode = .seizing) :
    Acts s (completeSeizure n s) := by
  unfold completeSeizure
  split
  · next a _ =>
    exact (Act.seized n a seizing).acts.trans
      (capture_acts .seize n (by simp [seizeBody]) (by simp [seizeBody]) _)
  · exact .refl

/-- A completed seizure leaves the line to its decoder. -/
theorem completeSeizure_decoding (n : LineNo) (s : State) (seizing : (s.line n).mode = .seizing) :
    Decoding n (completeSeizure n s) := by
  unfold completeSeizure
  split
  · left
    rw [capture_line, State.modLine_line_same]
    rfl
  · next none => exact .inr ⟨by rw [seizing]; decide, none⟩

theorem seizingTick_acts (n : LineNo) (edge : Option Edge) (s : State)
    (seizing : (s.line n).mode = .seizing) : Acts s (seizingTick n edge s).state := by
  unfold seizingTick
  split
  · exact .refl
  · split
    · split
      · exact resting_acts n .idle none s
      · exact (completeSeizure_acts n s seizing).trans
          (decodeTick_acts n _ _ (completeSeizure_decoding n s seizing))
    · split
      · exact completeSeizure_acts n s seizing
      · exact .refl

theorem lockoutTick_acts (n : LineNo) (s : State) (lockout : (s.line n).mode = .lockout) :
    Acts s (lockoutTick n s).state := by
  unfold lockoutTick
  split
  · split
    · exact resting_acts n .idle (s.line n).seizure s
    · exact .refl
  · exact .refl

/-- What the supervisor and the decoder do at a line tick. -/
theorem superviseTick_acts (n : LineNo) (edge : Option Edge) (s : State) :
    Acts s (superviseTick n edge s).state := by
  unfold superviseTick
  split
  · exact .refl
  · exact resting_acts n .seizing _ s
  · exact .refl
  · next seizing => exact seizingTick_acts n _ s seizing
  · next active => exact decodeTick_acts n _ s (.inl active)
  · next lockout => exact lockoutTick_acts n s lockout

theorem Ticked.andThen_acts {x : Ticked} {f : State → Ticked} (hx : Acts s x.state)
    (hf : ∀ u, Acts u (f u).state) : Acts s (x.andThen f).state :=
  hx.trans (hf x.state)

theorem firstDigitTest_acts (n : LineNo) (s : State) : Acts s (firstDigitTest n s).state := by
  unfold firstDigitTest
  split
  · next due =>
    obtain ⟨active, expired⟩ := Bool.and_eq_true_iff.mp due
    have running : (s.line n).firstDigit.isSome = true := by
      cases h : (s.line n).firstDigit <;> simp_all
    exact ((Act.callExpires n (of_decide_eq_true active) running).acts.trans
      (reportFault_acts _ n _ _)).trans
        (capture_acts .lockout n (by simp [lockoutBody]) (by simp [lockoutBody]) _)
  · exact .refl

theorem endLearn_acts (n : LineNo) (code : ResultCode) (d : Learn → Nat) (s : State) :
    Acts s (endLearn n code d s) := by
  unfold endLearn
  split
  · exact .refl
  · exact (Act.estimate n Estimator.dropLearn fun _ _ => .of_p16 rfl).acts.trans (completeOrder_acts _ _ _ _)

theorem learnTest_acts (n : LineNo) (s : State) : Acts s (learnTest n s).state := by
  unfold learnTest
  split
  · exact endLearn_acts n _ _ s
  · exact .refl

theorem expiryTests_acts (n : LineNo) (s : State) : Acts s (expiryTests n s).state := by
  unfold expiryTests
  split
  · exact Ticked.andThen_acts (learnTest_acts n s) (firstDigitTest_acts n)
  · exact Ticked.andThen_acts (firstDigitTest_acts n s) (learnTest_acts n)

theorem gatherTest_acts (n : LineNo) (s : State) : Acts s (gatherTest n s).state := by
  unfold gatherTest
  split
  · next due =>
    obtain ⟨active, expired⟩ := Bool.and_eq_true_iff.mp due
    have running : (s.line n).queue.gatherTimer.isSome = true := by
      cases h : (s.line n).queue.gatherTimer <;> simp_all
    exact (Act.gatherSatisfied n (of_decide_eq_true active) running).acts
  · exact .refl

theorem guardTest_acts (n : LineNo) (start t : Tick) (s : State)
    (active : (s.line n).mode = .active) (guard : (s.line n).queue.execution = .recallGuard t) :
    Acts s (guardTest n start s).state := by
  unfold guardTest
  split
  · exact (Act.executionFinishes n active (by simp [guard]) (by simp [guard])).acts
  · exact .refl

theorem executionTest_acts (n : LineNo) (s : State) : Acts s (executionTest n s).state := by
  unfold executionTest
  split
  · exact .refl
  · next mode =>
    have active : (s.line n).mode = .active := not_not.mp mode
    split
    · exact .refl
    · next start running =>
      split
      · refine (Act.recallBreakEnds n start active running).acts.trans
          (guardTest_acts n _ s.clock _ ?_ ?_) <;>
          unfold endRecallBreak <;> rw [State.modLine_line_same]
        exact active
      · exact .refl
    · next start running => exact guardTest_acts n start start s active running
    · next start running =>
      split
      · exact (Act.executionFinishes n active (by simp [running]) (by simp [running])).acts
      · exact .refl

theorem waitTest_acts (n : LineNo) (s : State) : Acts s (waitTest n s).state := by
  unfold waitTest
  split
  · next r _ =>
    split
    · obtain ⟨-, -, -, -, -, -, -, waitList, -⟩ :=
        (reportFault_reports .senderWait n r.age s).keeps
      show Acts s (expireWait n r s)
      unfold expireWait
      rw [← waitList]
      exact (reportFault_acts .senderWait n r.age s).tail
        (.requests _ fun x => by split <;> rfl)
    · exact .refl
  · exact .refl

theorem timerTests_acts (n : LineNo) (s : State) : Acts s (timerTests n s).state :=
  Ticked.andThen_acts
    (Ticked.andThen_acts
      (Ticked.andThen_acts (expiryTests_acts n s) (gatherTest_acts n)) (executionTest_acts n))
    (waitTest_acts n)

/-- A line tick. -/
theorem lineTickEffects_acts (n : LineNo) (high : Bool) (s : State) :
    Acts s (lineTickEffects n high s).state := by
  have sampled : Acts s (takeSample n high s).1 := (Act.sample n high).acts
  exact Ticked.andThen_acts ((sampled.tail (.timers n)).trans (superviseTick_acts n _ _))
    (timerTests_acts n)

end Sys2Proof.Machine
end

section
/-! What a command does: every command but the two of a pin reset is a chain of stages, each an event of the part with what
it shows, a change beside the lines and the store, or a word that the host writes. -/

namespace Sys2Proof.Machine

variable {s t u : State} {n : LineNo}

/-! ### The stages -/

/-- The effect of an event: acts of the units, a CLOSE with its image written, or a soft reset. -/
inductive Effect (s : State) : State → Prop
  | acts {t : State} (h : Acts s t) : Effect s t
  | closes {t : State} (n : LineNo) (slot : SlotNo) (code : ResultCode) (d : Nat) (w : Word)
      (h : Acts s t) (out : (t.line n).mode = .out) :
    Effect s (writeOutcome slot code d w (clearImage n t))
  | resets : Effect s (softReset s)

/-- One stage of a command, of which the host writes the words of `W` alone. -/
inductive Stage (W : Nat → Prop) (s : State) : State → Prop
  | aside {t : State} (h : Aside s t) (store : t.store = s.store) : Stage W s t
  | counts (k : SenderNo) (b : Binding) (h : s.sender k = some b) :
    Stage W s (s.setSender k (some { b with countdown := b.countdown - 1 }))
  | frame : Stage W s (settleFrame s)
  | poke (a : Nat) (v : Word) (h : W a) : Stage W s (s.poke a v)
  | event {t : State} (h : Effect s t) : Stage W s (settle s t)

/-- The stages of one command. -/
abbrev Stages (W : Nat → Prop) : State → State → Prop := Relation.ReflTransGen (Stage W)

variable {W : Nat → Prop}

theorem Stage.stages (h : Stage W s t) : Stages W s t := .single h

theorem Stages.refl : Stages W s s := Relation.ReflTransGen.refl

theorem Stages.keeps {p : State → Prop} (hp : ∀ s t, Stage W s t → p s → p t) (h : Stages W s t)
    (hs : p s) : p t := by
  induction h with
  | refl => exact hs
  | tail _ last ih => exact hp _ _ last ih

theorem event_stages {f : State → State} (h : Effect s (f s)) : Stages W s (event f s) :=
  (Stage.event h).stages

/-- A move that touches neither the lines, the profiles, the pool nor the store. -/
theorem Move.aside_stages (h : Move s t) (lines : t.lines = s.lines := by rfl)
    (profiles : t.profiles = s.profiles := by rfl) (senders : t.senders = s.senders := by rfl)
    (waitList : t.waitList = s.waitList := by rfl) (store : t.store = s.store := by rfl) :
    Stages W s t :=
  (Stage.aside ⟨h.moves, lines, profiles, senders, waitList⟩ store).stages

theorem setScanBus_stages (b : ScanBus) (s : State) : Stages W s (s.setScanBus b) :=
  (Move.scanBus b).aside_stages

theorem setTimeBase_stages (t : TimeBase) (s : State) : Stages W s (s.setTimeBase t) :=
  (Move.timeBase t).aside_stages

/-! ### Orders -/

theorem withLine_acts {slot : SlotNo} {c : OrderCopy} {f : LineNo → State → State} {s : State}
    (h : ∀ n, Acts s (f n s)) : Acts s (withLine slot c f s) := by
  unfold withLine
  split
  · exact h _
  · exact refuse_acts _ _ _ s

theorem ifLineFree_acts {slot : SlotNo} {n : LineNo} {f : State → State} {s : State}
    (h : lineHolder s n = none → Acts s (f s)) : Acts s (ifLineFree slot n f s) := by
  unfold ifLineFree
  split
  · exact refuse_acts _ _ _ s
  · next free => exact h free

theorem takeUp_acts (n : LineNo) (p : ProfileNo) (pol : Polarity) (a : AdoptedSet) (s : State)
    (out : (s.line n).mode = .out) (ha : (s.profile p).adopted = some a) :
    Acts s (takeUp n p pol a s) := by
  have opened := (Act.opens n p pol a out ha).acts
  unfold takeUp
  dsimp only
  split
  · exact opened
  · exact opened.trans (capture_acts .lockout n (by simp [lockoutBody]) (by simp [lockoutBody]) _)

theorem openOrder_acts (slot : SlotNo) (c : OrderCopy) (s : State) :
    Acts s (openOrder slot c s) := by
  refine withLine_acts fun n => ?_
  split
  · exact refuse_acts _ _ _ s
  · next mode =>
    split
    · exact refuse_acts _ _ _ s
    · next p' a named =>
      obtain ⟨p, -, adopted⟩ := Option.bind_eq_some_iff.mp named
      obtain ⟨ha, rfl⟩ : (s.profile p).adopted = some a ∧ p = p' := by simpa using adopted
      split
      · exact refuse_acts _ _ _ s
      · exact (takeUp_acts n p _ a s (not_not.mp mode) ha).trans (finishNow_acts _ _ _ _)

theorem takeOut_acts (n : LineNo) (s : State) (inService : (s.line n).mode ≠ .out) :
    ∃ t, Acts s t ∧ (t.line n).mode = .out ∧ takeOut n s = clearImage n t := by
  have still : ((endLearn n .callEnded (fun _ => 0) s).line n).mode ≠ .out := by
    unfold endLearn
    split
    · exact inService
    · rw [completeOrder_line, State.modEstimator_line_same]; exact inService
  refine ⟨_, (endLearn_acts n .callEnded (fun _ => 0) s).tail (.goesOut n still), ?_, rfl⟩
  rw [(releaseSender_queueOnly n _ n).sendOnly.mode, State.setLine_line_same]
  rfl

theorem closeOrder_effect (slot : SlotNo) (c : OrderCopy) (s : State) :
    Effect s (closeOrder slot c s) := by
  unfold closeOrder withLine
  split
  · dsimp only
    split
    · exact .acts (refuse_acts _ _ _ s)
    · next n _ inService =>
      obtain ⟨t, acts, out, eq⟩ := takeOut_acts n s inService
      rw [eq]
      exact .closes n _ _ _ _ acts out
  · exact .acts (refuse_acts _ _ _ s)

theorem reportAddress_profile (p : ProfileNo) (i : Nat) (h : 24 ≤ i) (h' : i < 32) :
    reportAddress (profileAddress p + i) = true := by
  rw [reportAddress_iff]
  unfold profileAddress
  have := p.isLt
  omega

theorem writeDerived_moves (p : ProfileNo) (a : Option AdoptedSet) (reason : Word)
    (st : ProfileStatus) (s : State) : Moves s (writeDerived p a reason st s) := by
  refine (Move.report _ ?_).moves
  simp only [List.mem_cons, List.not_mem_nil, or_false, forall_eq_or_imp, forall_eq]
  refine ⟨?_, ?_, ?_, ?_, ?_, ?_⟩ <;> exact reportAddress_profile p _ (by decide) (by decide)

theorem rawFields_length (s : State) (p : ProfileNo) : (rawFields s p).length = 23 := by
  simp [rawFields]

theorem adoptOrder_acts (slot : SlotNo) (c : OrderCopy) (s : State) :
    Acts s (adoptOrder slot c s) := by
  have derived (p : ProfileNo) (a : Option AdoptedSet) (reason : Word) (st : ProfileStatus)
      (s : State) : Acts s (writeDerived p a reason st s) :=
    (Act.aside ⟨writeDerived_moves p a reason st s, rfl, rfl, rfl, rfl⟩).acts
  unfold adoptOrder
  split
  · exact refuse_acts _ _ _ s
  · next p _ =>
    dsimp only
    split
    · exact (derived p _ _ _ s).trans (refuse_acts _ _ _ _)
    · next passed =>
      exact ((Act.adopts p _ (rawFields_length s p) passed).acts.trans (derived p _ _ _ _)).trans
        (finishNow_acts _ _ _ _)

theorem learnOrder_acts (slot : SlotNo) (c : OrderCopy) (s : State)
    (free : s.slotHeld slot = false) : Acts s (learnOrder slot c s) := by
  refine withLine_acts fun n => ifLineFree_acts fun lineFree => ?_
  split
  · exact refuse_acts _ _ _ s
  · have accepted : Acts s (accept slot .learn (some n) c s) :=
      accept_acts free (fun _ => ⟨n, rfl, lineFree⟩) nofun
    refine accepted.trans ?_
    unfold startLearn
    exact (Act.estimate n (fun e => { e with learnMark := false, learn := some _ })
      fun _ _ => .of_p16 rfl).acts

theorem releaseOrder_acts (slot : SlotNo) (c : OrderCopy) (s : State)
    (free : s.slotHeld slot = false) : Acts s (releaseOrder slot c s) := by
  refine withLine_acts fun n => ifLineFree_acts fun lineFree => ?_
  dsimp only
  split
  · exact refuse_acts _ _ _ s
  · next mode =>
    split
    · exact refuse_acts _ _ _ s
    · next count =>
      split
      · exact refuse_acts _ _ _ s
      · next held =>
        have active : (s.line n).mode = .active := not_not.mp mode
        have held : (s.line n).discipline = .held := not_not.mp held
        have count : 1 ≤ c.p0.toNat := by omega
        split
        · next none =>
          have credited := (Act.credits n c.p0.toNat (s.line n).queue.order active held count
            (.inl rfl)).acts
          refine Relation.ReflTransGen.trans ?_ (finishNow_acts _ _ _ _)
          have eq : s.modQueue n (fun q => { q with credit := 0 }) =
              s.modQueue n fun q =>
                { q with
                  credit := releaseCredit c.p0.toNat q, order := (s.line n).queue.order } := by
            unfold State.modQueue State.modLine
            dsimp only
            rw [none]
          rw [eq]
          exact credited
        · next credit =>
          have accepted : Acts s (accept slot .release (some n) c s) :=
            accept_acts free (fun _ => ⟨n, rfl, lineFree⟩) nofun
          have queued : (s.line n).queue.entries ≠ [] := fun empty =>
            credit (by simp [releaseCredit, QueueUnit.dialledCount, empty])
          exact (accepted.tail (.credits n c.p0.toNat _ active held count (.inr queued))).tail
            (.examine n)

theorem badCodePosition_none {codes : List Nat} (h : badCodePosition codes = none) :
    ∀ code ∈ codes, code ≤ 17 := by
  intro code hc
  have := List.findIdx?_eq_none_iff.mp (Option.map_eq_none_iff.mp h) code hc
  simpa using this

theorem injectCodes_length_le (c : OrderCopy) : c.injectCodes.length ≤ c.injectCount :=
  List.length_take_le _ _

theorem injectEntry_inRange (slot : SlotNo) (c : OrderCopy) {code : Nat} (h : code ≤ 17) :
    (injectEntry slot c.injectPause code).inRange = true := by
  have clamped : 100 ≤ c.injectPause ∧ c.injectPause ≤ 2000 := by
    unfold OrderCopy.injectPause clamp
    split_ifs <;> omega
  unfold injectEntry Entry.inRange
  split_ifs <;> simp <;> omega

theorem injectOrder_acts (slot : SlotNo) (c : OrderCopy) (s : State)
    (free : s.slotHeld slot = false) : Acts s (injectOrder slot c s) := by
  refine withLine_acts fun n => ifLineFree_acts fun lineFree => ?_
  dsimp only
  split
  · exact refuse_acts _ _ _ s
  · next mode =>
    split
    · exact refuse_acts _ _ _ s
    · split
      · exact refuse_acts _ _ _ s
      · next codes =>
        split
        · exact refuse_acts _ _ _ s
        · next room =>
          have accepted : Acts s (accept slot .inject (some n) c s) :=
            accept_acts free (fun _ => ⟨n, rfl, lineFree⟩) nofun
          refine (accepted.tail (.injects n _ _ (not_not.mp mode) ?_ ?_ ?_)).tail (.examine n)
          · have := injectCodes_length_le c
            rw [List.length_map]
            show (s.line n).queue.entries.length + _ ≤ queueRoom
            omega
          · intro e he
            obtain ⟨code, -, rfl⟩ := List.mem_map.mp he
            rfl
          · intro e he
            obtain ⟨code, hc, rfl⟩ := List.mem_map.mp he
            exact injectEntry_inRange slot c (badCodePosition_none codes code hc)

theorem flushOrder_acts (slot : SlotNo) (c : OrderCopy) (s : State) :
    Acts s (flushOrder slot c s) := by
  refine withLine_acts fun n => ?_
  split
  · exact refuse_acts _ _ _ s
  · next inService => exact (Act.flushes n inService).acts.trans (finishNow_acts _ _ _ _)

theorem peekWords_length_le (q : QueueUnit) : (peekWords q).length ≤ q.entries.length + 1 := by
  unfold peekWords
  cases q.flight <;> simp

theorem peekOrder_acts (slot : SlotNo) (c : OrderCopy) (s : State) :
    Acts s (peekOrder slot c s) := by
  refine withLine_acts fun n => ?_
  dsimp only
  split
  · exact refuse_acts _ _ _ s
  · split
    · next target =>
      refine Relation.ReflTransGen.trans (Act.aside ⟨(Move.snapshot n c.p0 _ target ?_).moves,
        rfl, rfl, rfl, rfl⟩).acts (finishNow_acts _ _ _ _)
      have := peekWords_length_le (s.line n).queue
      rw [List.length_cons]
      omega
    · exact refuse_acts _ _ _ s

theorem markOrder_acts (slot : SlotNo) (c : OrderCopy) (s : State)
    (free : s.slotHeld slot = false) : Acts s (markOrder slot c s) := by
  unfold markOrder
  split
  · exact refuse_acts _ _ _ s
  · next bad =>
    have target : inHostArea c.p0 0 = true := by simpa using bad
    split
    · exact refuse_acts _ _ _ s
    · split
      · exact (Act.aside ((markDone_answers slot c 0 s).aside
          (markDone_moves slot c 0 s (.inl target)))).acts
      · exact accept_acts free nofun fun _ => target

theorem withdrawOrder_acts (slot : SlotNo) (s : State) : Acts s (withdrawOrder slot s) := by
  unfold withdrawOrder
  split
  · exact .refl
  · split
    · exact endLearn_acts _ _ _ s
    · exact (Act.releaseWithdrawn _).acts
    · exact (Act.injectWithdrawn _ slot).acts
    · exact completeOrder_acts _ _ _ s
    · exact .refl

theorem not_held_of_posted {slot : SlotNo} (h : slotIsPosted slot s = true) :
    s.slotHeld slot = false := by
  simpa using (Bool.and_eq_true_iff.mp h).1

/-- The examination of a slot. -/
theorem examineSlot_effect (slot : SlotNo) (s : State) : Effect s (examineSlot slot s) := by
  unfold examineSlot
  split
  · next posted =>
    have free := not_held_of_posted posted
    unfold postedOrder
    dsimp only
    split
    · exact .acts (openOrder_acts slot _ s)
    · exact closeOrder_effect slot _ s
    · exact .acts (adoptOrder_acts slot _ s)
    · exact .acts (learnOrder_acts slot _ s free)
    · exact .acts (releaseOrder_acts slot _ s free)
    · exact .acts (injectOrder_acts slot _ s free)
    · exact .acts (flushOrder_acts slot _ s)
    · exact .acts (peekOrder_acts slot _ s)
    · exact .acts (markOrder_acts slot _ s free)
    · exact .acts (refuse_acts _ _ _ s)
  · split
    · exact .acts (withdrawOrder_acts slot s)
    · exact .acts .refl

/-! ### Sweeps -/

theorem sweepPast_stages (slot : SlotNo) (s : State) : Stages W s (sweepPast slot s) := by
  unfold sweepPast
  split
  · refine event_stages (.acts (Act.aside ⟨endSweep_moves s, ?_, ?_, ?_, ?_⟩).acts) <;>
      obtain ⟨-, -, -, -, lines, profiles, senders, waitList, -⟩ := (recheckLoss_reports s).keeps
    · exact lines
    · exact profiles
    · exact senders
    · exact waitList
  · next last =>
    refine (Move.sweep _ _ fun k hk => .inl ?_).aside_stages
    have := slot.isLt
    obtain rfl := Option.mem_some_iff.mp hk
    omega

theorem examined_stages {slot : SlotNo} {f : State → State} (h : Effect s (f s)) :
    Stages W s (examined slot f s) :=
  (event_stages h).trans (sweepPast_stages slot _)

theorem sweepOne_stages (slot : SlotNo) (s : State) : Stages W s (sweepOne slot s) := by
  unfold sweepOne
  split
  · exact examined_stages (examineSlot_effect slot s)
  · exact sweepPast_stages slot s

theorem foldl_stages {α : Type} {f : State → α → State} (hf : ∀ s x, Stages W s (f s x))
    (l : List α) (s : State) : Stages W s (l.foldl f s) := by
  induction l generalizing s with
  | nil => exact .refl
  | cons x rest ih => exact (hf s x).trans (ih _)

theorem sweepThrough_stages (k : Nat) (s : State) : Stages W s (sweepThrough k s) := by
  refine foldl_stages (fun s j => ?_) _ s
  split
  · exact sweepOne_stages j s
  · exact .refl

theorem occurs_stages {due : Bool} (h : due = true → Stages W s u)
    (ht : occurs due u s = .next t) : Stages W s t := by
  obtain rfl : (if due then u else s) = t := by simpa [occurs] using ht
  split
  · next hd => exact h hd
  · exact .refl

theorem examination_stages {slot : SlotNo} {due : Bool} {f : State → State}
    (h : due = true → Effect s (f s)) (ht : examination slot due f s = .next t) :
    Stages W s t := by
  unfold examination at ht
  split at ht
  · next hd =>
    obtain rfl : examined slot f s = t := by simpa using ht
    exact examined_stages (h hd)
  · exact occurs_stages (fun _ => sweepPast_stages slot s) ht

theorem not_held_of_orderDue {kind : Nat} {slot : SlotNo} (h : orderDue kind slot s = true) :
    s.slotHeld slot = false :=
  not_held_of_posted (Bool.and_eq_true_iff.mp (Bool.and_eq_true_iff.mp h).1).2

/-! ### Boundaries -/

theorem takeTick_stages (s : State) : Stages W s (takeTick s) := by
  have aged (u : State) : Stages W u (raisePageAge u) := (Move.capture _ .aged).aside_stages
  have requested (u : State) : Stages W u (requestSweep u) := by
    refine (Stage.aside ⟨requestSweep_moves u, ?_, ?_, ?_, ?_⟩ ?_).stages <;>
      unfold requestSweep <;> split <;> rfl
  unfold takeTick
  dsimp only
  refine Relation.ReflTransGen.trans ?_ (aged _)
  split
  · exact (setTimeBase_stages _ s).trans (requested _)
  · exact setTimeBase_stages _ s

theorem takeAgeClose_effect (s : State) : Effect s (takeAgeClose s) := by
  have closed : Acts s (if ageCloseDue s then closePage s else s) := by
    split
    · exact (Act.aside ((closePage_reports s).aside (closePage_moves s))).acts
    · exact .refl
  exact .acts (closed.tail (.aside ⟨(Move.timeBase _).moves, rfl, rfl, rfl, rfl⟩))

theorem toneEnds_acts (k : SenderNo) (s : State) : Acts s (toneEnds k s) := by
  unfold toneEnds
  split
  · exact .refl
  · next b hb =>
    have ended := (Act.toneEnds k b hb).acts
    dsimp only
    split
    · exact ended.trans (capture_acts .sent _ (by simp [sentBody]) (by simp [sentBody]) _)
    · exact ended

theorem senderBoundary_stages (k : SenderNo) (s : State) : Stages W s (senderBoundary k s) := by
  unfold senderBoundary
  split
  · exact .refl
  · next b hb =>
    split
    · exact .refl
    · split
      · split
        · exact event_stages (.acts (toneEnds_acts k s))
        · exact event_stages (.acts (Act.gapEnds k).acts)
      · exact (Stage.counts k b hb).stages

theorem frameBoundary_stages (s : State) : Stages W s (frameBoundary s) := by
  have tick : Stages W s (if tickDue s then takeTick s else s) := by
    split
    · exact takeTick_stages s
    · exact .refl
  have age (u : State) : Stages W u (if ageCloseDue u then event takeAgeClose u else u) := by
    split
    · exact event_stages (takeAgeClose_effect u)
    · exact .refl
  have senders (u : State) : Stages W u (sendersBoundary u) :=
    foldl_stages (fun s k => senderBoundary_stages k s) _ u
  have strobed (u : State) : Stages W u (strobe u) := setScanBus_stages _ u
  have phase (p : Fin 8) (u : State) : Stages W u (startPhase p u) :=
    (setTimeBase_stages _ u).trans (setScanBus_stages _ _)
  exact (((((tick.trans (age _)).trans (senders _)).trans (strobed _)).trans (phase _ _))).tail
    .frame

/-! ### The host -/

theorem examineAll_acts (s : State) : Acts s (examineAll s) := by
  unfold examineAll
  generalize List.finRange 96 = l
  induction l generalizing s with
  | nil => exact .refl
  | cons n rest ih => exact (Act.examine n).acts.trans (ih _)

theorem grantAll_acts (s : State) : Acts s (grantAll s) := by
  unfold grantAll
  generalize List.range 12 = l
  induction l generalizing s with
  | nil => exact .refl
  | cons _ rest ih => exact Act.grant.acts.trans (ih _)

theorem writeControl_stages (v : Word) (s : State) : Stages W s (writeControl v s) := by
  unfold writeControl
  split
  · exact event_stages .resets
  · split
    · refine event_stages (.acts (Relation.ReflTransGen.trans ?_
        ((grantAll_acts _).trans (examineAll_acts _))))
      exact (Act.aside ⟨(Move.control _).moves, rfl, rfl, rfl, rfl⟩).acts
    · exact (Move.control _).aside_stages

theorem hostWrite_stages (a : Nat) (v : Word) (s : State) (h : a < 0x1000 → W a) :
    Stages W s (hostWrite a v s) := by
  unfold hostWrite
  split_ifs with _ low
  · exact .refl
  · exact (Stage.poke a v (h low)).stages
  · exact writeControl_stages v s
  · exact (Move.causes _).aside_stages
  · refine (Stage.aside ⟨requestSweep_moves s, ?_, ?_, ?_, ?_⟩ ?_).stages <;>
      unfold requestSweep <;> split <;> rfl
  · exact .refl

/-- The words that the host writes by a command. -/
def hostWrites : Instr → Nat → Prop
  | .storeWrite b _ => fun a => a = b.toNat
  | .registerWriteIgnored b _ => fun a => a = b.toNat ∧ a < 0x1000
  | _ => fun _ => False

/-! ### The commands -/

theorem lineTick_stages (n : LineNo) (high : Bool) (s : State) : Stages W s (lineTick n high s) :=
  event_stages (.acts (lineTickEffects_acts n high s))

theorem tickWith_stages {e : TickEvent} {high : Bool} (ht : tickWith e n high s = .next t) :
    Stages W s t :=
  occurs_stages (fun _ => lineTick_stages n high s) ht

theorem beginBoundary_stages (s : State) : Stages W s (beginBoundary s) :=
  setTimeBase_stages _ s

/-- Every command but the two of a pin reset is a chain of stages, in which the host writes its own word alone. -/
theorem exec_stages {c : Instr} (reset : c ≠ .pinReset) (init : c ≠ .storeInitialisationComplete)
    (h : exec c s = .next t) : Stages (hostWrites c) s t := by
  have next {u : State} (hu : Stages (hostWrites c) s u)
      (h : (.next u : Host.Outcome State Fault Refusal) = .next t) : Stages (hostWrites c) s t := by
    obtain rfl : u = t := by simpa using h
    exact hu
  cases c with
  | pinReset => exact absurd rfl reset
  | storeInitialisationComplete => exact absurd rfl init
  | tickBoundary => exact occurs_stages (fun _ => takeTick_stages s) h
  | frameBoundary => exact occurs_stages (fun _ => frameBoundary_stages s) h
  | lineTick n high => exact occurs_stages (fun _ => lineTick_stages n high s) h
  | seizureComplete | firstDigitExpiry | lockoutReturn | clear | pulseCounted | trainEnd
  | gatherWaitExpiry | recallBreakEnd | recallFinished | pauseFinished | senderWait
  | learnExpiry => exact tickWith_stages h
  | toneEnd k =>
    exact occurs_stages
      (fun _ => (event_stages (.acts (toneEnds_acts k s))).trans (beginBoundary_stages _)) h
  | gapEnd k =>
    exact occurs_stages
      (fun _ => (event_stages (.acts (Act.gapEnds k).acts)).trans (beginBoundary_stages _)) h
  | sweep =>
    change execSweep s = _ at h
    unfold execSweep at h
    split at h
    · exact next .refl h
    · exact occurs_stages (fun _ => sweepThrough_stages _ s) h
  | openLine slot => exact examination_stages (fun _ => .acts (openOrder_acts slot _ s)) h
  | closeLine slot => exact examination_stages (fun _ => closeOrder_effect slot _ s) h
  | adopt slot => exact examination_stages (fun _ => .acts (adoptOrder_acts slot _ s)) h
  | learn slot =>
    exact examination_stages
      (fun due => .acts (learnOrder_acts slot _ s (not_held_of_orderDue due))) h
  | release slot =>
    exact examination_stages
      (fun due => .acts (releaseOrder_acts slot _ s (not_held_of_orderDue due))) h
  | inject slot =>
    exact examination_stages
      (fun due => .acts (injectOrder_acts slot _ s (not_held_of_orderDue due))) h
  | flush slot => exact examination_stages (fun _ => .acts (flushOrder_acts slot _ s)) h
  | peek slot => exact examination_stages (fun _ => .acts (peekOrder_acts slot _ s)) h
  | mark slot =>
    exact examination_stages
      (fun due => .acts (markOrder_acts slot _ s (not_held_of_orderDue due))) h
  | unknownKind slot => exact examination_stages (fun _ => .acts (refuse_acts _ _ _ s)) h
  | withdraw slot => exact examination_stages (fun _ => .acts (withdrawOrder_acts slot s)) h
  | nudge v => exact next (hostWrite_stages 0x1003 v s (absurd · (by decide))) h
  | sendHoldSet v => exact next (hostWrite_stages 0x1001 v s (absurd · (by decide))) h
  | sendHoldClear v => exact next (hostWrite_stages 0x1001 v s (absurd · (by decide))) h
  | controlMaskWrite v => exact next (hostWrite_stages 0x1001 v s (absurd · (by decide))) h
  | softReset v => exact next (hostWrite_stages 0x1001 v s (absurd · (by decide))) h
  | statusClear v => exact next (hostWrite_stages 0x1002 v s (absurd · (by decide))) h
  | registerWriteIgnored a v => exact next (hostWrite_stages a.toNat v s fun low => ⟨rfl, low⟩) h
  | storeWrite a v => exact next (hostWrite_stages a.toNat v s fun _ => rfl) h
  | pageCloseAge => exact occurs_stages (fun _ => event_stages (takeAgeClose_effect s)) h

end Sys2Proof.Machine
end

section
/-! The laws that hold item by item, each kept because every move keeps it: the store's form, the capture unit, generations,
debounce runs, tone values, queue entries, speed estimates, the order board, and lines OUT. -/

namespace Sys2Proof.Machine

variable {s t u : State} {n : LineNo} {p : State → Prop}

/-! ### From moves to steps -/

/-- A law of everything but the waiting commands is kept by every step as soon as every command keeps it. -/
theorem KeptByStep.of_exec (pending : ∀ (s : State) (l : List Instr), p s → p { s with pending := l })
    (kept : ∀ (c : Instr) (s t : State), exec c s = .next t → p s → p t) : KeptByStep p := by
  intro s t hs h
  unfold step at h
  split at h
  · obtain rfl : s = t := by simpa using h
    exact hs
  · next c rest _ => exact kept c _ t h (pending s rest hs)

/-- A word that the part writes of its own accord, or in which it shows an item. -/
def PartWrites (a : Nat) : Prop := shownAddress a = true ∨ reportAddress a = true

theorem shownAddress_iff (a : Nat) :
    shownAddress a = true ↔ (0x008 ≤ a ∧ a ≤ 0x014) ∨ (0x400 ≤ a ∧ a < 0xA00) := by
  simp only [shownAddress, Bool.or_eq_true, Bool.and_eq_true, decide_eq_true_eq]

theorem shownAddress_image (n : LineNo) (i : Nat) (hi : i < 12) :
    shownAddress (imageAddress n + i) = true := by
  rw [shownAddress_iff]
  unfold imageAddress
  have := n.isLt
  omega

theorem clearImage_writes (n : LineNo) :
    ∀ q ∈ (List.range 12).map fun i => (imageAddress n + i, (0 : Word)), PartWrites q.1 := by
  intro q hq
  obtain ⟨i, hi, rfl⟩ := List.mem_map.mp hq
  exact .inl (shownAddress_image n i (List.mem_range.mp hi))

/-- What the moves and the words shown keep, a soft reset keeps. -/
theorem softReset_keeps (move : ∀ s t, Move s t → p s → p t)
    (pokes : ∀ (s : State) (l : List (Nat × Word)), (∀ q ∈ l, PartWrites q.1) → p s → p (s.pokes l))
    (hs : p s) : p (softReset s) := by
  have moves {s t : State} (h : Moves s t) (hs : p s) : p t := h.keeps move hs
  have images (l : List LineNo) (s : State) (hs : p s) :
      p (l.foldl (fun s n => clearImage n s) s) := by
    induction l generalizing s with
    | nil => exact hs
    | cons n rest ih => exact ih _ (pokes s _ (clearImage_writes n) hs)
  have pool (s : State) (hs : p s) : p (freePool s) := by
    have freed := pokes _ ((List.range 12).map fun k => (senderStatusAddress k, 0xFFFF)) (by
      intro q hq
      obtain ⟨k, hk, rfl⟩ := List.mem_map.mp hq
      have := List.mem_range.mp hk
      refine .inl ((shownAddress_iff _).mpr ?_)
      unfold senderStatusAddress
      omega) (move s _ .poolFreed hs)
    exact pokes _ [(waitCountAddress, 0)] (by simp [PartWrites, shownAddress, waitCountAddress]) freed
  have still : p (linesOut (refuseHeld s)) := move _ _ .allOut (moves (refuseHeld_moves s) hs)
  have dropped (s : State) (hs : p s) : p (dropProfiles s) := by
    refine pokes _ _ (fun q hq => ?_) (move s _ .dropSets hs)
    obtain ⟨k, -, rfl⟩ := List.mem_map.mp hq
    refine .inr ((reportAddress_iff _).mpr ?_)
    have := k.isLt
    unfold profileAddress
    omega
  have closed (s : State) (hs : p s) : p (closePage s) := moves (closePage_moves s) hs
  unfold softReset
  exact move _ _ (.timeBase _) (closed _ (dropped _ (images _ _ (pool _ still))))

/-- What the moves, the end of an event and a write of any words keep, every step keeps. -/
theorem KeptByStep.of_moves
    (pending : ∀ (s : State) (l : List Instr), p s → p { s with pending := l })
    (initialising : ∀ s, p s → p (initialising s)) (initialised : ∀ s, p s → p (initialised s))
    (move : ∀ s t, Move s t → p s → p t) (settled : ∀ b s, p s → p (settle b s))
    (pokes : ∀ (s : State) (l : List (Nat × Word)), p s → p (s.pokes l)) : KeptByStep p := by
  have moves {s t : State} (h : Moves s t) (hs : p s) : p t := h.keeps move hs
  have effect {s t : State} (h : Effect s t) (hs : p s) : p t := by
    cases h with
    | acts h => exact moves h.moves hs
    | closes n slot code d w h =>
      exact moves (writeOutcome_moves _ _ _ _ _) (pokes _ _ (moves h.moves hs))
    | resets => exact softReset_keeps move (fun s l _ => pokes s l) hs
  refine .of_exec pending fun c s t h hs => ?_
  by_cases reset : c = .pinReset
  · subst reset
    obtain rfl : _ = t := by simpa [exec, execPinReset] using h
    exact initialising s hs
  by_cases init : c = .storeInitialisationComplete
  · subst init
    obtain rfl : (if !s.ready then _ else s) = t := by
      simpa [exec, execStoreInitialisationComplete, occurs] using h
    split
    · exact initialised s hs
    · exact hs
  refine Stages.keeps (fun s t stage hs => ?_) (exec_stages reset init h) hs
  cases stage with
  | aside h => exact moves h.moves hs
  | counts k b h => exact move _ _ (.sender k _ (.counted b h)) hs
  | frame => exact move _ _ .frame hs
  | poke a v => exact pokes s [(a, v)] hs
  | event h => exact settled _ _ (effect h hs)

/-! ### What a move does to each item -/

theorem Move.lines_cases (h : Move s t) :
    (∃ n l, LineMove s n l ∧ t = s.setLine n l) ∨ t = linesOut s ∨ t.lines = s.lines := by
  cases h with
  | line n l h => exact .inl ⟨n, l, h, rfl⟩
  | allOut => exact .inr (.inl rfl)
  | _ => exact .inr (.inr rfl)

theorem Move.profiles_cases (h : Move s t) :
    (∃ p raw, raw.length = 23 ∧ profileRefusal raw = none ∧
      t.profiles = (s.setProfile p
        { adopted := some (adoptedSet raw (nextGeneration (s.profile p).generation))
          generation := nextGeneration (s.profile p).generation }).profiles) ∨
    t.profiles = s.profiles.map (fun x => { x with adopted := none }) ∨
    t.profiles = s.profiles := by
  cases h with
  | adopt p raw hlen accepted => exact .inl ⟨p, raw, hlen, accepted, rfl⟩
  | dropSets => exact .inr (.inl rfl)
  | _ => exact .inr (.inr rfl)

theorem Move.senders_cases (h : Move s t) :
    (∃ k b, SenderMove s k b ∧ t = s.setSender k b) ∨
    t.senders = s.senders.map (fun b => b.map afterSample) ∨
    t.senders = Vector.replicate 12 none ∨ t.senders = s.senders := by
  cases h with
  | sender k b h => exact .inl ⟨k, b, h, rfl⟩
  | frame => exact .inr (.inl rfl)
  | poolFreed => exact .inr (.inr (.inl rfl))
  | _ => exact .inr (.inr (.inr rfl))

theorem Move.capture_cases (h : Move s t) :
    CaptureMove s.capture t.capture ∨ t.capture = s.capture := by
  cases h with
  | capture c h => exact .inl h
  | _ => exact .inr rfl

/-- How the order board moves. -/
inductive BoardMove (s : State) : OrderBoard → Prop
  | accept (o : HeldOrder) (h : Acceptable s o) :
    BoardMove s { s.board with accepted := s.board.accepted ++ [o] }
  | accepted (l : List HeldOrder) (h : l.Sublist s.board.accepted) :
    BoardMove s { s.board with accepted := l }
  | sweep (at? : Option Nat) (held : Bool) (h : ∀ k ∈ at?, k < 16 ∨ s.board.sweepAt = some k) :
    BoardMove s { s.board with sweepAt := at?, sweepHeld := held }

theorem Move.board_cases (h : Move s t) : BoardMove s t.board ∨ t.board = s.board := by
  cases h with
  | accept o h => exact .inl (.accept o h)
  | accepted l h => exact .inl (.accepted l h)
  | sweep at? held h => exact .inl (.sweep at? held h)
  | _ => exact .inr rfl

theorem Move.store_cases (h : Move s t) : ∃ l, t.store = writeWords s.store l := by
  cases h with
  | report l h => exact ⟨l, rfl⟩
  | target c h => exact ⟨[(c.p0.toNat, c.p1)], rfl⟩
  | snapshot n target ws h hlen => exact ⟨runWrites target.toNat ws, rfl⟩
  | _ => exact ⟨[], rfl⟩

theorem State.line_congr (h : t.lines = s.lines) (n : LineNo) : t.line n = s.line n := by
  simp only [State.line, h]

theorem State.profile_congr (h : t.profiles = s.profiles) (p : ProfileNo) :
    t.profile p = s.profile p := by
  simp only [State.profile, h]

theorem State.sender_congr (h : t.senders = s.senders) (k : SenderNo) :
    t.sender k = s.sender k := by
  simp only [State.sender, h]

theorem linesOut_line (s : State) (n : LineNo) :
    (linesOut s).line n = Line.outOfService (s.line n).raw := by
  simp [linesOut, State.line]

/-- A law of every line is kept by a move that keeps it on the line it moves. -/
theorem Move.keeps_lines {q : Line → Prop} (out : ∀ raw, q (Line.outOfService raw))
    (moved : ∀ n l, LineMove s n l → q l) (h : Move s t) (hs : ∀ n, q (s.line n)) :
    ∀ n, q (t.line n) := by
  intro m
  obtain ⟨n, l, line, rfl⟩ | rfl | same := h.lines_cases
  · rw [State.setLine_line]
    split
    · exact moved n l line
    · exact hs m
  · rw [linesOut_line]; exact out _
  · rw [State.line_congr same]; exact hs m

theorem settle_profiles (b s : State) : (settle b s).profiles = s.profiles :=
  (settle_work b s).profiles

theorem settle_keeps (b s : State) :
    (settle b s).senders = s.senders ∧ (settle b s).waitList = s.waitList ∧
      (settle b s).board = s.board ∧ (settle b s).capture = s.capture := by
  rw [settle_eq b s]
  exact ⟨rfl, rfl, rfl, rfl⟩

/-! ### The store -/

/-- Settles O57: every word is written by `writeWord`, which keeps the form. -/
theorem storeFormKept : Obligations.StoreFormKept := by
  refine .of_moves (fun _ _ h => h) (fun _ h => h) (fun _ _ => storeWf_reset) ?_
    (fun b s h => ?_) fun s l h => storeWf_writeWords _ l h
  · intro s t h hs
    obtain ⟨l, hl⟩ := h.store_cases
    rw [StoreSound, hl]
    exact storeWf_writeWords _ l hs
  · refine storeWf_shownStore b s.settleMutes ?_
    unfold State.settleMutes
    generalize Vector.ofFn _ = v
    exact h

/-! ### The capture unit -/

theorem CaptureMove.sound {c c' : Capture} (h : CaptureMove c c') {s t : State}
    (hc : s.capture = c) (hc' : t.capture = c') (hs : CaptureSound s) : CaptureSound t := by
  unfold CaptureSound at hs ⊢
  rw [hc] at hs
  rw [hc']
  obtain ⟨low, high, loss, excludes, page⟩ := hs
  cases h with
  | lost h =>
    have none : c.filling = none := h.elim id excludes
    refine ⟨low, high, ?_, fun _ => none, by simp [none]⟩
    show saturate 65535 c.loss ≤ 65535
    unfold saturate
    split <;> omega
  | gap => exact ⟨low, high, by simp, by simp, by simp⟩
  | opened len h3 h6 h => exact ⟨low, high, loss, by simp [h], by simp; omega⟩
  | placed f len h3 hf fits =>
    obtain ⟨one, words, -⟩ := page f hf
    refine ⟨low, high, loss, fun pending => by simp [excludes pending] at hf, ?_⟩
    simp only [Option.mem_some_iff, forall_eq']
    exact ⟨by omega, by omega, fits⟩
  | closed =>
    have : 1 ≤ nextSequence c.sequence ∧ nextSequence c.sequence ≤ 255 := by
      unfold nextSequence; split <;> omega
    exact ⟨this.1, this.2, loss, by simp, by simp⟩
  | aged =>
    refine ⟨low, high, loss, fun pending => by simp [excludes pending], ?_⟩
    simp only [Option.mem_map, forall_exists_index, and_imp, forall_apply_eq_imp_iff₂]
    exact page

theorem captureSound_reset : CaptureSound State.reset := by
  simp [CaptureSound, State.reset]

theorem captureSound_kept : KeptByStep CaptureSound := by
  refine .of_moves (fun _ _ h => h) (fun _ _ => captureSound_reset) (fun _ _ => captureSound_reset) ?_
    (fun b s h => ?_) fun _ _ h => h
  · intro s t h hs
    obtain moved | same := h.capture_cases
    · exact moved.sound rfl rfl hs
    · rw [CaptureSound, same]; exact hs
  · obtain ⟨-, -, -, capture⟩ := settle_keeps b s
    rw [CaptureSound, capture]; exact h

/-! ### Generations -/

theorem nextGeneration_bounds {g : Nat} (h : g ≤ 255) :
    1 ≤ nextGeneration g ∧ nextGeneration g ≤ 255 := by
  unfold nextGeneration; split <;> omega

theorem GenerationsSound.of_move (h : Move s t) (hs : GenerationsSound s) : GenerationsSound t := by
  intro q
  obtain ⟨p, raw, -, -, moved⟩ | dropped | same := h.profiles_cases
  · rw [State.profile_congr moved]
    by_cases hq : q = p
    · subst hq
      rw [State.setProfile_profile_same]
      obtain ⟨one, top⟩ := nextGeneration_bounds (hs q).1
      refine ⟨top, fun a ha => ?_⟩
      obtain rfl := Option.mem_some_iff.mp ha
      exact ⟨rfl, one⟩
    · rw [State.setProfile_profile_other _ _ _ _ hq]
      exact hs q
  · have : t.profile q = { s.profile q with adopted := none } := by simp [State.profile, dropped]
    rw [this]
    exact ⟨(hs q).1, by simp⟩
  · rw [State.profile_congr same]; exact hs q

theorem profile_reset (q : ProfileNo) :
    State.reset.profile q = { adopted := none, generation := 0 } := by
  simp [State.profile, State.reset]

theorem generationsSound_reset : GenerationsSound State.reset := by
  intro q
  rw [profile_reset]
  simp

theorem generationsSound_kept : KeptByStep GenerationsSound := by
  refine .of_moves (fun _ _ h => h) (fun _ _ => generationsSound_reset)
    (fun _ _ => generationsSound_reset) (fun _ _ h => .of_move h) (fun b s h q => ?_)
    fun _ _ h => h
  rw [State.profile_congr (settle_profiles b s)]
  exact h q

/-! ### Debounce runs -/

/-- A line's run count is at most 15, with a candidate stamp exactly while it is above 0. -/
def Line.RunSound (l : Line) : Prop :=
  ∀ sc ∈ l.scan, sc.run ≤ 15 ∧ (sc.candidate.isSome = true ↔ 0 < sc.run)

/-- Under a count of at most 15 the debounce never leaves a longer run open. -/
theorem debounce_run {d : Nat} (hd : d ≤ 15) (c : Level) (t : Tick) {sc : Scan}
    (h : sc.run ≤ 15 ∧ (sc.candidate.isSome = true ↔ 0 < sc.run)) :
    (debounce d c t sc).1.run ≤ 15 ∧
      ((debounce d c t sc).1.candidate.isSome = true ↔ 0 < (debounce d c t sc).1.run) := by
  unfold debounce
  split
  · simp
  · dsimp only
    split
    · simp
    · simp; omega

theorem LineMove.runSound {l : Line} (h : LineMove s n l)
    (sets : ∀ p : ProfileNo, ∀ a ∈ (s.profile p).adopted, a.debounce ≤ 15)
    (hs : (s.line n).RunSound) : l.RunSound := by
  cases h with
  | unscanned high none => exact fun sc h => by simp [none] at h
  | scanned high sc c hsc =>
    have count : ((s.setInForce n).map (·.debounce)).getD 0 ≤ 15 := by
      cases set : s.setInForce n with
      | none => simp
      | some a =>
        obtain ⟨p, -, ha⟩ := Option.bind_eq_some_iff.mp set
        exact sets p a ha
    intro sc' h
    obtain rfl := Option.mem_some_iff.mp h
    exact debounce_run count c s.clock (hs sc hsc)
  | service l h => exact fun sc hsc => hs sc (h.scan ▸ hsc)
  | opened p pol a _ =>
    intro sc h
    obtain rfl := Option.mem_some_iff.mp h
    simp
  | out => exact fun sc h => by simp [Line.outOfService] at h
  | timers | estimate | train | queue => exact hs

theorem Move.adopted_cases (h : Move s t) {p : ProfileNo} {a : AdoptedSet}
    (ha : a ∈ (t.profile p).adopted) :
    a ∈ (s.profile p).adopted ∨
      ∃ raw g, raw.length = 23 ∧ profileRefusal raw = none ∧ a = adoptedSet raw g := by
  obtain ⟨q, raw, hlen, accepted, moved⟩ | dropped | same := h.profiles_cases
  · rw [State.profile_congr moved] at ha
    by_cases hq : p = q
    · subst hq
      rw [State.setProfile_profile_same] at ha
      exact .inr ⟨raw, _, hlen, accepted, (Option.mem_some_iff.mp ha).symm⟩
    · rw [State.setProfile_profile_other _ _ _ _ hq] at ha
      exact .inl ha
  · simp [State.profile, dropped] at ha
  · rw [State.profile_congr same] at ha
    exact .inl ha

theorem adoptedSet_debounce {raw : List Nat} (g : Nat) (hlen : raw.length = 23)
    (accepted : profileRefusal raw = none) :
    1 ≤ (adoptedSet raw g).debounce ∧ (adoptedSet raw g).debounce ≤ 15 :=
  field_within_range ((profileRefusal_eq_none_iff raw).mp accepted).1 5 (by omega) (by decide)

theorem line_reset (n : LineNo) : State.reset.line n = Line.outOfService false := by
  simp [State.line, State.reset]

theorem scanSound_reset : ScanSound State.reset := by
  refine ⟨fun p a ha => ?_, fun n sc hsc => ?_⟩
  · simp [profile_reset] at ha
  · simp [line_reset, Line.outOfService] at hsc

theorem ScanSound.of_move (h : Move s t) (hs : ScanSound s) : ScanSound t := by
  obtain ⟨sets, lines⟩ := hs
  refine ⟨fun p a ha => ?_, ?_⟩
  · obtain old | ⟨raw, g, hlen, accepted, rfl⟩ := h.adopted_cases ha
    · exact sets p a old
    · exact adoptedSet_debounce g hlen accepted
  · exact h.keeps_lines (q := Line.RunSound) (fun _ _ h => by simp [Line.outOfService] at h)
      (fun n l h => h.runSound (fun p a ha => (sets p a ha).2) (lines n)) lines

theorem scanSound_kept : KeptByStep ScanSound := by
  refine .of_moves (fun _ _ h => h) (fun _ _ => scanSound_reset) (fun _ _ => scanSound_reset)
    (fun _ _ h => .of_move h) (fun b s h => ⟨fun p a ha => ?_, fun n sc hsc => ?_⟩) fun _ _ h => h
  · rw [State.profile_congr (settle_profiles b s)] at ha
    exact h.1 p a ha
  · rw [settle_line] at hsc
    exact h.2 n sc hsc

/-! ### Tone values -/

/-- The values of a binding lie in the played ranges, its countdown within 4000 frames. -/
def Binding.Sound (b : Binding) : Prop :=
  200 ≤ b.tone.low ∧ b.tone.low ≤ 3800 ∧ 200 ≤ b.tone.high ∧ b.tone.high ≤ 3800 ∧
    30 ≤ b.tone.onMs ∧ b.tone.onMs ≤ 500 ∧ 30 ≤ b.tone.offMs ∧ b.tone.offMs ≤ 500 ∧
    b.tone.levelLow ≤ 4095 ∧ b.tone.levelHigh ≤ 4095 ∧ b.countdown ≤ 4000

theorem le_clamp {low high : Nat} (h : low ≤ high) (v : Nat) : low ≤ clamp low high v := by
  unfold clamp; split_ifs <;> omega

theorem clamp_le {low high : Nat} (h : low ≤ high) (v : Nat) : clamp low high v ≤ high := by
  unfold clamp; split_ifs <;> omega

theorem newBinding_sound (n : LineNo) (code : Nat) (origin : Origin) (m : List (Nat × Word)) :
    (newBinding n code origin (readTone m code)).Sound := by
  have frequency (v : Nat) := And.intro (le_clamp (low := 200) (high := 3800) (by decide) v)
    (clamp_le (low := 200) (high := 3800) (by decide) v)
  have duration (v : Nat) := And.intro (le_clamp (low := 30) (high := 500) (by decide) v)
    (clamp_le (low := 30) (high := 500) (by decide) v)
  have level (v : Nat) := clamp_le (low := 0) (high := 4095) (by decide) v
  exact ⟨(frequency _).1, (frequency _).2, (frequency _).1, (frequency _).2, (duration _).1,
    (duration _).2, (duration _).1, (duration _).2, level _, level _,
    Nat.mul_le_mul_right 8 (duration _).2⟩

theorem SenderMove.sound {k : SenderNo} {b : Option Binding} (h : SenderMove s k b)
    (hs : ∀ b ∈ s.sender k, b.Sound) : ∀ c ∈ b, c.Sound := by
  cases h with
  | freed => simp
  | bound n code origin =>
    intro c hc
    obtain rfl := Option.mem_some_iff.mp hc
    exact newBinding_sound n code origin s.store
  | gap b h =>
    intro c hc
    obtain rfl := Option.mem_some_iff.mp hc
    obtain ⟨h1, h2, h3, h4, h5, h6, h7, offMs, h9, h10, -⟩ := hs b h
    exact ⟨h1, h2, h3, h4, h5, h6, h7, offMs, h9, h10, Nat.mul_le_mul_right 8 offMs⟩
  | counted b h =>
    intro c hc
    obtain rfl := Option.mem_some_iff.mp hc
    obtain ⟨h1, h2, h3, h4, h5, h6, h7, h8, h9, h10, countdown⟩ := hs b h
    exact ⟨h1, h2, h3, h4, h5, h6, h7, h8, h9, h10, (Nat.sub_le _ 1).trans countdown⟩

theorem afterSample_keeps (b : Binding) :
    (afterSample b).tone = b.tone ∧ (afterSample b).countdown = b.countdown ∧
      (afterSample b).line = b.line := by
  unfold afterSample; split <;> exact ⟨rfl, rfl, rfl⟩

theorem SendersSound.of_move (h : Move s t) (hs : SendersSound s) : SendersSound t := by
  intro j b hb
  obtain ⟨k, b', moved, rfl⟩ | settled | freed | same := h.senders_cases
  · by_cases hj : j = k
    · subst hj
      rw [State.setSender_sender_same] at hb
      exact moved.sound (hs j) b hb
    · rw [State.setSender_sender_other _ _ _ _ hj] at hb
      exact hs j b hb
  · have : t.sender j = (s.sender j).map afterSample := by simp [State.sender, settled]
    rw [this] at hb
    obtain ⟨b', hb', rfl⟩ := Option.mem_map.mp hb
    obtain ⟨tone, countdown, -⟩ := afterSample_keeps b'
    rw [tone, countdown]
    exact hs j b' hb'
  · simp [State.sender, freed] at hb
  · rw [State.sender_congr same] at hb
    exact hs j b hb

theorem sender_reset (k : SenderNo) : State.reset.sender k = none := by
  simp [State.sender, State.reset]

theorem sendersSound_reset : SendersSound State.reset := by
  intro k b hb
  simp [sender_reset] at hb

theorem sendersSound_kept : KeptByStep SendersSound := by
  refine .of_moves (fun _ _ h => h) (fun _ _ => sendersSound_reset) (fun _ _ => sendersSound_reset)
    (fun _ _ h => .of_move h) (fun b s h k c hc => ?_) fun _ _ h => h
  rw [State.sender_congr (settle_keeps b s).1] at hc
  exact h k c hc

/-! ### Queue entries -/

/-- Every entry of the line, queued or in flight, is in range. -/
def Line.EntriesInRange (l : Line) : Prop :=
  (∀ e ∈ l.queue.entries, e.inRange = true) ∧ ∀ f ∈ l.queue.flight, f.entry.inRange = true

theorem QueueMove.inRange {l : Line} {q : QueueUnit} (h : QueueMove l q) (hl : l.EntriesInRange) :
    (∀ e ∈ q.entries, e.inRange = true) ∧ ∀ f ∈ q.flight, f.entry.inRange = true := by
  refine ⟨fun e he => ?_, fun f hf => ?_⟩
  · exact (h.entries e he).elim (hl.1 e) id
  · obtain queued | ⟨g, hg, same⟩ := h.flight f hf
    · exact hl.1 _ queued
    · rw [same]; exact hl.2 g hg

theorem LineMove.entriesInRange {l : Line} (h : LineMove s n l) (hs : (s.line n).EntriesInRange) :
    l.EntriesInRange := by
  cases h with
  | service l h => exact h.queue.inRange hs
  | queue q h => exact h.inRange hs
  | opened | out => exact (QueueMove.empty (s.line n)).inRange hs
  | unscanned | scanned | timers | estimate | train => exact hs

theorem Line.outOfService_entriesInRange (raw : Bool) :
    (Line.outOfService raw).EntriesInRange := by
  simp [Line.EntriesInRange, Line.outOfService, QueueUnit.empty]

theorem EntriesSound.of_move (h : Move s t) (hs : EntriesSound s) : EntriesSound t :=
  h.keeps_lines (q := Line.EntriesInRange) Line.outOfService_entriesInRange
    (fun n _ h => h.entriesInRange (hs n)) hs

theorem entriesSound_reset : EntriesSound State.reset := fun n => by
  rw [line_reset]; exact Line.outOfService_entriesInRange false

theorem entriesSound_kept : KeptByStep EntriesSound := by
  refine .of_moves (fun _ _ h => h) (fun _ _ => entriesSound_reset) (fun _ _ => entriesSound_reset)
    (fun _ _ h => .of_move h) (fun b s h n => ?_) fun _ _ h => h
  rw [settle_line]
  exact h n

/-- Settles O59: each of the five laws by the moves of its own item. -/
theorem captureAndRangeLawsKept : Obligations.CaptureAndRangeLawsKept :=
  ⟨captureSound_kept, generationsSound_kept, scanSound_kept, sendersSound_kept, entriesSound_kept⟩

/-! ### Speed estimates -/

/-- The line's estimate lies in 800 to 3200, and so does the band of an open train. -/
def Line.SpeedSound (l : Line) : Prop :=
  (∀ e ∈ l.estimator, 800 ≤ e.p16 ∧ e.p16 ≤ 3200) ∧
    ∀ c ∈ l.decoder.ctx, BandSound c.pLo16 c.pLo16 c.pHi16

/-- A value clamped to a band lies in 800 to 3200. -/
theorem clamp_band {low nominal high : Nat} (h : BandSound low nominal high) (v : Nat) :
    800 ≤ clamp low high v ∧ clamp low high v ≤ 3200 := by
  obtain ⟨lowest, below, above, highest⟩ := h
  exact ⟨lowest.trans (le_clamp (below.trans above) v),
    (clamp_le (below.trans above) v).trans highest⟩

theorem trainStart_p16 {a : AdoptedSet} (band : BandSound a.pLo16 a.pNom16 a.pHi16)
    (e : Estimator) : 800 ≤ (e.trainStart a).p16 ∧ (e.trainStart a).p16 ≤ 3200 := by
  obtain ⟨lowest, below, above, highest⟩ := band
  unfold Estimator.trainStart
  split
  · exact ⟨lowest.trans below, above.trans highest⟩
  all_goals exact clamp_band ⟨lowest, below, above, highest⟩ _

theorem EstimateMove.sound {l : Line} {e e' : Estimator} (h : EstimateMove l e e')
    (hl : l.SpeedSound) (he : e ∈ l.estimator) : 800 ≤ e'.p16 ∧ e'.p16 ≤ 3200 := by
  obtain same | ⟨c, hc, v, clamped⟩ := h
  · rw [same]; exact hl.1 e he
  · rw [clamped]; exact clamp_band (hl.2 c hc) v

theorem State.setInForce_adopted {a : AdoptedSet} (h : s.setInForce n = some a) :
    ∃ p, a ∈ (s.profile p).adopted := by
  obtain ⟨p, -, ha⟩ := Option.bind_eq_some_iff.mp h
  exact ⟨p, ha⟩

theorem LineMove.speedSound {l : Line} (h : LineMove s n l)
    (sets : ∀ p : ProfileNo, ∀ a ∈ (s.profile p).adopted, BandSound a.pLo16 a.pNom16 a.pHi16)
    (hs : (s.line n).SpeedSound) : l.SpeedSound := by
  cases h with
  | timers =>
    refine ⟨fun e he => ?_, hs.2⟩
    obtain ⟨e', he', rfl⟩ := Option.mem_map.mp he
    exact hs.1 e' he'
  | service l h =>
    refine ⟨fun e he => hs.1 e (h.estimator ▸ he), fun c hc => ?_⟩
    obtain same | none := h.ctx
    · exact hs.2 c (same ▸ hc)
    · simp [none] at hc
  | estimate f h =>
    refine ⟨fun e he => ?_, hs.2⟩
    obtain ⟨e', he', rfl⟩ := Option.mem_map.mp he
    exact (h e' he').sound hs he'
  | train a e tId stamp _ ha he =>
    obtain ⟨p, hp⟩ := State.setInForce_adopted ha
    have band := sets p a hp
    refine ⟨fun e' he' => ?_, fun c hc => ?_⟩
    · obtain rfl := Option.mem_some_iff.mp he'
      exact trainStart_p16 band e
    · obtain rfl := Option.mem_some_iff.mp hc
      obtain ⟨lowest, below, above, highest⟩ := band
      exact ⟨lowest, le_rfl, below.trans above, highest⟩
  | opened p pol a ha =>
    obtain ⟨lowest, below, above, highest⟩ := sets p a ha
    refine ⟨fun e he => ?_, fun c hc => by simp [Line.opened, Line.outOfService, Decoder.atRest] at hc⟩
    obtain rfl := Option.mem_some_iff.mp he
    exact ⟨lowest.trans below, above.trans highest⟩
  | out => simp [Line.SpeedSound, Line.outOfService, Decoder.atRest]
  | unscanned | scanned | queue => exact hs

theorem SpeedsSound.of_move (h : Move s t) (hs : SpeedsSound s) : SpeedsSound t := by
  obtain ⟨sets, lines⟩ := hs
  refine ⟨fun p a ha => ?_, ?_⟩
  · obtain old | ⟨raw, g, hlen, accepted, rfl⟩ := h.adopted_cases ha
    · exact sets p a old
    · exact adoptedSet_bandSound g hlen accepted
  · exact h.keeps_lines (q := Line.SpeedSound)
      (fun _ => by simp [Line.SpeedSound, Line.outOfService, Decoder.atRest])
      (fun n _ h => h.speedSound sets (lines n)) lines

theorem speedsSound_reset : SpeedsSound State.reset := by
  refine ⟨fun p a ha => by simp [profile_reset] at ha, fun n => ?_⟩
  rw [line_reset]
  simp [Line.outOfService, Decoder.atRest]

/-- Settles O56: an estimate is taken from a set in force or clamped to the band of an open train. -/
theorem speedLawKept : Obligations.SpeedLawKept := by
  refine .of_moves (fun _ _ h => h) (fun _ _ => speedsSound_reset) (fun _ _ => speedsSound_reset)
    (fun _ _ h => .of_move h) (fun b s h => ⟨fun p a ha => ?_, fun n => ?_⟩) fun _ _ h => h
  · rw [State.profile_congr (settle_profiles b s)] at ha
    exact h.1 p a ha
  · rw [settle_line]
    exact h.2 n

/-! ### The order board -/

/-- The laws of the order board: one held order per line and slot, MARK targets in the host area, the sweep in range. -/
def BoardSound (s : State) : Prop :=
  OnePerLine s ∧ SlotsDistinct s ∧ MarkTargetsSound s ∧ SweepSound s

theorem not_slotHeld_iff {slot : SlotNo} :
    s.slotHeld slot = false ↔ ∀ o ∈ s.board.accepted, o.slot ≠ slot := by
  simp [State.slotHeld]

theorem lineHolder_none {n : LineNo} (h : lineHolder s n = none) {o : HeldOrder}
    (ho : o ∈ s.board.accepted) (perLine : o.kind.perLine = true) : o.line ≠ some n := by
  have := List.find?_eq_none.mp (Option.map_eq_none_iff.mp h) o ho
  simpa [perLine] using this

theorem BoardMove.sound {b : OrderBoard} (h : BoardMove s b) (hb : t.board = b)
    (hs : BoardSound s) : BoardSound t := by
  obtain ⟨lines, slots, targets, sweep⟩ := hs
  unfold BoardSound OnePerLine SlotsDistinct MarkTargetsSound SweepSound
  rw [hb]
  cases h with
  | accept o h =>
    refine ⟨?_, ?_, ?_, sweep⟩
    · refine List.pairwise_append.mpr ⟨lines, List.pairwise_singleton _ _, ?_⟩
      simp only [List.mem_singleton, forall_eq]
      intro a ha held perLine
      obtain ⟨n, named, free⟩ := h.line perLine
      rw [named]
      exact lineHolder_none free ha held
    · refine List.pairwise_append.mpr ⟨slots, List.pairwise_singleton _ _, ?_⟩
      simp only [List.mem_singleton, forall_eq]
      exact not_slotHeld_iff.mp h.slot
    · intro a ha mark
      obtain old | rfl := (List.mem_append.mp ha).imp_right List.mem_singleton.mp
      · exact targets a old mark
      · exact h.target mark
  | accepted l sub =>
    exact ⟨lines.sublist sub, slots.sublist sub, fun o ho => targets o (sub.subset ho), sweep⟩
  | sweep at? held h =>
    exact ⟨lines, slots, targets, fun k hk => (h k hk).elim id fun same => sweep k same⟩

theorem boardSound_reset : BoardSound State.reset := by
  simp [BoardSound, OnePerLine, SlotsDistinct, MarkTargetsSound, SweepSound, State.reset]

theorem BoardSound.of_move (h : Move s t) (hs : BoardSound s) : BoardSound t := by
  obtain moved | same := h.board_cases
  · exact moved.sound rfl hs
  · unfold BoardSound OnePerLine SlotsDistinct MarkTargetsSound SweepSound
    rw [same]
    exact hs

/-- Settles O55: an order joins the list only behind the checks, and the sweep goes on below 16. -/
theorem orderBoardLawsKept : Obligations.OrderBoardLawsKept := by
  refine KeptByStep.of_moves (p := BoardSound) (fun _ _ h => h) (fun _ _ => boardSound_reset)
    (fun _ _ => boardSound_reset) (fun _ _ h => .of_move h) (fun b s h => ?_) fun _ _ h => h
  obtain ⟨-, -, board, -⟩ := settle_keeps b s
  unfold BoardSound OnePerLine SlotsDistinct MarkTargetsSound SweepSound
  rw [board]
  exact h

end Sys2Proof.Machine
end

section
/-! MUTE and lines OUT: a MUTE latch follows the state at the end of every event, and no move gives a line OUT anything but
a sample (R11, R32). -/

namespace Sys2Proof.Machine

variable {s t u : State} {n : LineNo}

theorem KeptByStep.and {p q : State → Prop} (hp : KeptByStep p) (hq : KeptByStep q) :
    KeptByStep fun s => p s ∧ q s :=
  fun s t h step => ⟨hp s t h.1 step, hq s t h.2 step⟩

/-! ### The conditions of MUTE -/

/-- The sender bound to a line depends on the senders' lines alone. -/
theorem State.boundSender_congr (h : ∀ k, (t.sender k).map (·.line) = (s.sender k).map (·.line))
    (n : LineNo) : t.boundSender n = s.boundSender n := by
  have same (k : SenderNo) : boundTo n (t.sender k) = boundTo n (s.sender k) := by
    have bound (b : Option Binding) : boundTo n b = decide ((b.map (·.line)) = some n) := by
      cases b with
      | none => rfl
      | some b => simp only [boundTo, Option.map_some, Option.some.injEq]; rfl
    rw [bound, bound, h]
  simp only [State.boundSender, same]

theorem State.muteOn_congr (line : (t.line n).mode = (s.line n).mode ∧
      (t.line n).decoder = (s.line n).decoder ∧ (t.line n).queue = (s.line n).queue)
    (bound : t.boundSender n = s.boundSender n) : t.muteOn n = s.muteOn n := by
  obtain ⟨mode, decoder, queue⟩ := line
  simp only [State.muteOn, mode, decoder, queue, bound]

theorem State.muteOn_of_inactive (h : (s.line n).mode ≠ .active) : s.muteOn n = false := by
  unfold State.muteOn
  split <;> simp_all

theorem settle_boundSender (b s : State) (n : LineNo) :
    (settle b s).boundSender n = s.boundSender n :=
  State.boundSender_congr (fun k => by rw [State.sender_congr (settle_keeps b s).1]) n

theorem settle_muteOn (b s : State) (n : LineNo) : (settle b s).muteOn n = s.muteOn n :=
  State.muteOn_congr (by rw [settle_line]; exact ⟨rfl, rfl, rfl⟩) (settle_boundSender b s n)

/-- Every MUTE latch stands as R32 has it at the end of an event. -/
theorem settle_muteSound (b s : State) : MuteSound (settle b s) := fun n => by
  rw [settle_muteOn, settle_line]

theorem setSender_line_of_same_line {k : SenderNo} {b c : Binding} (h : s.sender k = some b)
    (line : c.line = b.line) (j : SenderNo) :
    ((s.setSender k (some c)).sender j).map (·.line) = (s.sender j).map (·.line) := by
  by_cases hj : j = k
  · subst hj; rw [State.setSender_sender_same, h]; simp [line]
  · rw [State.setSender_sender_other _ _ _ _ hj]

theorem settleFrame_sender (s : State) (k : SenderNo) :
    (settleFrame s).sender k = (s.sender k).map afterSample := by
  simp [settleFrame, State.sender]

theorem settleFrame_sender_line (s : State) (k : SenderNo) :
    ((settleFrame s).sender k).map (·.line) = (s.sender k).map (·.line) := by
  rw [settleFrame_sender, Option.map_map]
  congr 1
  funext b
  exact (afterSample_keeps b).2.2

variable {W : Nat → Prop}

theorem MuteSound.of_stage (h : Stage W s t) (hs : MuteSound s) : MuteSound t := by
  cases h with
  | aside h =>
    intro n
    have line := State.line_congr h.lines n
    rw [line, hs n]
    exact (State.muteOn_congr (by rw [line]; exact ⟨rfl, rfl, rfl⟩)
      (State.boundSender_congr (fun k => by rw [State.sender_congr h.senders]) n)).symm
  | counts k b h =>
    intro n
    exact (hs n).trans (State.muteOn_congr (t := s.setSender k _) (s := s) ⟨rfl, rfl, rfl⟩
      (State.boundSender_congr (setSender_line_of_same_line (c := { b with countdown := b.countdown - 1 }) h rfl) n)).symm
  | frame =>
    intro n
    exact (hs n).trans (State.muteOn_congr (t := settleFrame s) (s := s) ⟨rfl, rfl, rfl⟩
      (State.boundSender_congr (settleFrame_sender_line s) n)).symm
  | poke a v => exact hs
  | event => exact settle_muteSound _ _

theorem muteSound_of_out (h : ∀ n, s.line n = Line.outOfService false) : MuteSound s := by
  intro n
  rw [State.muteOn_of_inactive (by rw [h]; decide), h]
  rfl

theorem muteSound_kept : KeptByStep MuteSound := by
  refine .of_exec (fun _ _ h => h) fun c s t h hs => ?_
  by_cases reset : c = .pinReset
  · subst reset
    obtain rfl : initialising s = t := by simpa [exec, execPinReset] using h
    exact muteSound_of_out line_reset
  by_cases init : c = .storeInitialisationComplete
  · subst init
    obtain rfl : (if !s.ready then initialised s else s) = t := by
      simpa [exec, execStoreInitialisationComplete, occurs] using h
    split
    · exact muteSound_of_out line_reset
    · exact hs
  exact Stages.keeps (fun _ _ h => .of_stage h) (exec_stages reset init h) hs

/-! ### Lines OUT -/

/-- A line OUT holds nothing but its raw sample. -/
def Line.BareIfOut (l : Line) : Prop := l.mode = .out → l = Line.outOfService l.raw

theorem LineMove.bareIfOut {l : Line} (h : LineMove s n l) (hs : (s.line n).BareIfOut) :
    l.BareIfOut := by
  intro out
  cases h with
  | unscanned high => rw [hs out]; rfl
  | scanned high sc c hsc => rw [hs out] at hsc; cases hsc
  | timers => rw [hs out]; rfl
  | service l h => exact absurd out h.stays
  | estimate f h => rw [hs out]; rfl
  | train _ _ _ _ inService => exact absurd out inService
  | queue q h =>
    have bare := hs out
    have empty : q = .empty := h.bare out (by rw [bare]; rfl)
    rw [empty, bare]
    rfl
  | opened p pol a =>
    unfold Line.opened at out
    dsimp only at out
    split at out <;> cases out
  | out => rfl

theorem OutLinesBare.of_move (h : Move s t) (hs : OutLinesBare s) : OutLinesBare t :=
  h.keeps_lines (q := Line.BareIfOut) (fun _ _ => rfl) (fun n _ h => h.bareIfOut (hs n)) hs

theorem outLinesBare_reset : OutLinesBare State.reset := fun n _ => by rw [line_reset]; rfl

theorem outLinesBare_kept : KeptByStep OutLinesBare := by
  refine .of_moves (fun _ _ h => h) (fun _ _ => outLinesBare_reset) (fun _ _ => outLinesBare_reset)
    (fun _ _ h => .of_move h) (fun b s h n out => ?_) fun _ _ h => h
  rw [settle_line] at out ⊢
  have mute : s.muteOn n = false := State.muteOn_of_inactive (by rw [out]; decide)
  dsimp only at out ⊢
  rw [mute, h n out]
  rfl

/-- Settles O58: MUTE by the end of every event, lines OUT by the moves of a line. -/
theorem muteAndOutLawsKept : Obligations.MuteAndOutLawsKept :=
  muteSound_kept.and outLinesBare_kept

end Sys2Proof.Machine
end

section
/-! Queue units, senders and wait list together: the laws with names, in terms of the line of each sender and of each
request, and the rules by which the operations of queue unit and pool keep them (R97 to R111, R122 to R136). -/

namespace Sys2Proof.Machine

variable {s t u : State} {n m : LineNo} {k : SenderNo}

/-! ### The laws with names -/

/-- The laws of a line's queue unit but the one of its waiting flag. -/
structure Line.QueueLaws (l : Line) : Prop where
  room : l.queue.entries.length ≤ queueRoom
  inactive : l.mode ≠ .active → l.queue = .empty
  firstDigit : l.firstDigit.isSome = true → l.queue = .empty
  execution : l.queue.flight = none → l.queue.execution = .none
  credit : l.queue.credit ≤ l.queue.dialledCount
  held : 0 < l.queue.credit → l.discipline = .held
  owners : ∀ e ∈ l.queue.entries, e.origin = .dialled → e.owner = none

/-- The line plays the entry of a sender. -/
structure Line.Plays (l : Line) : Prop where
  active : l.mode = .active
  flight : l.queue.flight.isSome = true
  execution : l.queue.execution = .none

/-- The line that a sender is bound to. -/
def State.boundLine (s : State) (k : SenderNo) : Option LineNo := (s.sender k).map (·.line)

/-- The lines that ask for a sender, in the order of their requests. -/
def State.askingLines (s : State) : List LineNo := s.waitList.map (·.line)

/-- The laws of the pool but the one of the waiting flags. -/
structure PoolLaws (s : State) : Prop where
  queues : ∀ n, (s.line n).QueueLaws
  plays : ∀ k n, s.boundLine k = some n → (s.line n).Plays
  one : ∀ j k n, s.boundLine j = some n → s.boundLine k = some n → j = k
  list : s.askingLines.Nodup
  waits : ∀ n, (s.line n).queue.waiting = true ↔ n ∈ s.askingLines

/-- A waiting line has a sendable TONE to send. -/
def Line.WaitsReady (l : Line) : Prop := l.queue.waiting = true → l.toneReady = true

theorem Line.queueSound_iff (l : Line) : l.QueueSound ↔ l.QueueLaws ∧ l.WaitsReady := by
  constructor
  · rintro ⟨room, inactive, firstDigit, execution, waits, credit, held, owners⟩
    exact ⟨⟨room, inactive, firstDigit, execution, credit, held, owners⟩, waits⟩
  · rintro ⟨⟨room, inactive, firstDigit, execution, credit, held, owners⟩, waits⟩
    exact ⟨room, inactive, firstDigit, execution, waits, credit, held, owners⟩

theorem State.boundLine_eq_some : s.boundLine k = some n ↔ ∃ b, s.sender k = some b ∧ b.line = n :=
  Option.map_eq_some_iff

theorem State.mem_askingLines : n ∈ s.askingLines ↔ ∃ r ∈ s.waitList, r.line = n := List.mem_map

theorem poolSound_iff : PoolSound s ↔ PoolLaws s ∧ ∀ n, (s.line n).WaitsReady := by
  constructor
  · rintro ⟨queues, plays, one, list, waits⟩
    refine ⟨⟨fun n => ((Line.queueSound_iff _).mp (queues n)).1, fun k n h => ?_,
      fun j k n hj hk => ?_, List.pairwise_map.mpr list,
      fun n => (waits n).trans State.mem_askingLines.symm⟩,
      fun n => ((Line.queueSound_iff _).mp (queues n)).2⟩
    · obtain ⟨b, hb, rfl⟩ := State.boundLine_eq_some.mp h
      obtain ⟨active, flight, execution⟩ := plays k b hb
      exact ⟨active, flight, execution⟩
    · obtain ⟨b, hb, rfl⟩ := State.boundLine_eq_some.mp hj
      obtain ⟨c, hc, same⟩ := State.boundLine_eq_some.mp hk
      exact one j k b hb c hc same.symm
  · rintro ⟨⟨queues, plays, one, list, waits⟩, ready⟩
    refine ⟨fun n => (Line.queueSound_iff _).mpr ⟨queues n, ready n⟩, fun k b hb => ?_,
      fun j k b hb c hc same => ?_, List.pairwise_map.mp list,
      fun n => (waits n).trans State.mem_askingLines⟩
    · obtain ⟨active, flight, execution⟩ := plays k _ (State.boundLine_eq_some.mpr ⟨b, hb, rfl⟩)
      exact ⟨active, flight, execution⟩
    · exact one j k _ (State.boundLine_eq_some.mpr ⟨b, hb, rfl⟩)
        (State.boundLine_eq_some.mpr ⟨c, hc, same.symm⟩)

/-! ### What the laws read -/

/-- What the laws of queue and pool read of a line. -/
def Line.sending (l : Line) : LineMode × Option CallContext × Option Timer × QueueUnit :=
  (l.mode, l.call, l.firstDigit, l.queue)

/-- The laws of a line read its mode, call context, first-digit timer and queue unit alone. -/
theorem Line.reads_sending {l l' : Line} (h : l'.sending = l.sending) :
    (l.QueueLaws → l'.QueueLaws) ∧ (l.Plays → l'.Plays) ∧ l'.queue = l.queue ∧
      l'.toneReady = l.toneReady := by
  simp only [Line.sending, Prod.mk.injEq] at h
  obtain ⟨mode, call, firstDigit, queue⟩ := h
  have discipline : l'.discipline = l.discipline := by simp only [Line.discipline, call]
  have sendable : l'.sendable = l.sendable := by
    funext e; simp only [Line.sendable, discipline, queue]
  refine ⟨fun ⟨h1, h2, h3, h4, h5, h6, h7⟩ => ?_, fun ⟨active, flight, execution⟩ => ?_, queue, ?_⟩
  · constructor <;> rw [queue]
    · exact h1
    · rw [mode]; exact h2
    · rw [firstDigit]; exact h3
    · exact h4
    · exact h5
    · rw [discipline]; exact h6
    · exact h7
  · constructor <;> simp only [mode, queue]
    · exact active
    · exact flight
    · exact execution
  · simp only [Line.toneReady, mode, queue, sendable]

theorem PoolLaws.congr (h : PoolLaws s) (lines : ∀ m, (t.line m).sending = (s.line m).sending)
    (bound : ∀ k, t.boundLine k = s.boundLine k) (asking : t.askingLines = s.askingLines) :
    PoolLaws t := by
  obtain ⟨queues, plays, one, list, waits⟩ := h
  have reads (m : LineNo) := Line.reads_sending (lines m)
  refine ⟨fun m => (reads m).1 (queues m), fun k m hk => (reads m).2.1 (plays k m (bound k ▸ hk)),
    fun j k m hj hk => one j k m (bound j ▸ hj) (bound k ▸ hk), asking ▸ list, fun m => ?_⟩
  rw [(reads m).2.2.1, asking]
  exact waits m

theorem PoolSound.congr (h : PoolSound s) (lines : ∀ m, (t.line m).sending = (s.line m).sending)
    (bound : ∀ k, t.boundLine k = s.boundLine k) (asking : t.askingLines = s.askingLines) :
    PoolSound t := by
  obtain ⟨laws, ready⟩ := poolSound_iff.mp h
  refine poolSound_iff.mpr ⟨laws.congr lines bound asking, fun m waiting => ?_⟩
  obtain ⟨-, -, queue, tone⟩ := Line.reads_sending (lines m)
  rw [tone]
  exact ready m (queue ▸ waiting)

theorem State.boundLine_congr (h : t.senders = s.senders) (k : SenderNo) :
    t.boundLine k = s.boundLine k := by
  rw [State.boundLine, State.sender_congr h, State.boundLine]

theorem State.askingLines_congr (h : t.waitList = s.waitList) : t.askingLines = s.askingLines := by
  rw [State.askingLines, h, State.askingLines]

/-- The laws read the lines, the senders and the wait list. -/
theorem PoolSound.of_same (h : PoolSound s) (lines : ∀ m, (t.line m).sending = (s.line m).sending)
    (senders : t.senders = s.senders) (waitList : t.waitList = s.waitList) : PoolSound t :=
  h.congr lines (State.boundLine_congr senders) (State.askingLines_congr waitList)

theorem Aside.poolSound (a : Aside s t) (h : PoolSound s) : PoolSound t :=
  h.of_same (fun m => by rw [State.line_congr a.lines]) a.senders a.waitList

/-! ### Consequences -/

/-- A line with an entry in flight, or outside ACTIVE, does not wait. -/
theorem Line.WaitsReady.not_waiting {l : Line} (h : l.WaitsReady)
    (busy : l.mode ≠ .active ∨ l.queue.flight.isSome = true) : l.queue.waiting = false := by
  by_contra waiting
  have ready := h (by simpa using waiting)
  simp only [Line.toneReady, Bool.and_eq_true, decide_eq_true_eq] at ready
  obtain ⟨⟨active, flight⟩, -⟩ := ready
  obtain inactive | flying := busy
  · exact inactive active
  · simp_all

/-- A line with nothing in flight has no sender. -/
theorem PoolLaws.not_bound (h : PoolLaws s)
    (free : (s.line n).mode ≠ .active ∨ (s.line n).queue.flight = none ∨
      (s.line n).queue.execution ≠ .none) (k : SenderNo) : s.boundLine k ≠ some n := by
  intro bound
  obtain ⟨active, flight, execution⟩ := h.plays k n bound
  obtain inactive | none | executing := free
  · exact inactive active
  · rw [none] at flight; cases flight
  · exact executing execution

theorem PoolLaws.withoutRequest (h : PoolLaws s) (calm : (s.line n).queue.waiting = false) :
    withoutRequest n s.waitList = s.waitList := by
  refine withoutRequest_eq_self fun q hq same => ?_
  have := (h.waits n).mpr (State.mem_askingLines.mpr ⟨q, hq, same⟩)
  rw [calm] at this
  cases this

/-! ### A change of one line, of one sender, of the list -/

/-- The laws with one line changed. -/
theorem PoolLaws.setLine {l : Line} (h : PoolLaws s) (laws : l.QueueLaws)
    (plays : ∀ k, s.boundLine k = some n → l.Plays)
    (waiting : l.queue.waiting = (s.line n).queue.waiting) : PoolLaws (s.setLine n l) := by
  refine ⟨fun m => ?_, fun k m hk => ?_, h.one, h.list, fun m => ?_⟩
  all_goals
    rw [State.setLine_line]
    split
  · exact laws
  · exact h.queues m
  · next same => subst same; exact plays k hk
  · exact h.plays k m hk
  · next same => subst same; rw [waiting]; exact h.waits m
  · exact h.waits m

theorem PoolSound.setLine {l : Line} (h : PoolSound s) (laws : l.QueueLaws)
    (plays : ∀ k, s.boundLine k = some n → l.Plays)
    (waiting : l.queue.waiting = (s.line n).queue.waiting) (ready : l.WaitsReady) :
    PoolSound (s.setLine n l) := by
  obtain ⟨pool, others⟩ := poolSound_iff.mp h
  refine poolSound_iff.mpr ⟨pool.setLine laws plays waiting, fun m => ?_⟩
  rw [State.setLine_line]
  split
  · exact ready
  · exact others m

theorem State.setSender_boundLine (s : State) (j k : SenderNo) (b : Option Binding) :
    (s.setSender k b).boundLine j = if j = k then b.map (·.line) else s.boundLine j := by
  unfold State.boundLine
  split
  · next h => subst h; rw [State.setSender_sender_same]
  · next h => rw [State.setSender_sender_other _ _ _ _ h]

/-- A sender that becomes FREE. -/
theorem PoolSound.freed (h : PoolSound s) (k : SenderNo) : PoolSound (s.setSender k none) := by
  obtain ⟨pool, ready⟩ := poolSound_iff.mp h
  have bound {j : SenderNo} {m : LineNo} (hj : (s.setSender k none).boundLine j = some m) :
      s.boundLine j = some m := by
    rw [State.setSender_boundLine] at hj
    split at hj
    · cases hj
    · exact hj
  exact poolSound_iff.mpr ⟨⟨pool.queues, fun j m hj => pool.plays j m (bound hj),
    fun i j m hi hj => pool.one i j m (bound hi) (bound hj), pool.list, pool.waits⟩, ready⟩

theorem PoolSound.setSender_same_line {b c : Binding} (h : PoolSound s) (hb : s.sender k = some b)
    (same : c.line = b.line) : PoolSound (s.setSender k (some c)) := by
  refine h.congr (fun _ => rfl) (fun j => ?_) rfl
  rw [State.setSender_boundLine]
  split
  · next hj => subst hj; simp [State.boundLine, hb, same]
  · rfl

/-! ### The head leaves -/

theorem Line.toneReady_iff {l : Line} : l.toneReady = true ↔
    l.mode = .active ∧ l.queue.flight = none ∧
      ∃ e rest code, l.queue.entries = e :: rest ∧ e.kind = .tone code ∧ l.sendable e = true := by
  constructor
  · intro h
    have active := Line.active_of_toneReady h
    have flight : l.queue.flight = none := by
      simp only [Line.toneReady, Bool.and_eq_true, decide_eq_true_eq] at h
      exact Option.isNone_iff_eq_none.mp h.1.2
    obtain ⟨code, origin, owner, rest, head⟩ := Line.toneReady_head h
    rw [Line.toneReady_of_head active flight head] at h
    exact ⟨active, flight, _, rest, code, head, rfl, h⟩
  · rintro ⟨active, flight, e, rest, code, head, kind, sendable⟩
    rw [Line.toneReady_of_head active flight head, kind]
    exact sendable

/-- What the head leaving makes of the queue unit. -/
theorem Line.leaveHead_queue {l : Line} {e : Entry} {rest : List Entry}
    (head : l.queue.entries = e :: rest) :
    l.leaveHead.queue.entries = rest ∧ l.leaveHead.queue.flight.isSome = true ∧
      l.leaveHead.queue.waiting = false ∧ l.leaveHead.queue.execution = l.queue.execution ∧
      l.leaveHead.queue.credit =
        if l.usesCredit e then l.queue.credit - 1 else l.queue.credit := by
  simp [Line.leaveHead, head]

theorem QueueOnly.discipline {l l' : Line} (h : QueueOnly l l') : l'.discipline = l.discipline := by
  unfold QueueOnly at h; rw [h]; rfl

theorem Line.leaveHead_laws {l : Line} {e : Entry} {rest : List Entry} (h : l.QueueLaws)
    (active : l.mode = .active) (head : l.queue.entries = e :: rest) : l.leaveHead.QueueLaws := by
  obtain ⟨entries, flight, -, -, credit⟩ := Line.leaveHead_queue head
  have only := Line.leaveHead_queueOnly l
  have mode : l.leaveHead.mode = .active := only.sendOnly.mode.trans active
  have first : l.leaveHead.firstDigit = l.firstDigit := by rw [show l.leaveHead = _ from only]
  have queued : l.queue ≠ .empty := fun empty => by simp [empty, QueueUnit.empty] at head
  have dialled : l.queue.dialledCount =
      rest.countP (fun e => decide (e.origin = .dialled)) + if e.origin = .dialled then 1 else 0 := by
    simp [QueueUnit.dialledCount, head, List.countP_cons]
  have counted := h.credit
  rw [dialled] at counted
  refine ⟨?_, fun inactive => absurd mode inactive,
    fun running => absurd (h.firstDigit (first ▸ running)) queued,
    fun none => (by rw [none] at flight; cases flight), ?_, fun positive => ?_, ?_⟩
  · rw [entries]
    have := h.room
    rw [head, List.length_cons] at this
    omega
  · rw [QueueUnit.dialledCount, entries, credit]
    by_cases origin : e.origin = .dialled
    · by_cases held : l.discipline = .held
      · simp only [Line.usesCredit, origin, held, decide_true, Bool.and_self, if_true] at counted ⊢
        omega
      · have : l.queue.credit = 0 := by
          by_contra positive
          exact held (h.held (Nat.pos_of_ne_zero positive))
        simp [this]
    · simp only [Line.usesCredit, origin, decide_false, Bool.false_and, if_false] at counted ⊢
      simpa using counted
  · rw [only.discipline]
    refine h.held ?_
    rw [credit] at positive
    split at positive <;> omega
  · rw [entries]
    exact fun x hx => h.owners x (by rw [head]; exact List.mem_cons_of_mem _ hx)

/-! ### Grants, requests, starts -/

theorem bindSender_of_ready (k : SenderNo) (ready : (s.line n).toneReady = true) :
    ∃ b : Binding, b.line = n ∧
      bindSender k n s = (s.modLine n Line.leaveHead).setSender k (some b) := by
  obtain ⟨code, origin, owner, rest, head⟩ := Line.toneReady_head ready
  exact ⟨_, rfl, bindSender_of_tone head⟩

/-- A sender takes the head of a line that is ready for it, whose request leaves the list. -/
theorem PoolSound.binds (h : PoolSound s) (k : SenderNo)
    (ready : (s.line n).toneReady = true) :
    PoolSound (bindSender k n (s.setWaitList (withoutRequest n s.waitList))) := by
  obtain ⟨pool, waits⟩ := poolSound_iff.mp h
  obtain ⟨active, flight, e, rest, _, head, -, -⟩ := Line.toneReady_iff.mp ready
  obtain ⟨-, leaves, calm, execution, -⟩ := Line.leaveHead_queue head
  have unbound := pool.not_bound (n := n) (.inr (.inl flight))
  obtain ⟨b, named, eq⟩ := bindSender_of_ready (s := s.setWaitList (Machine.withoutRequest n s.waitList))
    k ready
  rw [eq]
  have line (m : LineNo) : (((s.setWaitList (Machine.withoutRequest n s.waitList)).modLine n
      Line.leaveHead).setSender k (some b)).line m =
      if m = n then (s.line n).leaveHead else s.line m :=
    State.modLine_line (s.setWaitList _) n m Line.leaveHead
  have bound (j : SenderNo) : (((s.setWaitList (Machine.withoutRequest n s.waitList)).modLine n
      Line.leaveHead).setSender k (some b)).boundLine j =
      if j = k then some n else s.boundLine j := by
    rw [← named]; exact State.setSender_boundLine _ j k _
  have asking : (((s.setWaitList (Machine.withoutRequest n s.waitList)).modLine n
      Line.leaveHead).setSender k (some b)).askingLines =
      s.askingLines.filter fun m => m != n := by
    simp only [State.askingLines, State.setSender_waitList, State.modLine, State.setLine_waitList,
      State.setWaitList_waitList, Machine.withoutRequest, List.filter_map]
    rfl
  refine poolSound_iff.mpr ⟨⟨fun m => ?_, fun j m hj => ?_, fun i j m hi hj => ?_, ?_, fun m => ?_⟩,
    fun m => ?_⟩
  · rw [line]
    split
    · exact Line.leaveHead_laws (pool.queues n) active head
    · exact pool.queues m
  · rw [bound] at hj
    rw [line]
    split
    · exact ⟨(Line.leaveHead_queueOnly _).sendOnly.mode.trans active, leaves,
        execution.trans ((pool.queues n).execution flight)⟩
    · next other =>
      split at hj
      · exact absurd (Option.some.inj hj).symm other
      · exact pool.plays j m hj
  · rw [bound] at hi hj
    split at hi <;> split at hj
    · next hi' hj' => rw [hi', hj']
    · obtain rfl := Option.some.inj hi; exact absurd hj (unbound j)
    · obtain rfl := Option.some.inj hj; exact absurd hi (unbound i)
    · exact pool.one i j m hi hj
  · rw [asking]; exact pool.list.filter _
  · rw [line, asking, List.mem_filter]
    split
    · next same => subst same; simp [calm]
    · next other => simpa [other] using pool.waits m
  · rw [line]
    split
    · exact fun waiting => by rw [calm] at waiting; cases waiting
    · exact waits m

theorem bestRequest_mem {l : List Request} {r : Request} (h : bestRequest l = some r) : r ∈ l := by
  unfold bestRequest at h
  split at h
  · next r' found =>
    obtain rfl := Option.some.inj h
    exact List.mem_of_find?_eq_some found
  · exact List.mem_of_mem_head? h

theorem PoolSound.grantOnce (h : PoolSound s) : PoolSound (grantOnce s) := by
  unfold Machine.grantOnce
  split
  · exact h
  · split
    · next k r _ best => exact h.binds k (h.toneReady_of_mem (bestRequest_mem best))
    · exact h

theorem PoolSound.grantAll (h : PoolSound s) : PoolSound (grantAll s) := by
  unfold Machine.grantAll
  generalize List.range 12 = l
  induction l generalizing s with
  | nil => exact h
  | cons _ rest ih => exact ih h.grantOnce

theorem PoolSound.postRequest (h : PoolSound s) (ready : (s.line n).toneReady = true)
    (calm : (s.line n).queue.waiting = false) : PoolSound (postRequest n s) := by
  obtain ⟨pool, waits⟩ := poolSound_iff.mp h
  have absent : n ∉ s.askingLines := fun mem => by
    rw [← pool.waits, calm] at mem; cases mem
  refine PoolSound.grantOnce ?_
  have line (m : LineNo) : ((s.setWaitList (s.waitList ++ [newRequest n (s.line n)])).modQueue n
      fun q => { q with waiting := true }).line m =
        if m = n then { s.line n with queue := { (s.line n).queue with waiting := true } }
        else s.line m :=
    State.modLine_line (s.setWaitList _) n m _
  have asking : ((s.setWaitList (s.waitList ++ [newRequest n (s.line n)])).modQueue n
      fun q => { q with waiting := true }).askingLines = s.askingLines ++ [n] := by
    simp [State.askingLines, State.modQueue, State.modLine, newRequest]
  have laws := pool.queues n
  obtain ⟨active, flight, _, _, _, head, -, -⟩ := Line.toneReady_iff.mp ready
  have queued : (s.line n).queue ≠ .empty := fun empty => by simp [empty, QueueUnit.empty] at head
  refine poolSound_iff.mpr ⟨⟨fun m => ?_, fun j m hj => ?_, pool.one, ?_, fun m => ?_⟩, fun m => ?_⟩
  · rw [line]
    split
    · exact ⟨laws.room, fun inactive => absurd active inactive,
        fun running => absurd (laws.firstDigit running) queued, laws.execution, laws.credit,
        laws.held, laws.owners⟩
    · exact pool.queues m
  · rw [line]
    split
    · next same => subst same; exact absurd hj (pool.not_bound (.inr (.inl flight)) j)
    · exact pool.plays j m hj
  · rw [asking]
    exact List.nodup_append.mpr ⟨pool.list, List.nodup_singleton n, by
      rintro a ha b hb rfl
      obtain rfl := List.mem_singleton.mp hb
      exact absent ha⟩
  · rw [line, asking, List.mem_append, List.mem_singleton]
    split
    · next same => simp [same]
    · next other => simpa [other] using pool.waits m
  · rw [line]
    split
    · exact fun _ => ready
    · exact waits m

/-- The laws hold, but line `n` may wait without a TONE to send, until its head is examined. -/
structure Unexamined (n : LineNo) (s : State) : Prop where
  laws : PoolLaws s
  others : ∀ m, m ≠ n → (s.line m).WaitsReady
  free : (s.line n).queue.waiting = true →
    (s.line n).mode = .active ∧ (s.line n).queue.flight = none

theorem PoolSound.unexamined (h : PoolSound s) (n : LineNo) : Unexamined n s := by
  obtain ⟨pool, ready⟩ := poolSound_iff.mp h
  refine ⟨pool, fun m _ => ready m, fun waiting => ?_⟩
  obtain ⟨active, flight, -⟩ := Line.toneReady_iff.mp (ready n waiting)
  exact ⟨active, flight⟩

theorem Unexamined.poolSound (h : Unexamined n s) (ready : (s.line n).WaitsReady) : PoolSound s := by
  refine poolSound_iff.mpr ⟨h.laws, fun m => ?_⟩
  by_cases same : m = n
  · rw [same]; exact ready
  · exact h.others m same

theorem PoolSound.setLine_unexamined {l : Line} (h : PoolSound s) (laws : l.QueueLaws)
    (plays : ∀ k, s.boundLine k = some n → l.Plays)
    (waiting : l.queue.waiting = (s.line n).queue.waiting)
    (free : l.queue.waiting = true → l.mode = .active ∧ l.queue.flight = none) :
    Unexamined n (s.setLine n l) := by
  obtain ⟨pool, ready⟩ := poolSound_iff.mp h
  refine ⟨pool.setLine laws plays waiting, fun m other => ?_, ?_⟩
  · rw [State.setLine_line_other _ _ _ _ other]; exact ready m
  · rw [State.setLine_line_same]; exact free

theorem Unexamined.of_aside (h : Unexamined n s) (a : Aside s t) : Unexamined n t := by
  have line := State.line_congr a.lines
  refine ⟨h.laws.congr (fun m => by rw [line]) (State.boundLine_congr a.senders)
    (State.askingLines_congr a.waitList), fun m other => ?_, ?_⟩
  · rw [line]; exact h.others m other
  · rw [line]; exact h.free

/-- A withdrawal leaves nothing but the request and the waiting flag. -/
theorem withdrawRequest_line_same (n : LineNo) (s : State) :
    (withdrawRequest n s).line n =
      { s.line n with queue := { (s.line n).queue with waiting := false } } := by
  unfold withdrawRequest
  split
  · exact State.modQueue_line_same (s.setWaitList _) n _
  · next calm =>
    have calm : (s.line n).queue.waiting = false := by simpa using calm
    rw [← calm]

theorem withdrawRequest_line_other (s : State) (h : m ≠ n) :
    (withdrawRequest n s).line m = s.line m := by
  unfold withdrawRequest
  split
  · exact State.modQueue_line_other (s.setWaitList _) _ h
  · rfl

theorem withdrawRequest_senders (n : LineNo) (s : State) :
    (withdrawRequest n s).senders = s.senders := by
  unfold withdrawRequest; split <;> rfl

theorem PoolLaws.withdrawRequest_asking (h : PoolLaws s) (n : LineNo) :
    (withdrawRequest n s).askingLines = s.askingLines.filter fun m => m != n := by
  unfold Machine.withdrawRequest
  split
  · simp only [State.askingLines, State.modQueue, State.modLine, State.setLine_waitList,
      State.setWaitList_waitList, Machine.withoutRequest, List.filter_map]
    rfl
  · next calm =>
    refine (List.filter_eq_self.mpr fun m hm => ?_).symm
    have waiting := (h.waits m).mpr hm
    simp only [bne_iff_ne, ne_eq]
    rintro rfl
    exact calm waiting

/-- Withdrawal settles a line that may not wait. -/
theorem Unexamined.withdrawRequest (h : Unexamined n s) : PoolSound (withdrawRequest n s) := by
  obtain ⟨pool, others, free⟩ := h
  have same := withdrawRequest_line_same n s
  have bound (k : SenderNo) : (Machine.withdrawRequest n s).boundLine k = s.boundLine k :=
    State.boundLine_congr (withdrawRequest_senders n s) k
  have asking := pool.withdrawRequest_asking n
  have laws := pool.queues n
  have still (he : (s.line n).queue = .empty) :
      { (s.line n).queue with waiting := false } = QueueUnit.empty := by rw [he]; rfl
  refine poolSound_iff.mpr ⟨⟨fun m => ?_, fun k m hk => ?_, fun j k m hj hk => ?_, ?_, fun m => ?_⟩,
    fun m => ?_⟩
  · by_cases hm : m = n
    · subst hm
      rw [same]
      exact ⟨laws.room, fun inactive => still (laws.inactive inactive),
        fun running => still (laws.firstDigit running), laws.execution, laws.credit, laws.held,
        laws.owners⟩
    · rw [withdrawRequest_line_other s hm]; exact pool.queues m
  · rw [bound] at hk
    obtain ⟨active, flight, execution⟩ := pool.plays k m hk
    by_cases hm : m = n
    · subst hm; rw [same]; exact ⟨active, flight, execution⟩
    · rw [withdrawRequest_line_other s hm]; exact ⟨active, flight, execution⟩
  · rw [bound] at hj hk; exact pool.one j k m hj hk
  · rw [asking]; exact pool.list.filter _
  · rw [asking, List.mem_filter]
    by_cases hm : m = n
    · subst hm; rw [same]; simp
    · rw [withdrawRequest_line_other s hm]; simpa [hm] using pool.waits m
  · by_cases hm : m = n
    · subst hm; rw [same]; exact nofun
    · rw [withdrawRequest_line_other s hm]; exact others m hm

/-- The head leaves for an execution of the queue unit. -/
theorem PoolSound.starts {e : Entry} {rest : List Entry} {l : Line} (h : PoolSound s)
    (active : (s.line n).mode = .active) (flight : (s.line n).queue.flight = none)
    (calm : (s.line n).queue.waiting = false) (head : (s.line n).queue.entries = e :: rest)
    (mode : l.mode = (s.line n).leaveHead.mode) (call : l.call = (s.line n).leaveHead.call)
    (first : l.firstDigit = (s.line n).leaveHead.firstDigit) (x : Execution)
    (queue : l.queue = { (s.line n).leaveHead.queue with execution := x }) :
    PoolSound (s.setLine n l) := by
  obtain ⟨pool, -⟩ := poolSound_iff.mp h
  obtain ⟨-, flies, waiting, -, -⟩ := Line.leaveHead_queue head
  have laws := Line.leaveHead_laws (pool.queues n) active head
  have queued : (s.line n).queue ≠ .empty := fun empty => by simp [empty, QueueUnit.empty] at head
  have only := Line.leaveHead_queueOnly (s.line n)
  rw [show (s.line n).leaveHead = _ from only] at mode call first
  have mode : l.mode = .active := mode.trans active
  have calm' : l.queue.waiting = false := by rw [queue]; exact waiting
  refine h.setLine ⟨?_, fun inactive => absurd mode inactive, fun running => ?_, fun none => ?_,
    ?_, fun positive => ?_, ?_⟩ (fun k hk => absurd hk (pool.not_bound (.inr (.inl flight)) k))
    (by rw [calm', calm]) (fun waits => by rw [calm'] at waits; cases waits)
  · rw [queue]; exact laws.room
  · exact absurd ((pool.queues n).firstDigit (first ▸ running)) queued
  · rw [queue] at none
    have none : (s.line n).leaveHead.queue.flight = Option.none := none
    rw [none] at flies; cases flies
  · rw [queue]; exact laws.credit
  · rw [queue] at positive
    have held := laws.held positive
    rw [only.discipline] at held
    rw [Line.discipline, call]; exact held
  · rw [queue]; exact laws.owners

theorem Unexamined.examined (ex : Examination n s t) (h : Unexamined n s) : PoolSound t := by
  have withdrawn := h.withdrawRequest
  have same := withdrawRequest_line_same n s
  cases ex with
  | stands busy =>
    refine h.poolSound fun waiting => ?_
    obtain ⟨active, flight⟩ := h.free waiting
    obtain inactive | flying := busy
    · exact absurd active inactive
    · rw [flight] at flying; cases flying
  | waits ready => exact h.poolSound fun _ => ready
  | posts ready calm =>
    exact (h.poolSound fun _ => ready).postRequest ready calm
  | withdraws => exact withdrawn
  | recalls e rest active flight head =>
    unfold startRecall
    rw [State.modLine_modLine]
    exact withdrawn.starts (e := e) (rest := rest) (by rw [same]; exact active)
      (by rw [same]; exact flight) (by rw [same]) (by rw [same]; exact head) rfl rfl rfl _ rfl
  | pauses e rest ms active flight head =>
    unfold startPause State.modQueue
    rw [State.modLine_modLine]
    exact withdrawn.starts (e := e) (rest := rest) (by rw [same]; exact active)
      (by rw [same]; exact flight) (by rw [same]) (by rw [same]; exact head) rfl rfl rfl _ rfl

theorem Unexamined.examineHead (h : Unexamined n s) : PoolSound (examineHead n s) :=
  h.examined (examineHead_examination n s)

theorem PoolSound.examineHead (h : PoolSound s) (n : LineNo) : PoolSound (examineHead n s) :=
  (h.unexamined n).examineHead

end Sys2Proof.Machine
end

section
/-! Every act keeps the laws of queue unit, pool and service (R18, R30, R37, R97 to R136). -/

namespace Sys2Proof.Machine

variable {s t u : State} {n m : LineNo} {k : SenderNo}

/-! ### Lines in service -/

/-- What a line in service has: a decoder at rest outside ACTIVE, and a set in force. -/
def Line.ServiceLaw (l : Line) (profiles : Vector Profile 8) : Prop :=
  (l.mode ≠ .active → l.decoder = .atRest) ∧
    (l.mode ≠ .out → (l.profile.bind fun p => profiles[p].adopted).isSome = true)

theorem serviceSound_iff : ServiceSound s ↔ ∀ n, (s.line n).ServiceLaw s.profiles := Iff.rfl

theorem ServiceSound.active (h : ServiceSound s) (on : Decoding n s) :
    (s.line n).mode = .active := by
  obtain active | ⟨inService, unset⟩ := on
  · exact active
  · have := (h n).2 inService
    rw [unset] at this
    cases this

theorem ServiceSound.of_same (h : ServiceSound s)
    (lines : ∀ m, (t.line m).mode = (s.line m).mode ∧ (t.line m).decoder = (s.line m).decoder ∧
      (t.line m).profile = (s.line m).profile)
    (profiles : t.profiles = s.profiles) : ServiceSound t := by
  refine serviceSound_iff.mpr fun m => ?_
  obtain ⟨mode, decoder, profile⟩ := lines m
  rw [Line.ServiceLaw, mode, decoder, profile, profiles]
  exact serviceSound_iff.mp h m

theorem ServiceSound.of_sendOnly (h : ServiceSound s)
    (lines : ∀ m, SendOnly (s.line m) (t.line m)) (profiles : t.profiles = s.profiles) :
    ServiceSound t :=
  h.of_same (fun m => by rw [show t.line m = _ from lines m]; exact ⟨rfl, rfl, rfl⟩) profiles

theorem ServiceSound.setLine {l : Line} (h : ServiceSound s) (law : l.ServiceLaw s.profiles) :
    ServiceSound (s.setLine n l) := by
  refine serviceSound_iff.mpr fun m => ?_
  rw [State.setLine_line]
  split
  · exact law
  · exact serviceSound_iff.mp h m

/-- A line in service that keeps its profile and is ACTIVE or has its decoder at rest. -/
theorem ServiceSound.modLine {f : Line → Line} (h : ServiceSound s)
    (inService : (s.line n).mode ≠ .out) (profile : (f (s.line n)).profile = (s.line n).profile)
    (rest : (f (s.line n)).mode ≠ .active → (f (s.line n)).decoder = .atRest) :
    ServiceSound (s.modLine n f) :=
  h.setLine ⟨rest, fun _ => by rw [profile]; exact (h n).2 inService⟩

theorem Line.outOfService_service (raw : Bool) (profiles : Vector Profile 8) :
    (Line.outOfService raw).ServiceLaw profiles :=
  ⟨fun _ => rfl, fun h => absurd rfl h⟩

/-! ### A line and its queue unit changed, the pool standing -/

/-- The unit is as empty as before: no entry, nothing in flight, no timer, no order. -/
theorem Line.QueueLaws.of_queue {l l' : Line} (h : l.QueueLaws) (mode : l'.mode = l.mode)
    (call : l'.call = l.call) (first : l'.firstDigit.isSome = true → l.firstDigit.isSome = true)
    (queue : l'.queue = l.queue) : l'.QueueLaws := by
  obtain ⟨room, inactive, firstDigit, execution, credit, held, owners⟩ := h
  have discipline : l'.discipline = l.discipline := by rw [Line.discipline, call]; rfl
  constructor <;> rw [queue]
  · exact room
  · rw [mode]; exact inactive
  · exact fun running => firstDigit (first running)
  · exact execution
  · exact credit
  · rw [discipline]; exact held
  · exact owners

/-- The laws of an empty unit. -/
theorem Line.QueueLaws.of_empty {l : Line} (empty : l.queue = .empty) : l.QueueLaws := by
  constructor <;> rw [empty] <;> simp [QueueUnit.empty, QueueUnit.dialledCount]

theorem Line.WaitsReady.of_calm {l : Line} (calm : l.queue.waiting = false) : l.WaitsReady :=
  fun waiting => by rw [calm] at waiting; cases waiting

theorem PoolSound.laws (h : PoolSound s) (n : LineNo) : (s.line n).QueueLaws :=
  (poolSound_iff.mp h).1.queues n

theorem PoolSound.ready (h : PoolSound s) (n : LineNo) : (s.line n).WaitsReady :=
  (poolSound_iff.mp h).2 n

/-- The first-digit timer runs on an empty unit alone, which has no sender. -/
theorem PoolSound.empties (h : PoolSound s) {l : Line} (empty : (s.line n).queue = .empty)
    (empty' : l.queue = .empty) : PoolSound (s.setLine n l) :=
  h.setLine (.of_empty empty')
    (fun k hk => absurd hk ((poolSound_iff.mp h).1.not_bound (.inr (.inl (by rw [empty]; rfl))) k))
    (by rw [empty, empty']) (.of_calm (by rw [empty']; rfl))

/-- A change of what the laws do not read. -/
theorem PoolSound.modLine_aside (h : PoolSound s) {f : Line → Line}
    (same : (f (s.line n)).sending = (s.line n).sending) : PoolSound (s.modLine n f) := by
  refine h.of_same (fun m => ?_) rfl rfl
  rw [State.modLine_line]
  split
  · next hm => rw [hm]; exact same
  · rfl

/-! ### Timers -/

theorem Line.raiseTimers_laws {l : Line} (h : l.QueueLaws) : l.raiseTimers.QueueLaws := by
  have still (empty : l.queue = .empty) : l.raiseTimers.queue = .empty := by
    simp [Line.raiseTimers, empty, QueueUnit.empty]
  exact ⟨h.room, fun inactive => still (h.inactive inactive),
    fun running => still (h.firstDigit (by simpa [Line.raiseTimers] using running)), h.execution,
    h.credit, h.held, h.owners⟩

theorem Line.raiseTimers_plays {l : Line} (h : l.Plays) : l.raiseTimers.Plays :=
  ⟨h.active, h.flight, h.execution⟩

theorem raiseTimers_asking (n : LineNo) (s : State) :
    (raiseTimers n s).askingLines = s.askingLines := by
  have same (r : Request) : (if r.line = n then r.raise s.sendHold else r).line = r.line := by
    split <;> rfl
  simp only [raiseTimers, State.askingLines, State.setWaitList_waitList, List.map_map]
  congr 1
  funext r
  exact same r

theorem PoolSound.raiseTimers (h : PoolSound s) (n : LineNo) : PoolSound (raiseTimers n s) := by
  have raised : PoolSound (s.modLine n Line.raiseTimers) :=
    h.setLine (Line.raiseTimers_laws (h.laws n))
      (fun k hk => Line.raiseTimers_plays ((poolSound_iff.mp h).1.plays k n hk)) rfl (h.ready n)
  exact raised.congr (fun _ => rfl) (fun _ => rfl) (raiseTimers_asking n s)

/-! ### Arrivals -/

/-- What an arrival leaves of the queue unit, and what it adds. -/
structure Arrived (l l' : Line) (new : List Entry) : Prop where
  mode : l'.mode = l.mode
  call : l'.call = l.call
  stopped : l'.firstDigit = none
  entries : l'.queue.entries = l.queue.entries ++ new
  flight : l'.queue.flight = l.queue.flight
  waiting : l'.queue.waiting = l.queue.waiting
  execution : l'.queue.execution = l.queue.execution
  credit : l'.queue.credit = l.queue.credit
  satisfied : l.queue.satisfied = true → l'.queue.satisfied = true

theorem Arrived.discipline {l l' : Line} {new : List Entry} (h : Arrived l l' new) :
    l'.discipline = l.discipline := by rw [Line.discipline, h.call]; rfl

theorem Arrived.laws {l l' : Line} {new : List Entry} (h : Arrived l l' new) (laws : l.QueueLaws)
    (active : l.mode = .active) (room : l.queue.entries.length + new.length ≤ queueRoom)
    (owners : ∀ e ∈ new, e.origin = .dialled → e.owner = none) : l'.QueueLaws := by
  refine ⟨?_, fun inactive => absurd (h.mode.trans active) inactive, fun running => ?_,
    fun none => ?_, ?_, fun positive => ?_, fun e he => ?_⟩
  · rw [h.entries, List.length_append]; exact room
  · rw [h.stopped] at running; cases running
  · rw [h.execution]; exact laws.execution (h.flight ▸ none)
  · rw [h.credit, QueueUnit.dialledCount, h.entries, List.countP_append]
    exact laws.credit.trans (Nat.le_add_right _ _)
  · rw [h.discipline]; exact laws.held (h.credit ▸ positive)
  · rw [h.entries] at he
    exact (List.mem_append.mp he).elim (laws.owners e) (owners e)

theorem Arrived.ready {l l' : Line} {new : List Entry} (h : Arrived l l' new)
    (ready : l.WaitsReady) : l'.WaitsReady := by
  intro waiting
  obtain ⟨active, flight, e, rest, code, head, kind, sendable⟩ :=
    Line.toneReady_iff.mp (ready (h.waiting ▸ waiting))
  refine Line.toneReady_iff.mpr ⟨h.mode.trans active, h.flight.trans flight, e, rest ++ new, code,
    by rw [h.entries, head]; rfl, kind, ?_⟩
  unfold Line.sendable at sendable ⊢
  rw [h.discipline, h.credit]
  cases origin : e.origin with
  | ordered => rfl
  | dialled =>
    rw [origin] at sendable
    cases discipline : l.discipline with
    | immediate => rfl
    | gather => rw [discipline] at sendable; exact h.satisfied sendable
    | held => rw [discipline] at sendable; exact sendable

theorem Arrived.plays {l l' : Line} {new : List Entry} (h : Arrived l l' new) (p : l.Plays) :
    l'.Plays :=
  ⟨h.mode.trans p.active, by rw [h.flight]; exact p.flight, h.execution.trans p.execution⟩

theorem PoolSound.arrives {l : Line} {new : List Entry} (h : PoolSound s)
    (a : Arrived (s.line n) l new) (active : (s.line n).mode = .active)
    (room : (s.line n).queue.entries.length + new.length ≤ queueRoom)
    (owners : ∀ e ∈ new, e.origin = .dialled → e.owner = none) : PoolSound (s.setLine n l) :=
  h.setLine (a.laws (h.laws n) active room owners)
    (fun k hk => a.plays ((poolSound_iff.mp h).1.plays k n hk)) a.waiting (a.ready (h.ready n))

/-- A restart of the gather wait touches the gather timer alone. -/
theorem Line.restartGather_eq (l : Line) :
    ∃ g, l.restartGather = { l with queue := { l.queue with gatherTimer := g } } := by
  unfold Line.restartGather
  split
  · split
    · exact ⟨l.queue.gatherTimer, rfl⟩
    · exact ⟨_, rfl⟩
  all_goals exact ⟨l.queue.gatherTimer, rfl⟩

/-- An arrival by dialling appends its entry; the gather's items alone move with it. -/
theorem Line.appendDialled_eq (l : Line) (e : Entry) :
    ∃ count satisfied timer, (l.queue.satisfied = true → satisfied = true) ∧
      l.appendDialled e =
        { l with
          queue :=
            { l.queue with
              entries := l.queue.entries ++ [e], gatherCount := count, satisfied := satisfied,
              gatherTimer := timer } } := by
  unfold Line.appendDialled
  dsimp only
  split
  · split
    · exact ⟨_, true, none, fun _ => rfl, rfl⟩
    · exact ⟨_, l.queue.satisfied, _, id, rfl⟩
  all_goals exact ⟨_, l.queue.satisfied, _, id, rfl⟩

theorem Line.appended_arrived (l : Line) (e : Entry) :
    Arrived l { l.restartGather.appendDialled e with firstDigit := none } [e] := by
  obtain ⟨g, restarted⟩ := l.restartGather_eq
  obtain ⟨count, satisfied, timer, kept, appended⟩ := l.restartGather.appendDialled_eq e
  rw [appended, restarted]
  rw [restarted] at kept
  exact ⟨rfl, rfl, rfl, rfl, rfl, rfl, rfl, rfl, kept⟩

/-- A hand-over, in its two outcomes: an entry taken and the head examined, or the entry lost. -/
theorem handOver_of_room {e : Entry} (room : (s.line n).hasRoom = true) :
    (handOver n e s).1 = examineHead n
      (s.modLine n fun l => { l.restartGather.appendDialled e with firstDigit := none }) := by
  unfold handOver
  dsimp only
  rw [if_pos room, stopFirstDigit, State.modLine_modLine, State.modLine_modLine]

theorem handOver_of_full {e : Entry} (full : (s.line n).hasRoom = false) :
    (handOver n e s).1 = reportOverflow n e (s.modLine n Line.restartGather) := by
  unfold handOver
  dsimp only
  rw [if_neg (by simp [full])]

theorem reportOverflow_poolSound (e : Entry) (h : PoolSound s) :
    PoolSound (reportOverflow n e s) := by
  unfold reportOverflow
  split
  · exact h
  · have reported := (reportFault_reports .queueOverflow n (lostCode e.kind) s).aside
      (reportFault_moves _ n _ s)
    exact (reported.poolSound h).modLine_aside rfl

theorem PoolSound.handOver {e : Entry} (h : PoolSound s) (active : (s.line n).mode = .active)
    (owner : e.owner = none) : PoolSound (handOver n e s).1 := by
  by_cases room : (s.line n).hasRoom = true
  · rw [handOver_of_room room]
    refine PoolSound.examineHead (h.arrives ((s.line n).appended_arrived e) active ?_ ?_) n
    · have : (s.line n).queue.entries.length < queueRoom := of_decide_eq_true room
      simpa using this
    · simp [owner]
  · rw [handOver_of_full (by simpa using room)]
    refine reportOverflow_poolSound e ?_
    obtain ⟨g, restarted⟩ := (s.line n).restartGather_eq
    have laws := h.laws n
    have queued : (s.line n).queue ≠ .empty := by
      intro empty
      simp [Line.hasRoom, empty, QueueUnit.empty, queueRoom] at room
    refine h.setLine ?_ (fun k hk => ?_) ?_ fun waiting => ?_
    all_goals rw [restarted] at *
    · exact ⟨laws.room, fun inactive => absurd active inactive,
        fun running => absurd (laws.firstDigit running) queued, laws.execution, laws.credit,
        laws.held, laws.owners⟩
    · obtain ⟨active, flight, execution⟩ := (poolSound_iff.mp h).1.plays k n hk
      exact ⟨active, flight, execution⟩
    · exact h.ready n waiting

/-! ### Finishes and completions -/

/-- What a finish leaves of its line: the entry has left flight, and the order record is taken into account. -/
theorem finishFlight_aside (n : LineNo) (s : State) :
    ∃ order, ((s.line n).queue = .empty → order = none) ∧
      Aside (s.modQueue n fun q => { q with flight := none, order := order }) (finishFlight n s) := by
  have merged (order : Option OrderRecord) :
      (s.modQueue n fun q => { q with flight := none }).modQueue n (fun q => { q with order := order }) =
        s.modQueue n fun q => { q with flight := none, order := order } := by
    unfold State.modQueue; rw [State.modLine_modLine]
  unfold finishFlight
  dsimp only
  split
  · next r _ held =>
    refine ⟨r.finish.1, fun empty => by simp [empty, QueueUnit.empty] at held, ?_⟩
    rw [merged]
    split
    · exact (completeOrder_answers _ _ _ _).aside (completeOrder_moves _ _ _ _)
    · exact ⟨.refl, rfl, rfl, rfl, rfl⟩
  · refine ⟨(s.line n).queue.order, fun empty => by rw [empty]; rfl, ?_⟩
    exact ⟨.refl, rfl, rfl, rfl, rfl⟩

theorem endQueueOrder_aside (n : LineNo) (code : ResultCode) (s : State) :
    Aside (s.modQueue n QueueUnit.dropOrder) (endQueueOrder n code s) := by
  unfold endQueueOrder
  dsimp only
  split
  · exact (completeOrder_answers _ _ _ _).aside (completeOrder_moves _ _ _ _)
  · exact ⟨.refl, rfl, rfl, rfl, rfl⟩

/-- The line whose entry in flight has finished, with no sender any more. -/
theorem PoolSound.finishes {order : Option OrderRecord} {x : Execution} (h : PoolSound s)
    (unbound : ∀ k, s.boundLine k ≠ some n) (flying : (s.line n).queue.flight.isSome = true)
    (none : x = .none) :
    PoolSound (s.modQueue n fun q => { q with flight := .none, execution := x, order := order }) := by
  subst none
  have laws := h.laws n
  have active : (s.line n).mode = .active := by
    by_contra inactive
    rw [laws.inactive inactive] at flying; cases flying
  have queued : (s.line n).queue ≠ .empty := fun empty => by rw [empty] at flying; cases flying
  have calm := (h.ready n).not_waiting (.inr flying)
  exact h.setLine
    ⟨laws.room, fun inactive => absurd active inactive,
      fun running => absurd (laws.firstDigit running) queued, fun _ => rfl, laws.credit, laws.held,
      laws.owners⟩ (fun k hk => absurd hk (unbound k)) rfl (.of_calm calm)

theorem PoolSound.executionFinished (h : PoolSound s)
    (running : (s.line n).queue.execution ≠ .none) : PoolSound (executionFinished n s) := by
  have flying : (s.line n).queue.flight.isSome = true := by
    by_contra none
    exact running ((h.laws n).execution (by simpa using none))
  obtain ⟨order, -, aside⟩ := finishFlight_aside n (s.modQueue n fun q => { q with execution := .none })
  refine PoolSound.examineHead (aside.poolSound ?_) n
  unfold State.modQueue
  rw [State.modLine_modLine]
  exact h.finishes ((poolSound_iff.mp h).1.not_bound (.inr (.inr running))) flying rfl

/-- The unit of a line with its RELEASE or INJECT dropped and entries taken away, but none in flight. -/
theorem Line.QueueLaws.dropped {l : Line} (h : l.QueueLaws) {entries : List Entry} {credit : Nat}
    (sub : entries.Sublist l.queue.entries)
    (counted : credit ≤ entries.countP fun e => decide (e.origin = .dialled))
    (given : credit ≤ l.queue.credit) (waiting : Bool)
    (calm : waiting = true → l.queue.waiting = true) :
    Line.QueueLaws
      { l with
        queue :=
          { l.queue.dropOrder with entries := entries, credit := credit, waiting := waiting } } := by
  have still (empty : l.queue = .empty) :
      ({ l.queue.dropOrder with entries := entries, credit := credit, waiting := waiting } : QueueUnit)
        = .empty := by
    rw [empty] at sub given calm ⊢
    obtain rfl := List.sublist_nil.mp sub
    obtain rfl := Nat.le_zero.mp given
    have : waiting = false := by simpa [QueueUnit.empty] using calm
    rw [this]; rfl
  refine ⟨sub.length_le.trans h.room, fun inactive => still (h.inactive inactive),
    fun running => still (h.firstDigit running), fun none => h.execution ?_, counted,
    fun positive => h.held (Nat.lt_of_lt_of_le positive given), fun e he => h.owners e (sub.subset he)⟩
  exact Option.map_eq_none_iff.mp none

/-- A withdrawn RELEASE or INJECT: entries or credit go, and the head is examined. -/
theorem PoolSound.withdrawn {f : QueueUnit → QueueUnit} {entries : List Entry} {credit : Nat}
    (h : PoolSound s)
    (eq : f (s.line n).queue = { (s.line n).queue with entries := entries, credit := credit })
    (sub : entries.Sublist (s.line n).queue.entries)
    (counted : credit ≤ entries.countP fun e => decide (e.origin = .dialled))
    (given : credit ≤ (s.line n).queue.credit) (code : ResultCode) :
    PoolSound (Machine.examineHead n (endQueueOrder n code (s.modQueue n f))) := by
  refine Unexamined.examineHead (Unexamined.of_aside ?_ (endQueueOrder_aside n code _))
  unfold State.modQueue
  rw [State.modLine_modLine]
  show Unexamined n (s.setLine n { s.line n with queue := (f (s.line n).queue).dropOrder })
  rw [eq]
  refine h.setLine_unexamined ?_ (fun k hk => ?_) rfl fun waiting => ?_
  · exact (h.laws n).dropped sub counted given _ id
  · obtain ⟨active, flight, execution⟩ := (poolSound_iff.mp h).1.plays k n hk
    exact ⟨active, by simpa [QueueUnit.dropOrder] using flight, execution⟩
  · obtain ⟨active, flight, -⟩ := Line.toneReady_iff.mp (h.ready n waiting)
    exact ⟨active, by simp [QueueUnit.dropOrder, flight]⟩

theorem countP_filter_of_imp {α : Type} {p q : α → Bool} {l : List α}
    (h : ∀ a ∈ l, p a = true → q a = true) : (l.filter q).countP p = l.countP p := by
  rw [List.countP_filter]
  refine List.countP_congr fun a ha => ?_
  simp only [Bool.and_eq_true]
  exact ⟨fun ⟨hp, _⟩ => hp, fun hp => ⟨hp, h a ha hp⟩⟩

theorem PoolSound.injectWithdrawn (h : PoolSound s) (n : LineNo) (slot : SlotNo) :
    PoolSound
      (Machine.examineHead n (endQueueOrder n .cancelled (s.modQueue n (·.dropOwned slot)))) := by
  refine h.withdrawn (f := (·.dropOwned slot)) rfl List.filter_sublist ?_ le_rfl .cancelled
  rw [countP_filter_of_imp]
  · exact (h.laws n).credit
  · intro e he dialled
    simp [(h.laws n).owners e he (of_decide_eq_true dialled)]

theorem PoolSound.flushQueue (h : PoolSound s) (n : LineNo) : PoolSound (flushQueue n s) := by
  have w := (h.unexamined n).withdrawRequest
  have aside := endQueueOrder_aside n .cancelled (withdrawRequest n s)
  have line := withdrawRequest_line_same n s
  have dropped : PoolSound ((withdrawRequest n s).modQueue n fun q =>
      { q.dropOrder with entries := [], credit := 0 }) := by
    refine w.setLine ((w.laws n).dropped (List.nil_sublist _) le_rfl (Nat.zero_le _) _ id)
      (fun k hk => ?_) rfl (.of_calm ?_)
    · obtain ⟨active, flight, execution⟩ := (poolSound_iff.mp w).1.plays k n hk
      exact ⟨active, by simpa [QueueUnit.dropOrder] using flight, execution⟩
    · rw [line]; rfl
  refine dropped.of_same (fun m => ?_) aside.senders aside.waitList
  unfold Machine.flushQueue
  by_cases same : m = n
  · subst same
    rw [State.modQueue_line_same, State.line_congr aside.lines, State.modQueue_line_same,
      State.modQueue_line_same]
  · rw [State.modQueue_line_other _ _ same, State.line_congr aside.lines,
      State.modQueue_line_other _ _ same, State.modQueue_line_other _ _ same]

/-! ### The end of a call -/

theorem State.boundSender_some (h : s.boundSender n = some k) : s.boundLine k = some n := by
  have bound := List.find?_some h
  unfold boundTo at bound
  cases hb : s.sender k with
  | none => simp [hb] at bound
  | some b => simpa [hb, State.boundLine] using bound

theorem State.boundSender_none (h : s.boundSender n = none) (k : SenderNo) :
    s.boundLine k ≠ some n := by
  have unbound := List.find?_eq_none.mp h k (List.mem_finRange k)
  unfold boundTo at unbound
  cases hb : s.sender k with
  | none => simp [State.boundLine, hb]
  | some b => simpa [hb, State.boundLine] using unbound

/-- A line whose unit is discarded loses its sender. -/
theorem PoolSound.releaseSender {l : Line} (h : PoolSound s)
    (calm : (s.line n).queue.waiting = false) (empty : l.queue = .empty)
    (lines : ∀ m, (t.line m).sending = ((s.setLine n l).line m).sending)
    (senders : t.senders = s.senders) (waitList : t.waitList = s.waitList) :
    PoolSound (releaseSender n t) := by
  have same (k : SenderNo) : t.boundLine k = s.boundLine k := State.boundLine_congr senders k
  have calm' : l.queue.waiting = (s.line n).queue.waiting := by rw [calm, empty]; rfl
  have ready : l.WaitsReady := .of_calm (by rw [empty]; rfl)
  unfold Machine.releaseSender
  split
  · next k bound =>
    have bound := (same k).symm.trans (State.boundSender_some bound)
    have unbound (j : SenderNo) : (s.setSender k none).boundLine j ≠ some n := by
      rw [State.setSender_boundLine]
      split
      · simp
      · next other => exact fun hj => other ((poolSound_iff.mp h).1.one j k n hj bound)
    have freed := (h.freed k).setLine (n := n) (l := l) (.of_empty empty)
      (fun j hj => absurd hj (unbound j)) calm' ready
    refine PoolSound.grantOnce (freed.of_same lines ?_ waitList)
    simp [senders]
  · next none =>
    have unbound (j : SenderNo) : s.boundLine j ≠ some n := by
      rw [← same]; exact State.boundSender_none none j
    exact (h.setLine (n := n) (l := l) (.of_empty empty) (fun j hj => absurd hj (unbound j)) calm'
      ready).of_same lines senders waitList

/-- A discarded queue: the request withdrawn and the unit empty, the pool else standing. -/
theorem discardQueue_keeps (n : LineNo) (s : State) :
    (∀ m, (discardQueue n s).line m =
        ((withdrawRequest n s).setLine n { s.line n with queue := .empty }).line m) ∧
      (discardQueue n s).senders = (withdrawRequest n s).senders ∧
      (discardQueue n s).waitList = (withdrawRequest n s).waitList := by
  have aside := endQueueOrder_aside n .callEnded (withdrawRequest n s)
  refine ⟨fun m => ?_, aside.senders, aside.waitList⟩
  have line : (discardQueue n s).line m =
      if m = n then
        { (endQueueOrder n .callEnded (withdrawRequest n s)).line n with queue := .empty }
      else (endQueueOrder n .callEnded (withdrawRequest n s)).line m :=
    State.modLine_line _ n m _
  rw [line, State.line_congr aside.lines, State.line_congr aside.lines, State.modQueue_line_same,
    State.setLine_line]
  split
  · rw [withdrawRequest_line_same]
  · next other => rw [State.modQueue_line_other _ _ other]

theorem PoolSound.callClears (h : PoolSound s) (n : LineNo) :
    PoolSound (Machine.releaseSender n (dropCall n .idle (discardQueue n s))) := by
  obtain ⟨lines, senders, waitList⟩ := discardQueue_keeps n s
  have w := (h.unexamined n).withdrawRequest
  refine w.releaseSender (l := { s.line n with
      mode := .idle, call := none, firstDigit := none, queue := .empty }) ?_ rfl (fun m => ?_)
    senders waitList
  · rw [withdrawRequest_line_same]
  · unfold dropCall trainWithoutDigit State.modEstimator
    rw [State.modLine_modLine, State.modLine_line, lines, lines, State.setLine_line,
      State.setLine_line, State.setLine_line]
    split
    · next same => rw [if_pos rfl]; rfl
    · rfl

theorem PoolSound.goesOut (h : PoolSound s) (n : LineNo) (raw : Bool) :
    PoolSound (Machine.releaseSender n
      ((discardQueue n s).setLine n (Line.outOfService raw))) := by
  obtain ⟨lines, senders, waitList⟩ := discardQueue_keeps n s
  have w := (h.unexamined n).withdrawRequest
  refine w.releaseSender (l := Line.outOfService raw) ?_ rfl (fun m => ?_) senders waitList
  · rw [withdrawRequest_line_same]
  · rw [State.setLine_line, lines, State.setLine_line, State.setLine_line]
    split <;> rfl

end Sys2Proof.Machine
end

section
/-! The laws of pool, service and HOLD over the acts, the stages and the steps. Settles O52 and O53. -/

namespace Sys2Proof.Machine

variable {s t u : State} {n m : LineNo} {k : SenderNo}

/-! ### The pool's laws over the acts -/

/-- At a GAP end the entry finishes, and the sender goes on to the next or becomes FREE. -/
theorem PoolSound.gapEnds (h : PoolSound s) (k : SenderNo) : PoolSound (gapEnds k s) := by
  unfold Machine.gapEnds
  split
  · exact h
  · next b hb =>
    dsimp only
    have bound : s.boundLine k = some b.line := by rw [State.boundLine, hb]; rfl
    obtain ⟨-, flying, resting⟩ := (poolSound_iff.mp h).1.plays k _ bound
    obtain ⟨order, -, aside⟩ := finishFlight_aside b.line s
    have unbound (j : SenderNo) : (s.setSender k none).boundLine j ≠ some b.line := by
      rw [State.setSender_boundLine]
      split
      · simp
      · next other => exact fun hj => other ((poolSound_iff.mp h).1.one j k _ hj bound)
    have finished : PoolSound ((finishFlight b.line s).setSender k none) := by
      refine ((h.freed k).finishes (order := order) unbound flying resting).of_same (fun m => ?_) ?_
        aside.waitList
      · rw [State.setSender_line, State.line_congr aside.lines]; rfl
      · simp [aside.senders, State.modQueue, State.modLine]
    have line : (finishFlight b.line s).line b.line =
        ((finishFlight b.line s).setSender k none).line b.line := rfl
    split
    · next go =>
      have ready : ((finishFlight b.line s).line b.line).toneReady = true :=
        (Bool.and_eq_true_iff.mp go).1
      have calm : ((finishFlight b.line s).line b.line).queue.waiting = false := by
        rw [State.line_congr aside.lines, State.modQueue_line_same]
        exact (h.ready b.line).not_waiting (.inr flying)
      have binds := finished.binds k ready
      rw [(poolSound_iff.mp finished).1.withoutRequest calm] at binds
      obtain ⟨code, origin, owner, rest, head⟩ := Line.toneReady_head ready
      rw [bindSender_of_tone head]
      rw [bindSender_of_tone (s := ((finishFlight b.line s).setSender k none).setWaitList _) head] at binds
      refine binds.of_same (fun _ => rfl) ?_ rfl
      simp [State.modLine]
    · exact (finished.examineHead b.line).grantOnce

theorem PoolSound.takeSample (h : PoolSound s) (n : LineNo) (high : Bool) :
    PoolSound (takeSample n high s).1 := by
  have raw (l : Line) (same : l.sending = (s.line n).sending) : PoolSound (s.setLine n l) :=
    h.modLine_aside (f := fun _ => l) same
  unfold Machine.takeSample
  dsimp only
  split
  · exact (raw { s.line n with raw := high } rfl).of_same (fun _ => rfl) rfl rfl
  · exact (raw { s.line n with raw := high, scan := _ } rfl).of_same (fun _ => rfl) rfl rfl

/-- A satisfied gather sends no less than an unsatisfied one. -/
theorem Line.satisfied_sendable {l : Line} {e : Entry} (h : l.sendable e = true) :
    Line.sendable { l with queue := l.queue.satisfy } e = true := by
  have same : Line.discipline { l with queue := l.queue.satisfy } = l.discipline := rfl
  unfold Line.sendable at h ⊢
  rw [same]
  cases origin : e.origin with
  | ordered => rfl
  | dialled =>
    cases discipline : l.discipline with
    | immediate | gather => rfl
    | held => rw [origin, discipline] at h; exact h

theorem PoolSound.satisfies (h : PoolSound s) (active : (s.line n).mode = .active)
    (running : (s.line n).queue.gatherTimer.isSome = true) :
    PoolSound (s.modQueue n QueueUnit.satisfy) := by
  have queued : (s.line n).queue ≠ .empty := fun empty => by rw [empty] at running; cases running
  have laws := h.laws n
  unfold State.modQueue State.modLine
  refine h.setLine ?_ (fun k hk => ?_) rfl fun waiting => ?_
  · exact ⟨laws.room, fun inactive => absurd active inactive,
      fun running => absurd (laws.firstDigit running) queued, laws.execution, laws.credit,
      laws.held, laws.owners⟩
  · obtain ⟨active, flight, execution⟩ := (poolSound_iff.mp h).1.plays k n hk
    exact ⟨active, flight, execution⟩
  · obtain ⟨active, flight, e, rest, code, head, kind, sendable⟩ :=
      Line.toneReady_iff.mp (h.ready n waiting)
    exact Line.toneReady_iff.mpr
      ⟨active, flight, e, rest, code, head, kind, Line.satisfied_sendable sendable⟩

theorem PoolSound.recallBreakEnds {start : Tick} (h : PoolSound s)
    (active : (s.line n).mode = .active)
    (running : (s.line n).queue.execution = .recallBreak start) :
    PoolSound (endRecallBreak n s) := by
  have laws := h.laws n
  have executing : (s.line n).queue.execution ≠ .none := by rw [running]; nofun
  have queued : (s.line n).queue ≠ .empty := fun empty => executing (by rw [empty]; rfl)
  unfold endRecallBreak State.modLine
  exact h.setLine ⟨laws.room, fun inactive => absurd active inactive,
    fun first => absurd (laws.firstDigit first) queued,
    fun none => absurd (laws.execution none) executing, laws.credit, laws.held, laws.owners⟩
    (fun k hk => absurd ((poolSound_iff.mp h).1.plays k n hk).execution executing) rfl (h.ready n)

/-- Credit given to a HELD call lets its DIALLED head go. -/
theorem Line.credited_sendable {l : Line} {e : Entry} {rest : List Entry} {c : Nat}
    {order : Option OrderRecord} (held : l.discipline = .held) (hc : 1 ≤ c)
    (head : l.queue.entries = e :: rest) :
    Line.sendable
      { l with queue := { l.queue with credit := releaseCredit c l.queue, order := order } } e = true := by
  have same : Line.discipline
      { l with queue := { l.queue with credit := releaseCredit c l.queue, order := order } } = .held :=
    held
  unfold Line.sendable
  rw [same]
  cases origin : e.origin with
  | ordered => rfl
  | dialled =>
    have : 0 < l.queue.dialledCount := by
      simp [QueueUnit.dialledCount, head, origin]
    exact decide_eq_true (lt_min hc this)

theorem PoolSound.credits {c : Nat} {order : Option OrderRecord} (h : PoolSound s)
    (active : (s.line n).mode = .active) (held : (s.line n).discipline = .held) (hc : 1 ≤ c)
    (begun : order = (s.line n).queue.order ∨ (s.line n).queue.entries ≠ []) :
    PoolSound
      (s.modQueue n fun q => { q with credit := releaseCredit c q, order := order }) := by
  have laws := h.laws n
  have still (empty : (s.line n).queue = .empty) :
      ({ (s.line n).queue with
          credit := releaseCredit c (s.line n).queue, order := order } : QueueUnit) = .empty := by
    obtain same | entries := begun
    · rw [same, empty]; simp [releaseCredit, QueueUnit.dialledCount, QueueUnit.empty]
    · rw [empty] at entries; exact absurd rfl entries
  unfold State.modQueue State.modLine
  refine h.setLine ⟨laws.room, fun inactive => absurd active inactive,
    fun first => still (laws.firstDigit first), laws.execution, Nat.min_le_right _ _,
    fun _ => held, laws.owners⟩ (fun k hk => ?_) rfl fun waiting => ?_
  · obtain ⟨active, flight, execution⟩ := (poolSound_iff.mp h).1.plays k n hk
    exact ⟨active, flight, execution⟩
  · obtain ⟨active, flight, e, rest, code, head, kind, -⟩ :=
      Line.toneReady_iff.mp (h.ready n waiting)
    exact Line.toneReady_iff.mpr
      ⟨active, flight, e, rest, code, head, kind, Line.credited_sendable held hc head⟩

theorem Act.poolSound (h : Act s t) (hs : PoolSound s) (service : ServiceSound s) :
    PoolSound t := by
  have laws := hs.laws
  have plays := (poolSound_iff.mp hs).1.plays
  cases h with
  | aside h => exact h.poolSound hs
  | sample n high =>
    exact hs.takeSample n high
  | timers n => exact hs.raiseTimers n
  | requests f hf =>
    refine hs.congr (fun _ => rfl) (fun _ => rfl) ?_
    simp only [State.askingLines, State.setWaitList_waitList, List.map_map]
    exact List.map_congr_left fun r _ => hf r
  | resting n mode z _ inactive _ inactive' =>
    exact hs.empties ((laws n).inactive inactive) ((laws n).inactive inactive)
  | seized n a seizing =>
    exact hs.empties ((laws n).inactive (by rw [seizing]; decide)) rfl
  | train n stamp =>
    unfold startTrain
    split
    · unfold State.modDecoder State.modEstimator
      rw [State.modLine_modLine]
      exact hs.modLine_aside rfl
    · exact hs
  | decoder n f | estimate n f | callItems n => exact hs.modLine_aside rfl
  | firstDigitStops n =>
    exact hs.setLine ((laws n).of_queue rfl rfl nofun rfl)
      (fun k hk => ⟨(plays k n hk).active, (plays k n hk).flight, (plays k n hk).execution⟩) rfl
      (hs.ready n)
  | callClears n => exact hs.callClears n
  | callExpires n active running =>
    unfold dropCall trainWithoutDigit State.modEstimator
    rw [State.modLine_modLine]
    have empty := (laws n).firstDigit running
    exact hs.empties empty empty
  | handOver n e on _ owner => exact hs.handOver (service.active on) owner
  | gatherSatisfied n active running =>
    exact PoolSound.examineHead (hs.satisfies active running) n
  | recallBreakEnds n start active running => exact hs.recallBreakEnds active running
  | executionFinishes n active running => exact hs.executionFinished running
  | examine n => exact hs.examineHead n
  | grant => exact hs.grantOnce
  | toneEnds k b h => exact hs.setSender_same_line h rfl
  | gapEnds k => exact hs.gapEnds k
  | opens n p pol a out => exact hs.empties ((laws n).inactive (by rw [out]; decide)) rfl
  | goesOut n => exact hs.goesOut n _
  | adopts p raw => exact hs.of_same (fun _ => rfl) rfl rfl
  | credits n c order active held hc begun => exact hs.credits active held hc begun
  | injects n new order active room origin =>
    unfold stopFirstDigit State.modQueue
    rw [State.modLine_modLine]
    refine hs.arrives (new := new) ⟨rfl, rfl, rfl, rfl, rfl, rfl, rfl, rfl, id⟩ active room ?_
    exact fun e he dialled => by rw [origin e he] at dialled; cases dialled
  | flushes n => exact hs.flushQueue n
  | releaseWithdrawn n =>
    exact hs.withdrawn (f := fun q => { q with credit := 0 }) rfl (List.Sublist.refl _)
      (Nat.zero_le _) (Nat.zero_le _) _
  | injectWithdrawn n slot => exact hs.injectWithdrawn n slot

/-! ### The laws of service over the acts -/

theorem ServiceSound.of_aside (a : Aside s t) (h : ServiceSound s) : ServiceSound t :=
  h.of_same (fun m => by rw [State.line_congr a.lines]; exact ⟨rfl, rfl, rfl⟩) a.profiles

/-- A change of one line in what service does not read. -/
theorem ServiceSound.modLine_aside {f : Line → Line} (h : ServiceSound s)
    (same : (f (s.line n)).mode = (s.line n).mode ∧ (f (s.line n)).decoder = (s.line n).decoder ∧
      (f (s.line n)).profile = (s.line n).profile := by exact ⟨rfl, rfl, rfl⟩) :
    ServiceSound (s.modLine n f) := by
  refine h.of_same (fun m => ?_) rfl
  rw [State.modLine_line]
  split
  · next hm => rw [hm]; exact same
  · exact ⟨rfl, rfl, rfl⟩

theorem ServiceSound.examineHead (h : ServiceSound s) (n : LineNo) :
    ServiceSound (examineHead n s) :=
  h.of_sendOnly (examineHead_sendOnly n s) (examineHead_sends n s).lineWork.profiles

theorem ServiceSound.dropCall {mode : LineMode} (h : ServiceSound s)
    (inService : (s.line n).mode ≠ .out) : ServiceSound (dropCall n mode s) := by
  unfold Machine.dropCall trainWithoutDigit State.modEstimator
  rw [State.modLine_modLine]
  exact h.modLine inService rfl fun _ => rfl

theorem ServiceSound.releaseSender (h : ServiceSound s) (n : LineNo) :
    ServiceSound (releaseSender n s) :=
  h.of_sendOnly (fun m => (releaseSender_queueOnly n s m).sendOnly)
    (releaseSender_sends n s).lineWork.profiles

theorem ServiceSound.discardQueue (h : ServiceSound s) (n : LineNo) :
    ServiceSound (discardQueue n s) :=
  h.of_sendOnly (fun m => (discardQueue_queueOnly n s m).sendOnly) (discardQueue_work n s).profiles

theorem ServiceSound.handOver {e : Entry} (h : ServiceSound s)
    (active : (s.line n).mode = .active) : ServiceSound (handOver n e s).1 := by
  refine serviceSound_iff.mpr fun m => ?_
  have law := serviceSound_iff.mp h m
  rw [(handOver_work n e s).profiles]
  by_cases same : m = n
  · subst same
    have mode := (handOver_mode m e s).trans active
    refine ⟨fun inactive => absurd mode inactive, fun _ => ?_⟩
    rw [handOver_profile]
    exact law.2 (by rw [active]; decide)
  · rw [show (Machine.handOver n e s).1.line m = _ from handOver_queueOnly e s same]
    exact law

theorem gapEnds_sendOnly (k : SenderNo) (s : State) (m : LineNo) :
    SendOnly (s.line m) ((gapEnds k s).line m) := by
  unfold gapEnds
  split
  · exact .refl _
  · next b _ =>
    dsimp only
    have finished := (finishFlight_queueOnly b.line s m).sendOnly
    split
    · exact finished.trans (bindSender_queueOnly k b.line _ m).sendOnly
    · exact (finished.trans
        (examineHead_sendOnly b.line ((finishFlight b.line s).setSender k none) m)).trans
          (grantOnce_queueOnly _ m).sendOnly

theorem Act.serviceSound (h : Act s t) (hs : ServiceSound s) : ServiceSound t := by
  cases h with
  | aside h => exact hs.of_aside h
  | sample n high =>
    have raw (l : Line) (same : l.mode = (s.line n).mode ∧ l.decoder = (s.line n).decoder ∧
        l.profile = (s.line n).profile) : ServiceSound (s.setLine n l) :=
      hs.modLine_aside (f := fun _ => l) same
    unfold takeSample
    dsimp only
    split
    · exact (raw { s.line n with raw := high } ⟨rfl, rfl, rfl⟩).of_same
        (fun _ => ⟨rfl, rfl, rfl⟩) rfl
    · exact (raw { s.line n with raw := high, scan := _ } ⟨rfl, rfl, rfl⟩).of_same
        (fun _ => ⟨rfl, rfl, rfl⟩) rfl
  | timers n =>
    have raised : ServiceSound (s.modLine n Line.raiseTimers) := hs.modLine_aside
    exact raised
  | requests f hf => exact hs
  | resting n mode z out inactive => exact hs.modLine out rfl fun _ => (hs n).1 inactive
  | seized n a seizing => exact hs.modLine (by rw [seizing]; decide) rfl nofun
  | train n stamp on =>
    unfold startTrain
    split
    · unfold State.modDecoder State.modEstimator
      rw [State.modLine_modLine]
      exact hs.modLine on.inService rfl fun inactive => absurd (hs.active on) inactive
    · exact hs
  | decoder n f on =>
    exact hs.modLine on.inService rfl fun inactive => absurd (hs.active on) inactive
  | estimate n f | callItems n | firstDigitStops n => exact hs.modLine_aside
  | callClears n on =>
    refine ((hs.discardQueue n).dropCall ?_).releaseSender n
    rw [(discardQueue_queueOnly n s n).sendOnly.mode]
    exact on.inService
  | callExpires n active => exact hs.dropCall (active_ne_out active)
  | handOver n e on => exact hs.handOver (hs.active on)
  | gatherSatisfied n => exact (ServiceSound.modLine_aside hs).examineHead n
  | recallBreakEnds n => exact hs.modLine_aside
  | executionFinishes n =>
    have stopped : ServiceSound (s.modQueue n fun q => { q with execution := .none }) :=
      hs.modLine_aside
    exact (stopped.of_sendOnly (fun m => (finishFlight_queueOnly n _ m).sendOnly)
      (finishFlight_work n _).profiles).examineHead n
  | examine n => exact hs.examineHead n
  | grant =>
    exact hs.of_sendOnly (fun m => (grantOnce_queueOnly s m).sendOnly)
      (grantOnce_sends s).lineWork.profiles
  | toneEnds k b h => exact hs
  | gapEnds k => exact hs.of_sendOnly (gapEnds_sendOnly k s) (gapEnds_work k s).profiles
  | opens n p pol a out ha =>
    refine hs.setLine ⟨fun _ => rfl, fun _ => ?_⟩
    exact Option.isSome_iff_exists.mpr ⟨a, ha⟩
  | goesOut n =>
    exact ((hs.discardQueue n).setLine (Line.outOfService_service _ _)).releaseSender n
  | adopts p raw =>
    refine serviceSound_iff.mpr fun m => ⟨(hs m).1, fun inService => ?_⟩
    have set := (hs m).2 inService
    show (((s.line m).profile).bind fun q => ((s.setProfile p _).profile q).adopted).isSome = true
    cases hp : (s.line m).profile with
    | none => rw [State.setInForce, hp] at set; exact set
    | some q =>
      rw [State.setInForce, hp] at set
      rw [Option.bind_some]
      by_cases same : q = p
      · subst same; rw [State.setProfile_profile_same]; rfl
      · rw [State.setProfile_profile_other _ _ _ _ same]; exact set
  | credits n => exact hs.modLine_aside
  | injects n new order =>
    unfold stopFirstDigit State.modQueue
    rw [State.modLine_modLine]
    exact hs.modLine_aside
  | flushes n =>
    exact hs.of_sendOnly (fun m => (flushQueue_queueOnly n s m).sendOnly) (flushQueue_work n s).profiles
  | releaseWithdrawn n =>
    have dropped : ServiceSound (s.modQueue n fun q => { q with credit := 0 }) := hs.modLine_aside
    exact (dropped.of_sendOnly (fun m => (endQueueOrder_queueOnly n _ _ m).sendOnly)
      (endQueueOrder_work n _ _).profiles).examineHead n
  | injectWithdrawn n slot =>
    have dropped : ServiceSound (s.modQueue n (·.dropOwned slot)) := hs.modLine_aside
    exact (dropped.of_sendOnly (fun m => (endQueueOrder_queueOnly n _ _ m).sendOnly)
      (endQueueOrder_work n _ _).profiles).examineHead n

/-! ### HOLD over the acts -/

/-- HOLD of a line as R31 has it. -/
def Line.HoldLaw (l : Line) : Prop :=
  l.hold = true ↔ l.mode = .active ∧ ¬∃ t : Tick, l.queue.execution = .recallBreak t

/-- The line's HOLD, mode and execution stand. -/
structure HoldSame (l l' : Line) : Prop where
  hold : l'.hold = l.hold
  mode : l'.mode = l.mode
  execution : l'.queue.execution = l.queue.execution

theorem HoldSame.refl (l : Line) : HoldSame l l := ⟨rfl, rfl, rfl⟩

theorem HoldSame.trans {l l' l'' : Line} (h : HoldSame l l') (k : HoldSame l' l'') :
    HoldSame l l'' :=
  ⟨k.hold.trans h.hold, k.mode.trans h.mode, k.execution.trans h.execution⟩

theorem HoldSame.law {l l' : Line} (h : HoldSame l l') (law : l.HoldLaw) : l'.HoldLaw := by
  rw [Line.HoldLaw, h.hold, h.mode, h.execution]; exact law

theorem holdSound_iff : HoldSound s ↔ ∀ n, (s.line n).HoldLaw := Iff.rfl

theorem HoldSound.of_same (h : HoldSound s) (same : ∀ m, HoldSame (s.line m) (t.line m)) :
    HoldSound t := fun m => (same m).law (h m)

theorem HoldSame.modLine {f : Line → Line} (same : HoldSame (s.line n) (f (s.line n))) (m : LineNo) :
    HoldSame (s.line m) ((s.modLine n f).line m) := by
  rw [State.modLine_line]
  split
  · next h => rw [h]; exact same
  · exact .refl _

theorem HoldSound.setLine {l : Line} (h : HoldSound s) (law : l.HoldLaw) :
    HoldSound (s.setLine n l) := by
  refine holdSound_iff.mpr fun m => ?_
  rw [State.setLine_line]
  split
  · exact law
  · exact h m

theorem Line.HoldLaw.off {l : Line} (hold : l.hold = false) (mode : l.mode ≠ .active) : l.HoldLaw :=
  ⟨fun on => (by rw [hold] at on; cases on), fun on => absurd on.1 mode⟩

theorem QueueOnly.holdSame {l l' : Line} (h : QueueOnly l l')
    (execution : l'.queue.execution = l.queue.execution) : HoldSame l l' :=
  ⟨h.hold, h.sendOnly.mode, execution⟩

theorem Line.leaveHead_holdSame (l : Line) : HoldSame l l.leaveHead := by
  refine (Line.leaveHead_queueOnly l).holdSame ?_
  unfold Line.leaveHead
  split <;> rfl

theorem bindSender_holdSame (k : SenderNo) (n : LineNo) (s : State) (m : LineNo) :
    HoldSame (s.line m) ((bindSender k n s).line m) := by
  unfold bindSender
  split
  · exact HoldSame.modLine (Line.leaveHead_holdSame _) m
  · exact .refl _

theorem grantOnce_holdSame (s : State) (m : LineNo) :
    HoldSame (s.line m) ((grantOnce s).line m) := by
  unfold grantOnce
  split
  · exact .refl _
  · split
    · next k r _ _ =>
      exact bindSender_holdSame k r.line (s.setWaitList (withoutRequest r.line s.waitList)) m
    · exact .refl _

theorem releaseSender_holdSame (n : LineNo) (s : State) (m : LineNo) :
    HoldSame (s.line m) ((releaseSender n s).line m) := by
  unfold releaseSender
  split
  · exact grantOnce_holdSame (s.setSender _ none) m
  · exact .refl _

theorem postRequest_holdSame (n : LineNo) (s : State) (m : LineNo) :
    HoldSame (s.line m) ((postRequest n s).line m) := by
  have flagged : HoldSame (s.line m) ((s.modQueue n fun q => { q with waiting := true }).line m) :=
    HoldSame.modLine ⟨rfl, rfl, rfl⟩ m
  exact flagged.trans (grantOnce_holdSame
    ((s.setWaitList (s.waitList ++ [newRequest n (s.line n)])).modQueue n
      fun q => { q with waiting := true }) m)

theorem withdrawRequest_holdSame (n : LineNo) (s : State) (m : LineNo) :
    HoldSame (s.line m) ((withdrawRequest n s).line m) := by
  by_cases h : m = n
  · subst h; rw [withdrawRequest_line_same]; exact ⟨rfl, rfl, rfl⟩
  · rw [withdrawRequest_line_other s h]; exact .refl _

theorem finishFlight_holdSame (n : LineNo) (s : State) (m : LineNo) :
    HoldSame (s.line m) ((finishFlight n s).line m) := by
  obtain ⟨order, -, aside⟩ := finishFlight_aside n s
  rw [State.line_congr aside.lines]
  exact HoldSame.modLine ⟨rfl, rfl, rfl⟩ m

theorem endQueueOrder_holdSame (n : LineNo) (code : ResultCode) (s : State) (m : LineNo) :
    HoldSame (s.line m) ((endQueueOrder n code s).line m) := by
  rw [State.line_congr (endQueueOrder_aside n code s).lines]
  exact HoldSame.modLine ⟨rfl, rfl, rfl⟩ m

theorem flushQueue_holdSame (n : LineNo) (s : State) (m : LineNo) :
    HoldSame (s.line m) ((flushQueue n s).line m) :=
  ((withdrawRequest_holdSame n s m).trans (endQueueOrder_holdSame n _ _ m)).trans
    (HoldSame.modLine ⟨rfl, rfl, rfl⟩ m)

theorem Line.appended_holdSame (l : Line) (e : Entry) :
    HoldSame l { l.restartGather.appendDialled e with firstDigit := none } := by
  obtain ⟨g, restarted⟩ := l.restartGather_eq
  obtain ⟨count, satisfied, timer, -, appended⟩ := l.restartGather.appendDialled_eq e
  rw [appended, restarted]
  exact ⟨rfl, rfl, rfl⟩

theorem Line.restartGather_holdSame (l : Line) : HoldSame l l.restartGather := by
  obtain ⟨g, restarted⟩ := l.restartGather_eq
  rw [restarted]
  exact ⟨rfl, rfl, rfl⟩

theorem reportOverflow_holdSame (n : LineNo) (e : Entry) (s : State) (m : LineNo) :
    HoldSame (s.line m) ((reportOverflow n e s).line m) := by
  by_cases h : m = n
  · subst h; rw [reportOverflow_line_same]; exact ⟨rfl, rfl, rfl⟩
  · rw [reportOverflow_line_other e s h]; exact .refl _

/-- The execution of a started RECALL or PAUSE begins with the head in flight. -/
theorem HoldSound.examined (ex : Examination n s t) (h : HoldSound s)
    (rests : (s.line n).queue.flight = none → (s.line n).queue.execution = .none) :
    HoldSound t := by
  have withdrawn : HoldSound (withdrawRequest n s) := h.of_same (withdrawRequest_holdSame n s)
  cases ex with
  | stands | waits => exact h
  | posts => exact h.of_same (postRequest_holdSame n s)
  | withdraws => exact withdrawn
  | recalls =>
    unfold startRecall
    rw [State.modLine_modLine]
    exact withdrawn.setLine ⟨nofun, fun ⟨_, off⟩ => absurd ⟨_, rfl⟩ off⟩
  | pauses e rest ms active flight =>
    unfold startPause State.modQueue
    rw [State.modLine_modLine]
    have only := Line.leaveHead_holdSame ((withdrawRequest n s).line n)
    have on : ((withdrawRequest n s).line n).hold = true := by
      rw [(withdrawRequest_holdSame n s n).hold]
      refine (h n).mpr ⟨active, ?_⟩
      rw [rests flight]
      exact nofun
    refine withdrawn.setLine ⟨fun _ => ⟨?_, nofun⟩, fun _ => only.hold.trans on⟩
    exact only.mode.trans (((withdrawRequest_holdSame n s n).mode).trans active)

theorem HoldSound.examineHead (h : HoldSound s)
    (rests : (s.line n).queue.flight = none → (s.line n).queue.execution = .none) :
    HoldSound (examineHead n s) :=
  h.examined (examineHead_examination n s) rests

theorem HoldSound.handOver {e : Entry} (h : HoldSound s)
    (rests : (s.line n).queue.flight = none → (s.line n).queue.execution = .none) :
    HoldSound (handOver n e s).1 := by
  by_cases room : (s.line n).hasRoom = true
  · rw [handOver_of_room room]
    refine HoldSound.examineHead (h.of_same (HoldSame.modLine (Line.appended_holdSame _ e))) ?_
    rw [State.modLine_line_same, ((s.line n).appended_arrived e).flight,
      ((s.line n).appended_arrived e).execution]
    exact rests
  · rw [handOver_of_full (by simpa using room)]
    exact (h.of_same (HoldSame.modLine (Line.restartGather_holdSame _))).of_same
      (reportOverflow_holdSame n e _)

theorem HoldSound.gapEnds (h : HoldSound s) (pool : PoolSound s) (k : SenderNo) :
    HoldSound (gapEnds k s) := by
  unfold Machine.gapEnds
  split
  · exact h
  · next b hb =>
    dsimp only
    have bound : s.boundLine k = some b.line := by rw [State.boundLine, hb]; rfl
    have resting := ((poolSound_iff.mp pool).1.plays k _ bound).execution
    have finished := h.of_same (finishFlight_holdSame b.line s)
    split
    · exact finished.of_same (bindSender_holdSame k b.line _)
    · refine (HoldSound.examineHead (s := (finishFlight b.line s).setSender k none) finished
        fun _ => ?_).of_same (grantOnce_holdSame _)
      exact (finishFlight_holdSame b.line s b.line).execution.trans resting

/-- HOLD goes off with the call. -/
theorem HoldSound.dropCall {mode : LineMode} (h : HoldSound s) (n : LineNo)
    (inactive : mode ≠ .active) : HoldSound (dropCall n mode s) := by
  unfold Machine.dropCall trainWithoutDigit State.modEstimator
  rw [State.modLine_modLine]
  exact h.setLine (.off rfl inactive)

theorem discardQueue_holdSame_other (s : State) (h : m ≠ n) :
    HoldSame (s.line m) ((discardQueue n s).line m) := by
  rw [(discardQueue_keeps n s).1, State.setLine_line_other _ _ _ _ h,
    withdrawRequest_line_other s h]
  exact .refl _

theorem Act.holdSound (h : Act s t) (hs : HoldSound s) (pool : PoolSound s) : HoldSound t := by
  have rests (n : LineNo) := (pool.laws n).execution
  cases h with
  | aside h => exact hs.of_same fun m => by rw [State.line_congr h.lines]; exact .refl _
  | sample n high =>
    unfold takeSample
    dsimp only
    split <;> exact hs.setLine (s := s.setScanBus _) (HoldSame.law ⟨rfl, rfl, rfl⟩ (hs n))
  | timers n =>
    exact hs.of_same fun m => HoldSame.modLine (f := Line.raiseTimers) ⟨rfl, rfl, rfl⟩ m
  | requests | toneEnds | adopts => exact hs
  | resting n mode z _ inactive _ inactive' =>
    refine hs.setLine (.off ?_ inactive')
    by_contra on
    exact inactive ((hs n).mp (by simpa using on)).1
  | seized n a => exact hs.setLine ⟨fun _ => ⟨rfl, nofun⟩, fun _ => rfl⟩
  | train n stamp on =>
    unfold startTrain
    split
    · unfold State.modDecoder State.modEstimator
      rw [State.modLine_modLine]
      exact hs.of_same (HoldSame.modLine ⟨rfl, rfl, rfl⟩)
    · exact hs
  | decoder n f | estimate n f | callItems n | firstDigitStops n | credits n =>
    exact hs.of_same (HoldSame.modLine ⟨rfl, rfl, rfl⟩)
  | callClears n on =>
    refine HoldSound.of_same ?_ (releaseSender_holdSame n _)
    have discarded (m : LineNo) (other : m ≠ n) : ((discardQueue n s).line m).HoldLaw :=
      (discardQueue_holdSame_other s other).law (hs m)
    unfold dropCall trainWithoutDigit State.modEstimator
    rw [State.modLine_modLine]
    refine holdSound_iff.mpr fun m => ?_
    rw [State.modLine_line]
    split
    · exact .off rfl nofun
    · next other => exact discarded m other
  | callExpires n => exact hs.dropCall n nofun
  | handOver n e => exact hs.handOver (rests n)
  | gatherSatisfied n =>
    refine HoldSound.examineHead (hs.of_same (HoldSame.modLine ⟨rfl, rfl, rfl⟩)) ?_
    rw [State.modQueue_line_same]
    exact rests n
  | recallBreakEnds n start active =>
    exact hs.setLine ⟨fun _ => ⟨active, nofun⟩, fun _ => rfl⟩
  | executionFinishes n active running on =>
    have stopped : HoldSound (s.modQueue n fun q => { q with execution := .none }) := by
      refine hs.setLine ⟨fun _ => ⟨active, nofun⟩, fun _ => (hs n).mpr ⟨active, ?_⟩⟩
      exact fun ⟨t, ht⟩ => on t ht
    refine HoldSound.examineHead (stopped.of_same (finishFlight_holdSame n _)) fun _ => ?_
    rw [(finishFlight_holdSame n _ n).execution, State.modQueue_line_same]
  | examine n => exact hs.examineHead (rests n)
  | grant => exact hs.of_same (grantOnce_holdSame s)
  | gapEnds k => exact hs.gapEnds pool k
  | opens n p pol a =>
    refine hs.setLine (.off rfl ?_)
    unfold Line.opened
    dsimp only
    split <;> nofun
  | goesOut n =>
    refine HoldSound.of_same ?_ (releaseSender_holdSame n _)
    refine holdSound_iff.mpr fun m => ?_
    rw [State.setLine_line]
    split
    · exact .off rfl nofun
    · next other => exact (discardQueue_holdSame_other s other).law (hs m)
  | injects n new order =>
    unfold stopFirstDigit State.modQueue
    rw [State.modLine_modLine]
    exact hs.of_same (HoldSame.modLine ⟨rfl, rfl, rfl⟩)
  | flushes n => exact hs.of_same (flushQueue_holdSame n s)
  | releaseWithdrawn n | injectWithdrawn n =>
    refine HoldSound.examineHead ((hs.of_same (HoldSame.modLine ⟨rfl, rfl, rfl⟩)).of_same
      (endQueueOrder_holdSame n _ _)) ?_
    rw [State.line_congr (endQueueOrder_aside n _ _).lines, State.modQueue_line_same,
      State.modQueue_line_same]
    exact fun none => rests n (Option.map_eq_none_iff.mp none)

end Sys2Proof.Machine
end

section
/-! The laws of pool, service and HOLD over the stages and the steps. Settles O52 and O53. -/

namespace Sys2Proof.Machine

variable {s t u : State} {n m : LineNo} {k : SenderNo} {p : State → Prop}

/-! ### Laws of lines, senders and requests -/

/-- The two states agree in the lines but for MUTE, in the lines of the senders, in the requests and the profiles. -/
structure Alike (s t : State) : Prop where
  lines : ∀ m, ∃ mute, t.line m = { s.line m with mute := mute }
  bound : ∀ k, t.boundLine k = s.boundLine k
  waitList : t.waitList = s.waitList
  profiles : t.profiles = s.profiles

/-- No line in service, no sender bound and no request. -/
structure Still (s : State) : Prop where
  lines : ∀ n, ∃ raw, s.line n = Line.outOfService raw
  senders : ∀ k, s.sender k = none
  waitList : s.waitList = []

theorem Alike.of_same (lines : t.lines = s.lines) (bound : ∀ k, t.boundLine k = s.boundLine k)
    (waitList : t.waitList = s.waitList) (profiles : t.profiles = s.profiles) : Alike s t :=
  ⟨fun m => ⟨(s.line m).mute, State.line_congr lines m⟩, bound, waitList, profiles⟩

theorem settle_alike (b s : State) : Alike s (settle b s) :=
  ⟨fun m => ⟨_, settle_line b s m⟩, State.boundLine_congr (settle_keeps b s).1,
    (settle_keeps b s).2.1, settle_profiles b s⟩

theorem settleFrame_alike (s : State) : Alike s (settleFrame s) :=
  .of_same rfl (settleFrame_sender_line s) rfl rfl

theorem counts_alike {b : Binding} (h : s.sender k = some b) :
    Alike s (s.setSender k (some { b with countdown := b.countdown - 1 })) :=
  .of_same rfl (setSender_line_of_same_line (c := { b with countdown := b.countdown - 1 }) h rfl) rfl rfl

theorem Still.of_same (h : Still s) (lines : t.lines = s.lines) (senders : t.senders = s.senders)
    (waitList : t.waitList = s.waitList) : Still t :=
  ⟨fun n => by rw [State.line_congr lines]; exact h.lines n,
    fun k => by rw [State.sender_congr senders]; exact h.senders k, waitList.trans h.waitList⟩

theorem still_reset : Still State.reset := ⟨fun n => ⟨_, line_reset n⟩, sender_reset, rfl⟩

theorem clearImages_keeps (s : State) :
    (clearImages s).lines = s.lines ∧ (clearImages s).senders = s.senders ∧
      (clearImages s).waitList = s.waitList := by
  unfold clearImages
  generalize List.finRange 96 = l
  induction l generalizing s with
  | nil => exact ⟨rfl, rfl, rfl⟩
  | cons n rest ih => exact ih (clearImage n s)

theorem softReset_still (s : State) : Still (softReset s) := by
  have cleared (u : State) (h : Still u) : Still (clearImages u) := by
    obtain ⟨lines, senders, waitList⟩ := clearImages_keeps u
    exact h.of_same lines senders waitList
  have closed (u : State) (h : Still u) : Still (closePage u) := by
    obtain ⟨-, -, -, -, lines, -, senders, waitList, -⟩ := (closePage_reports u).keeps
    exact h.of_same lines senders waitList
  have freed : Still (freePool (linesOut (refuseHeld s))) :=
    ⟨fun n => ⟨_, linesOut_line (refuseHeld s) n⟩, fun k => by simp [freePool, State.sender], rfl⟩
  have dropped (u : State) (h : Still u) : Still (dropProfiles u) := h.of_same rfl rfl rfl
  have timed (u : State) (b : TimeBase) (h : Still u) : Still (u.setTimeBase b) :=
    h.of_same rfl rfl rfl
  exact timed _ _ (closed _ (dropped _ (cleared _ freed)))

/-- A law of the lines, the senders and the requests is kept by every step as soon as every act keeps it. -/
theorem KeptByStep.of_acts (act : ∀ s t, Act s t → p s → p t)
    (alike : ∀ s t, Alike s t → p s → p t) (still : ∀ s, Still s → p s) : KeptByStep p := by
  have same {s t : State} (lines : t.lines = s.lines) (senders : t.senders = s.senders)
      (waitList : t.waitList = s.waitList) (profiles : t.profiles = s.profiles) (hs : p s) : p t :=
    alike s t (.of_same lines (State.boundLine_congr senders) waitList profiles) hs
  have effect {s t : State} (h : Effect s t) (hs : p s) : p t := by
    cases h with
    | acts h => exact Acts.keeps act h hs
    | @closes u n slot code d w h =>
      exact same (s := u) rfl rfl rfl rfl (Acts.keeps act h hs)
    | resets => exact still _ (softReset_still s)
  refine .of_exec (fun s l hs => same (s := s) rfl rfl rfl rfl hs) fun c s t h hs => ?_
  by_cases reset : c = .pinReset
  · subst reset
    obtain rfl : _ = t := by simpa [exec, execPinReset] using h
    exact still _ (still_reset.of_same rfl rfl rfl)
  by_cases init : c = .storeInitialisationComplete
  · subst init
    obtain rfl : (if !s.ready then _ else s) = t := by
      simpa [exec, execStoreInitialisationComplete, occurs] using h
    split
    · exact still _ (still_reset.of_same rfl rfl rfl)
    · exact hs
  refine Stages.keeps (fun s t stage hs => ?_) (exec_stages reset init h) hs
  cases stage with
  | aside h => exact same h.lines h.senders h.waitList h.profiles hs
  | counts k b h => exact alike _ _ (counts_alike h) hs
  | frame => exact alike _ _ (settleFrame_alike s) hs
  | poke a v => exact same (s := s) rfl rfl rfl rfl hs
  | event h => exact alike _ _ (settle_alike _ _) (effect h hs)

/-! ### The laws -/

theorem PoolSound.of_alike (h : PoolSound s) (a : Alike s t) : PoolSound t :=
  h.congr (fun m => by obtain ⟨mute, line⟩ := a.lines m; rw [line]; rfl) a.bound
    (State.askingLines_congr a.waitList)

theorem ServiceSound.of_alike (h : ServiceSound s) (a : Alike s t) : ServiceSound t :=
  h.of_same (fun m => by obtain ⟨mute, line⟩ := a.lines m; rw [line]; exact ⟨rfl, rfl, rfl⟩) a.profiles

theorem HoldSound.of_alike (h : HoldSound s) (a : Alike s t) : HoldSound t :=
  h.of_same fun m => by obtain ⟨mute, line⟩ := a.lines m; rw [line]; exact ⟨rfl, rfl, rfl⟩

theorem Still.poolSound (h : Still s) : PoolSound s := by
  have queue (n : LineNo) : (s.line n).queue = .empty := by
    obtain ⟨raw, line⟩ := h.lines n; rw [line]; rfl
  refine poolSound_iff.mpr ⟨⟨fun n => .of_empty (queue n), fun k n hk => ?_, fun j k n hj => ?_, ?_,
    fun n => ?_⟩, fun n => .of_calm (by rw [queue]; rfl)⟩
  · simp [State.boundLine, h.senders] at hk
  · simp [State.boundLine, h.senders] at hj
  · simp [State.askingLines, h.waitList]
  · simp [queue, QueueUnit.empty, State.askingLines, h.waitList]

theorem Still.serviceSound (h : Still s) : ServiceSound s := serviceSound_iff.mpr fun n => by
  obtain ⟨raw, line⟩ := h.lines n
  rw [line]
  exact Line.outOfService_service raw _

theorem Still.holdSound (h : Still s) : HoldSound s := holdSound_iff.mpr fun n => by
  obtain ⟨raw, line⟩ := h.lines n
  rw [line]
  exact .off rfl nofun

/-- Settles O52: by the acts of queue unit and pool, each of which keeps the laws. -/
theorem queueAndPoolLawsKept : Obligations.QueueAndPoolLawsKept :=
  .of_acts (fun _ _ act ⟨pool, service⟩ => ⟨act.poolSound pool service, act.serviceSound service⟩)
    (fun _ _ a ⟨pool, service⟩ => ⟨pool.of_alike a, service.of_alike a⟩)
    fun _ h => ⟨h.poolSound, h.serviceSound⟩

/-- Settles O53: HOLD moves with mode and execution, by the same acts. -/
theorem holdLawKept : Obligations.HoldLawKept :=
  .of_acts
    (fun _ _ act ⟨pool, service, hold⟩ =>
      ⟨act.poolSound pool service, act.serviceSound service, act.holdSound hold pool⟩)
    (fun _ _ a ⟨pool, service, hold⟩ => ⟨pool.of_alike a, service.of_alike a, hold.of_alike a⟩)
    fun _ h => ⟨h.poolSound, h.serviceSound, h.holdSound⟩

end Sys2Proof.Machine
end

section
/-! The commands: each answers, what moves, events and words written keep a command keeps, and the commands of start-up.
Settles O1, O2, O3, O4 and O60. -/

namespace Sys2Proof.Machine

variable {s t u : State} {n m : LineNo} {k : SenderNo} {p : State → Prop} {c : Instr}

/-! ### Every command answers -/

theorem occurs_answers (due : Bool) (after before : State) :
    ∃ t, occurs due after before = .next t := ⟨_, rfl⟩

theorem examination_answers (slot : SlotNo) (due : Bool) (f : State → State) (s : State) :
    ∃ t, examination slot due f s = .next t := by
  unfold examination
  split <;> exact ⟨_, rfl⟩

theorem exec_answers (c : Instr) (s : State) : ∃ t, exec c s = .next t := by
  cases c with
  | sweep =>
    change ∃ t, execSweep s = .next t
    unfold execSweep
    split <;> exact ⟨_, rfl⟩
  | openLine | closeLine | adopt | learn | release | inject | flush | peek | mark | unknownKind
  | withdraw => exact examination_answers _ _ _ s
  | _ => exact ⟨_, rfl⟩

/-- What the moves, the ends of events and the words that the command writes keep, the command keeps. -/
theorem exec_keeps (reset : c ≠ .pinReset) (init : c ≠ .storeInitialisationComplete)
    (h : exec c s = .next t) (move : ∀ s t, Move s t → p s → p t)
    (settled : ∀ b s, p s → p (settle b s))
    (pokes : ∀ (s : State) (l : List (Nat × Word)), (∀ q ∈ l, PartWrites q.1) → p s → p (s.pokes l))
    (host : ∀ (s : State) (a : Nat) (v : Word), hostWrites c a → p s → p (s.poke a v)) (hs : p s) :
    p t := by
  have moves {s t : State} (h : Moves s t) (hs : p s) : p t := h.keeps move hs
  have effect {s t : State} (h : Effect s t) (hs : p s) : p t := by
    cases h with
    | acts h => exact moves h.moves hs
    | closes n slot code d w h =>
      exact moves (writeOutcome_moves _ _ _ _ _)
        (pokes _ _ (clearImage_writes n) (moves h.moves hs))
    | resets => exact softReset_keeps move pokes hs
  refine Stages.keeps (fun s t stage hs => ?_) (exec_stages reset init h) hs
  cases stage with
  | aside h => exact moves h.moves hs
  | counts k b h => exact move _ _ (.sender k _ (.counted b h)) hs
  | frame => exact move _ _ .frame hs
  | poke a v h => exact host s a v h hs
  | event h => exact settled _ _ (effect h hs)

theorem pinReset_answers (s : State) : exec .pinReset s = .next (initialising s) := rfl

theorem initialisation_answers (s : State) :
    exec .storeInitialisationComplete s = .next (if !s.ready then initialised s else s) := rfl

/-! ### The waiting commands -/

/-- Settles O1. -/
theorem stepTakesFrontCommand : Obligations.StepTakesFrontCommand :=
  ⟨fun _ _ _ => rfl, fun s none => by unfold step; rw [none]⟩

theorem Move.pending (h : Move s t) : t.pending = s.pending := by cases h <;> rfl

theorem exec_pending (h : exec c s = .next t) : t.pending = s.pending := by
  by_cases reset : c = .pinReset
  · subst reset
    obtain rfl : initialising s = t := by simpa [pinReset_answers] using h
    rfl
  by_cases init : c = .storeInitialisationComplete
  · subst init
    obtain rfl : (if !s.ready then initialised s else s) = t := by
      simpa [initialisation_answers] using h
    split <;> rfl
  exact exec_keeps (p := fun u => u.pending = s.pending) reset init h
    (fun _ _ move same => move.pending.trans same)
    (fun b u same => (congrArg State.pending (settle_eq b u)).trans same) (fun _ _ _ same => same)
    (fun _ _ _ _ same => same) rfl

/-! ### The words that no command of the part writes -/

theorem MarkTargetsSound.of_move (h : Move s t) (hs : MarkTargetsSound s) : MarkTargetsSound t := by
  unfold MarkTargetsSound
  obtain moved | same := h.board_cases
  · revert moved
    generalize t.board = b
    intro moved
    cases moved with
    | accept o h =>
      intro a ha mark
      obtain old | rfl := (List.mem_append.mp ha).imp_right List.mem_singleton.mp
      · exact hs a old mark
      · exact h.target mark
    | accepted l sub => exact fun o ho => hs o (sub.subset ho)
    | sweep => exact hs
  · rw [same]; exact hs

theorem MarkTargetsSound.of_settle (b : State) (hs : MarkTargetsSound s) :
    MarkTargetsSound (settle b s) := by
  unfold MarkTargetsSound
  rw [(settle_keeps b s).2.2.1]
  exact hs

theorem inHostArea_iff (target : Word) (extra : Nat) :
    inHostArea target extra = true ↔ 0x240 ≤ target.toNat ∧ target.toNat + extra ≤ 0x3FF :=
  Bool.and_eq_true_iff.trans (and_congr decide_eq_true_iff decide_eq_true_iff)

theorem State.pokes_peek_other {l : List (Nat × Word)} {a : Nat} (h : ∀ q ∈ l, a ≠ q.1) :
    (s.pokes l).peek a = s.peek a := by
  rw [State.pokes_peek']
  exact readWord_writeWords_other _ l a h

theorem State.poke_peek_other {a b : Nat} (v : Word) (h : b ≠ a) :
    (s.poke a v).peek b = s.peek b := by
  rw [State.poke_peek']
  exact readWord_writeWord_other _ a b v h

theorem mem_runWrites {base : Nat} {ws : List Word} {q : Nat × Word} (h : q ∈ runWrites base ws) :
    base ≤ q.1 ∧ q.1 < base + ws.length := by
  obtain ⟨⟨w, i⟩, hi, rfl⟩ := List.mem_map.mp h
  have := List.snd_lt_of_mem_zipIdx hi
  dsimp only
  omega

/-- A move leaves every word alone that is neither of the part's own nor of the host area or above. -/
theorem Move.peek_below (h : Move s t) (targets : MarkTargetsSound s) {a : Nat}
    (report : reportAddress a = false) (below : a < 0x240) : t.peek a = s.peek a := by
  cases h with
  | report l h =>
    refine State.pokes_peek_other fun q hq same => ?_
    rw [same, h q hq] at report
    cases report
  | target c h =>
    refine State.poke_peek_other _ fun same => ?_
    have target : inHostArea c.p0 0 = true := by
      obtain target | ⟨o, ho, mark, rfl⟩ := h
      · exact target
      · exact targets o ho mark
    have := (inHostArea_iff _ _).mp target
    omega
  | snapshot n target ws h =>
    refine State.pokes_peek_other fun q hq same => ?_
    have := (inHostArea_iff _ _).mp h
    have := mem_runWrites hq
    omega
  | _ => rfl

/-- The host's own words: the first three of the header, the raw words of the profiles, the tone plan (R177). -/
def HostWord (a : Nat) : Prop :=
  a < 0x003 ∨ (0x0C0 ≤ a ∧ a < 0x1C0 ∧ a % 32 < 24) ∨ (0x1C0 ≤ a ∧ a < 0x240)

theorem HostWord.not_partWrites {a : Nat} (h : HostWord a) : ¬PartWrites a := by
  unfold HostWord at h
  rintro (shown | report)
  · have := (shownAddress_iff a).mp shown; omega
  · have := (reportAddress_iff a).mp report; omega

theorem ignoredAddress_high {a : BitVec 13} (h : ignoredAddress a = true) : 0x1000 ≤ a.toNat := by
  simp only [ignoredAddress, Bool.or_eq_true, beq_iff_eq, decide_eq_true_eq] at h
  obtain (rfl | rfl) | high := h
  · decide
  · decide
  · omega

/-- Settles O2: by the moves, none of which touches the waiting commands or a word of the host's own. -/
theorem everyCommandAnswersAndKeepsQueue : Obligations.EveryCommandAnswersAndKeepsQueue := by
  refine ⟨fun c s => ?_, fun c s formed _ targets noStore init => ?_⟩
  · obtain ⟨t, h⟩ := exec_answers c s
    exact ⟨t, h, exec_pending h⟩
  · obtain ⟨t, h⟩ := exec_answers c s
    refine ⟨t, h, fun a ha => ?_⟩
    have ha : HostWord a := ha
    have apart := not_or.mp ha.not_partWrites
    have shown : shownAddress a = false := by simpa using apart.1
    have report : reportAddress a = false := by simpa using apart.2
    have below : a < 0x240 := by unfold HostWord at ha; omega
    by_cases reset : c = .pinReset
    · subst reset
      obtain rfl : initialising s = t := by simpa [pinReset_answers] using h
      rfl
    refine (exec_keeps (p := fun u => MarkTargetsSound u ∧ u.peek a = s.peek a) reset init h
      (fun u v move ⟨targets, same⟩ =>
        ⟨targets.of_move move, (move.peek_below targets report below).trans same⟩)
      (fun b u ⟨targets, same⟩ =>
        ⟨targets.of_settle b, (settle_peek_other b u a shown).trans same⟩)
      (fun u l writes ⟨targets, same⟩ => ⟨targets, ?_⟩) (fun u b v host ⟨targets, same⟩ => ?_)
      ⟨targets, rfl⟩).2
    · refine (State.pokes_peek_other fun q hq eq => ?_).trans same
      exact ha.not_partWrites (eq ▸ writes q hq)
    · cases c with
      | storeWrite b v => exact absurd rfl (noStore b v)
      | registerWriteIgnored b v =>
        obtain ⟨rfl, low⟩ := host
        exact absurd low (not_lt.mpr (ignoredAddress_high formed))
      | _ => cases host

/-! ### Start-up -/

/-- Without store initialisation complete no event is due. -/
theorem lineTickDue_of_not_ready (n : LineNo) (h : s.ready = false) : lineTickDue n s = false := by
  simp [lineTickDue, h]

theorem tickWith_of_not_ready (e : TickEvent) (n : LineNo) (high : Bool) (h : s.ready = false) :
    tickWith e n high s = .next s := by
  simp [tickWith, occurs, tickHolds, lineTickDue_of_not_ready n h]

theorem sweepReaches_of_not_ready (slot : SlotNo) (h : s.ready = false) :
    sweepReaches slot s = false := by
  unfold sweepReaches
  split
  · rfl
  · simp [h]

theorem examination_of_not_reached {slot : SlotNo} {f : State → State} {due : Bool}
    (reaches : sweepReaches slot s = false) (notDue : due = false) :
    examination slot due f s = .next s := by
  simp [examination, notDue, reaches, occurs]

theorem orderDue_of_not_reached {kind : Nat} {slot : SlotNo} (h : sweepReaches slot s = false) :
    orderDue kind slot s = false := by
  simp [orderDue, h]

theorem hostWrite_of_not_ready (a : Nat) (v : Word) (h : s.ready = false) :
    hostWrite a v s = s := by
  simp [hostWrite, h]

/-- Until store initialisation completes no command but the two of start-up has an effect. -/
theorem exec_of_not_ready (h : s.ready = false) (reset : c ≠ .pinReset)
    (init : c ≠ .storeInitialisationComplete) : exec c s = .next s := by
  have reaches (slot : SlotNo) := sweepReaches_of_not_ready slot h
  have host (a : Nat) (v : Word) :
      (.next (hostWrite a v s) : Host.Outcome State Fault Refusal) = .next s :=
    congrArg _ (hostWrite_of_not_ready a v h)
  cases c with
  | pinReset => exact absurd rfl reset
  | storeInitialisationComplete => exact absurd rfl init
  | tickBoundary => change execTickBoundary s = _; simp [execTickBoundary, occurs, h]
  | frameBoundary => change execFrameBoundary s = _; simp [execFrameBoundary, occurs, h]
  | pageCloseAge => change execPageCloseAge s = _; simp [execPageCloseAge, occurs, h]
  | lineTick n high =>
    change execLineTick n high s = _
    simp [execLineTick, occurs, lineTickDue_of_not_ready n h]
  | seizureComplete | firstDigitExpiry | lockoutReturn | clear | pulseCounted | trainEnd
  | gatherWaitExpiry | recallBreakEnd | recallFinished | pauseFinished | senderWait
  | learnExpiry => exact tickWith_of_not_ready _ _ _ h
  | toneEnd k => change execToneEnd k s = _; simp [execToneEnd, occurs, senderEndDue, h]
  | gapEnd k => change execGapEnd k s = _; simp [execGapEnd, occurs, senderEndDue, h]
  | sweep =>
    change execSweep s = _
    unfold execSweep
    split
    · rfl
    · simp [occurs, h]
  | openLine slot | closeLine slot | adopt slot | learn slot | release slot | inject slot
  | flush slot | peek slot | mark slot =>
    exact examination_of_not_reached (reaches slot) (orderDue_of_not_reached (reaches slot))
  | unknownKind slot | withdraw slot =>
    exact examination_of_not_reached (reaches slot) (by simp [reaches slot])
  | nudge | sendHoldSet | sendHoldClear | controlMaskWrite | softReset | statusClear
  | registerWriteIgnored | storeWrite => exact host _ _

theorem hostRead_of_not_ready (a : Nat) (h : s.ready = false) :
    hostRead a s = if a = 0x1000 then 0x960A else 0 := by
  simp [hostRead, h]

/-- Settles O3. -/
theorem pinResetStillsThePart : Obligations.PinResetStillsThePart := by
  refine ⟨fun s => ⟨_, pinReset_answers s, rfl, rfl, rfl, fun a => hostRead_of_not_ready a rfl,
    fun b => ⟨rfl, rfl⟩, fun g => ?_, fun n => line_reset n⟩,
    fun c s ready reset init => exec_of_not_ready ready reset init⟩
  simp [initialising, State.reset]

theorem readWord_of_not_listed {m : List (Nat × Word)} {a : Nat} (h : ∀ q ∈ m, a ≠ q.1) :
    readWord m a = 0 := by
  induction m with
  | nil => rfl
  | cons q rest ih =>
    obtain ⟨b, w⟩ := q
    rw [readWord, if_neg (h (b, w) List.mem_cons_self)]
    exact ih fun q hq => h q (List.mem_cons_of_mem _ hq)

/-- Store initialisation leaves a word other than 0 in the signature, the version, the sender status words and the tone
plan alone. -/
theorem initialStore_addresses : ∀ q ∈ initialStore,
    q.1 = 0x000 ∨ q.1 = 0x001 ∨ (0x008 ≤ q.1 ∧ q.1 < 0x014) ∨
      (0x1C0 ≤ q.1 ∧ q.1 < 0x240 ∧ q.1 % 8 < 6) := by
  decide +kernel

theorem initialised_of_reset (h : t = { State.reset with pending := t.pending, scanBus := t.scanBus })
    (scan : ∀ g : Fin 12, t.scanBus.hldOut[g] = false ∧ t.scanBus.mutOut[g] = false) :
    Initialised t := by
  rw [h]
  have status : asWord (causeBits .clear + true.toNat * 32768) = 0x8000 := by decide
  refine ⟨rfl, rfl, status, rfl, rfl, rfl, scan, fun i => ?_, line_reset, fun p => ?_, sender_reset, rfl,
    rfl, rfl, rfl, rfl, rfl, rfl, rfl, rfl, rfl, ?_, ?_, fun a h0 h1 status tones => ?_⟩
  · simp [State.reset]
  · have := profile_reset p
    exact ⟨congrArg Profile.adopted this, congrArg Profile.generation this⟩
  · show ∀ k < 12, readWord initialStore (0x008 + k) = 0xFFFF
    decide +kernel
  · show ∀ c < 16, (List.range 6).map (fun i => readWord initialStore (0x1C0 + 8 * c + i)) = _
    decide +kernel
  · refine readWord_of_not_listed fun q hq same => ?_
    obtain first | second | status' | tones' := initialStore_addresses q hq <;> omega

/-- Settles O4. -/
theorem initialisationLeavesThePart : Obligations.InitialisationLeavesThePart := by
  intro s ready
  refine ⟨initialised s, by rw [initialisation_answers, ready]; rfl, initialised_of_reset rfl fun g => ?_⟩
  simp [initialised, State.reset]

theorem State.imageShown_of_out (h : (s.line n).mode = .out) :
    s.imageShown n = List.replicate 12 0 := by
  simp only [State.imageShown, h]

/-- After store initialisation every shown word stands as it is to. -/
theorem shownSound_reset : ShownSound State.reset := by
  intro _
  refine ⟨fun n => ?_, fun k => ?_, rfl⟩
  · rw [State.imageShown_of_out (by rw [line_reset]; rfl)]
    refine List.ext_getElem (by simp [State.words]) fun i hi _ => ?_
    simp only [State.words, List.length_map, List.length_range] at hi
    simp only [State.words, List.getElem_map, List.getElem_range, List.getElem_replicate]
    refine readWord_of_not_listed fun q hq same => ?_
    have := n.isLt
    obtain first | second | status | tones := initialStore_addresses q hq <;> omega
  · rw [sender_reset]
    have words : ∀ k : Fin 12, readWord initialStore (0x008 + k.val) = 0xFFFF := by decide +kernel
    exact words k

/-- Settles O60. -/
theorem resetMeetsTheLaws : Obligations.ResetMeetsTheLaws := by
  refine ⟨initialised_of_reset rfl (by simp [State.reset]), rfl, still_reset.poolSound,
    still_reset.serviceSound, still_reset.holdSound, shownSound_reset, entriesSound_reset,
    boardSound_reset.1, boardSound_reset.2.1, boardSound_reset.2.2.1, boardSound_reset.2.2.2,
    speedsSound_reset, storeWf_reset, muteSound_of_out line_reset, outLinesBare_reset,
    captureSound_reset, generationsSound_reset, scanSound_reset, sendersSound_reset⟩

end Sys2Proof.Machine
end

section
/-! The words that show the part: what the end of an event makes of them, and that no other write of the part meets them.
Settles O54. -/

namespace Sys2Proof.Machine

variable {s t u : State} {n m : LineNo} {k : SenderNo} {p : State → Prop} {c : Instr}

/-! ### The two layouts of an image agree -/

/-- The fields of word 0, in either order of the factors. -/
theorem imageWord0_congr {a a' b b' c c' d d' e e' : Nat} (ha : a = a') (hb : b = b') (hc : c = c')
    (hd : d = d') (he : e = e') :
    a + b * 16 + c * 256 + d * 4096 + e * 8192 = a' + 16 * b' + 256 * c' + 4096 * d' + 8192 * e' := by
  subst ha hb hc hd he
  omega

theorem imageWord6_congr {a a' b b' c c' d d' e e' f f' : Nat} (ha : a = a') (hb : b * 16 = b')
    (hc : c * 32 = c') (hd : d * 64 = d') (he : e * 128 = e') (hf : f * 256 = f') :
    a + b * 16 + c * 32 + d * 64 + e * 128 + f * 256 = a' + b' + c' + d' + e' + f' := by
  rw [ha, hb, hc, hd, he, hf]

theorem toNat_mul (b : Bool) (k : Nat) : b.toNat * k = if b = true then k else 0 := by
  cases b <;> simp

/-- The pending slot in an image is that of the RELEASE or INJECT, else that of the LEARN. -/
theorem Line.pendingSlot_value (l : Line) :
    l.pendingSlot.map (·.val) =
      (l.queue.order.map fun r => r.slot.val).or
        ((l.estimator.bind (·.learn)).map fun x => x.slot.val) := by
  unfold Line.pendingSlot
  cases l.queue.order with
  | none => simp [Option.map_map, Function.comp_def]
  | some r => simp

/-- The words of an image in service, in the layout of R183. -/
theorem imageWords_cons_congr {w0 w1 w2 w3 w4 w5 w6 w7 w8 w9 w10 w11 : Nat}
    {v0 v1 v2 v3 v6 v10 v11 : Nat} (h0 : w0 = v0) (h1 : w1 = v1) (h2 : w2 = v2) (h3 : w3 = v3)
    (h6 : w6 = v6) (h10 : w10 = v10) (h11 : w11 = v11) :
    [asWord w0, asWord w1, asWord w2, asWord w3, asWord w4, asWord w5, asWord w6, asWord w7,
      asWord w8, asWord w9, asWord w10, asWord w11] =
    [asWord v0, asWord v1, asWord v2, asWord v3, asWord w4, asWord w5, asWord v6, asWord w7,
      asWord w8, asWord w9, asWord v10, asWord v11] := by
  rw [h0, h1, h2, h3, h6, h10, h11]

/-- The image that the part writes is the one it is to show (R183). -/
theorem State.imageWords_eq_imageShown (s : State) (n : LineNo) : s.imageWords n = s.imageShown n := by
  have slot := (s.line n).pendingSlot_value
  unfold State.imageWords State.imageShown imageWord0 imageWord6 State.shownGeneration
  generalize s.boundSender n = sender
  generalize s.setInForce n = set
  generalize s.line n = l at slot ⊢
  have word10 : (l.pendingSlot.map (·.val + 1)).getD 0 =
      ((l.pendingSlot.map (·.val)).map (· + 1)).getD 0 := by
    rw [Option.map_map]; rfl
  cases mode : l.mode
  case out => simp only [mode]
  all_goals
    simp only [mode]
    rw [word10, slot]
    refine imageWords_cons_congr (imageWord0_congr rfl ?_ ?_ ?_ ?_) ?_ ?_ ?_
      (imageWord6_congr ?_ (toNat_mul _ _) (toNat_mul _ _) (toNat_mul _ _)
        (by rw [toNat_mul, Option.isSome_map]) (toNat_mul _ _)) ?_ ?_
    · cases l.decoder.sub <;> rfl
    · cases l.profile <;> rfl
    · cases l.scan with
      | none => rfl
      | some sc => cases sc.polarity <;> rfl
    · cases l.estimator with
      | none => rfl
      | some e => cases e.mode <;> rfl
    · cases set <;> cases l.call <;> rfl
    · cases l.estimator <;> rfl
    · cases l.decoder.ctx <;> rfl
    · cases sender <;> rfl
    · cases l.queue.order with
      | none => cases (l.estimator.bind (·.learn)) <;> rfl
      | some r => cases r <;> rfl
    · cases l.overflowReported <;> cases l.dialSpeedReported <;> rfl

/-! ### The items shown -/

/-- A word that shows an item of the part: a word of a line's image, a sender status word, or WAIT-COUNT. -/
inductive ShownItem where
  | image (n : LineNo) (i : Fin 12)
  | sender (k : SenderNo)
  | count

def ShownItem.address : ShownItem → Nat
  | .image n i => imageAddress n + i.val
  | .sender k => senderStatusAddress k.val
  | .count => waitCountAddress

/-- What the word is to read. -/
def ShownItem.value (s : State) : ShownItem → Word
  | .image n i => (s.imageWords n)[i.val]'(by rw [imageWords_length]; exact i.isLt)
  | .sender k => senderStatusWord (s.sender k)
  | .count => asWord s.waitList.length

theorem ShownItem.shown (x : ShownItem) : shownAddress x.address = true := by
  rw [shownAddress_iff]
  cases x with
  | image n i =>
    have := n.isLt
    have := i.isLt
    simp only [address, imageAddress]
    omega
  | sender k =>
    have := k.isLt
    simp only [address, senderStatusAddress]
    omega
  | count => simp [address, waitCountAddress]

theorem ShownItem.in_store (x : ShownItem) : x.address < storeSize := by
  have := (shownAddress_iff _).mp x.shown
  unfold storeSize
  omega

theorem ShownItem.not_report (x : ShownItem) : reportAddress x.address = false := by
  by_contra report
  have := (shownAddress_iff _).mp x.shown
  have := (reportAddress_iff _).mp (by simpa using report)
  cases x with
  | image n i =>
    have := n.isLt
    have := i.isLt
    simp only [address, imageAddress] at *
    omega
  | sender k =>
    have := k.isLt
    simp only [address, senderStatusAddress] at *
    omega
  | count => simp [address, waitCountAddress] at *

/-- Every item is shown. -/
def AllShown (s : State) : Prop := ∀ x : ShownItem, s.peek x.address = x.value s

theorem shownSound_iff : ShownSound s ↔ (s.ready = true → AllShown s) := by
  refine imp_congr_right fun _ => ⟨fun ⟨images, senders, count⟩ x => ?_, fun h => ⟨fun n => ?_,
    fun k => h (.sender k), h .count⟩⟩
  · cases x with
    | image n i =>
      have image := images n
      rw [← State.imageWords_eq_imageShown] at image
      have length : i.val < (s.words (0x400 + 16 * n.val) 12).length := by simp [State.words]
      have word : (s.words (0x400 + 16 * n.val) 12)[i.val] = s.peek (imageAddress n + i.val) := by
        simp [State.words, imageAddress]
      simp only [ShownItem.address, ShownItem.value]
      rw [← word]
      exact List.getElem_of_eq image length
    | sender k => exact senders k
    | count => exact count
  · rw [← State.imageWords_eq_imageShown]
    refine List.ext_getElem (by simp [State.words, imageWords_length]) fun i hi _ => ?_
    have hi : i < 12 := by simpa [State.words] using hi
    have word := h (.image n ⟨i, hi⟩)
    simp only [ShownItem.address, ShownItem.value, imageAddress] at word
    simpa [State.words] using word

/-! ### What the shown words read -/

theorem State.setInForce_congr (line : (t.line n).profile = (s.line n).profile)
    (profiles : t.profiles = s.profiles) : t.setInForce n = s.setInForce n := by
  simp only [State.setInForce, State.profile, line, profiles]

theorem State.imageWords_congr (line : t.line n = s.line n) (profiles : t.profiles = s.profiles)
    (bound : t.boundSender n = s.boundSender n) : t.imageWords n = s.imageWords n := by
  have set : t.setInForce n = s.setInForce n := State.setInForce_congr (by rw [line]) profiles
  simp only [State.imageWords, State.shownGeneration, line, set, bound]

theorem senderStatusWord_of_line (b : Option Binding) :
    senderStatusWord b = ((b.map (·.line)).map fun n => asWord n.val).getD 0xFFFF := by
  cases b <;> rfl

theorem ShownItem.value_congr (lines : ∀ n, t.line n = s.line n) (profiles : t.profiles = s.profiles)
    (bound : ∀ k, (t.sender k).map (·.line) = (s.sender k).map (·.line))
    (waitList : t.waitList.length = s.waitList.length) (x : ShownItem) : x.value t = x.value s := by
  cases x with
  | image n i =>
    simp only [value, State.imageWords_congr (lines n) profiles (State.boundSender_congr bound n)]
  | sender k => simp only [value, senderStatusWord_of_line, bound]
  | count => simp only [value, waitList]

theorem ShownItem.value_setStore (s : State) (m : List (Nat × Word)) (x : ShownItem) :
    x.value (s.setStore m) = x.value s :=
  ShownItem.value_congr (fun _ => rfl) rfl (fun _ => rfl) rfl x

/-! ### The end of an event -/

/-- A word written where it changes reads as its new value. -/
theorem readWord_writeChanged {m : List (Nat × Word)} {a i : Nat} {old new : List Word}
    (sound : storeWf m = true) (length : old.length = new.length) (hi : i < new.length)
    (inside : a + new.length ≤ storeSize)
    (h : old[i]'(by omega) = new[i] → readWord m (a + i) = new[i]) :
    readWord (writeChanged m a old new) (a + i) = new[i] := by
  induction old generalizing m a new i with
  | nil => rw [← length] at hi; exact absurd hi (by simp)
  | cons o old ih =>
    cases new with
    | nil => exact absurd hi (by simp)
    | cons w new =>
      simp only [List.length_cons] at length hi inside
      unfold writeChanged
      cases i with
      | zero =>
        rw [readWord_writeChanged_other _ _ _ _ _ (.inl (by omega))]
        simp only [List.getElem_cons_zero, Nat.add_zero] at h ⊢
        split
        · next same => exact h same
        · exact readWord_writeWord_same m a w sound (by omega)
      | succ i =>
        have step : a + (i + 1) = a + 1 + i := by omega
        simp only [step, List.getElem_cons_succ] at h ⊢
        refine ih ?_ (by omega) (by omega) (by omega) ?_
        · split
          · exact sound
          · exact storeWf_writeWord m a w sound
        · split
          · exact h
          · rw [readWord_writeWord_other m a _ w (by omega)]
            exact h

/-- A pass over a list that leaves an item as it may stand, and settles it when it comes to it. -/
theorem foldl_settles {α β : Type} {f : β → α → β} {may is : β → Prop}
    (keeps : ∀ b y, may b → may (f b y)) (still : ∀ b y, may b → is b → is (f b y)) {x : α}
    (hit : ∀ b, may b → is (f b x)) {l : List α} (mem : x ∈ l) {b : β} (h : may b) :
    is (l.foldl f b) := by
  have stays (l : List α) {b : β} (hb : may b) (done : is b) : is (l.foldl f b) := by
    induction l generalizing b with
    | nil => exact done
    | cons y rest ih => exact ih (keeps b y hb) (still b y hb done)
  induction l generalizing b with
  | nil => cases mem
  | cons y rest ih =>
    obtain rfl | later := List.mem_cons.mp mem
    · exact stays rest (keeps b x h) (hit b h)
    · exact ih later (keeps b y h)

/-- In a sound store the word of an item reads as it is to, unless the event changes the item. -/
def MayStand (before after : State) (x : ShownItem) (m : List (Nat × Word)) : Prop :=
  storeWf m = true ∧ (x.value before = x.value after → readWord m x.address = x.value after)

theorem MayStand.of_value {before after : State} {x : ShownItem} {m : List (Nat × Word)}
    (sound : storeWf m = true) (h : readWord m x.address = x.value after) :
    MayStand before after x m := ⟨sound, fun _ => h⟩

theorem writeImage_hits {before after : State} {n : LineNo} {i : Fin 12} {m : List (Nat × Word)}
    (h : MayStand before after (.image n i) m) :
    readWord (writeImage before after m n) (ShownItem.image n i).address =
      (ShownItem.image n i).value after := by
  obtain ⟨sound, h⟩ := h
  unfold writeImage
  split
  · next out =>
    have same : before.imageWords n = after.imageWords n := by
      simp only [State.imageWords, out.1, out.2]
    exact h (by simp only [ShownItem.value, same])
  · refine readWord_writeChanged sound (by rw [imageWords_length, imageWords_length])
      (by rw [imageWords_length]; exact i.isLt) ?_ h
    rw [imageWords_length]
    have := n.isLt
    unfold imageAddress storeSize
    omega

theorem writeSenderStatus_hits {before after : State} {k : SenderNo} {m : List (Nat × Word)}
    (h : MayStand before after (.sender k) m) :
    readWord (writeSenderStatus before after m k) (ShownItem.sender k).address =
      (ShownItem.sender k).value after := by
  obtain ⟨sound, h⟩ := h
  unfold writeSenderStatus
  split
  · next same => exact h same
  · exact readWord_writeWord_same m _ _ sound (ShownItem.sender k).in_store

theorem writeWaitCount_hits {before after : State} {m : List (Nat × Word)}
    (h : MayStand before after .count m) :
    readWord (writeWaitCount before after m) ShownItem.count.address =
      ShownItem.count.value after := by
  obtain ⟨sound, h⟩ := h
  unfold writeWaitCount
  split
  · next same => exact h (by simp only [ShownItem.value, same])
  · exact readWord_writeWord_same m _ _ sound ShownItem.count.in_store

theorem writeImage_other {before after : State} {n : LineNo} {x : ShownItem}
    (other : ∀ i, x ≠ .image n i) (m : List (Nat × Word)) :
    readWord (writeImage before after m n) x.address = readWord m x.address := by
  refine readWord_writeImage_other before after m n _ ?_
  cases x with
  | image n' i =>
    have apart : n'.val ≠ n.val := fun same => other i (by rw [Fin.ext same])
    have := i.isLt
    simp only [ShownItem.address, imageAddress]
    omega
  | sender k =>
    have := k.isLt
    simp only [ShownItem.address, imageAddress, senderStatusAddress]
    omega
  | count =>
    simp only [ShownItem.address, imageAddress, waitCountAddress]
    omega

theorem writeSenderStatus_other {before after : State} {k : SenderNo} {x : ShownItem}
    (other : x ≠ .sender k) (m : List (Nat × Word)) :
    readWord (writeSenderStatus before after m k) x.address = readWord m x.address := by
  unfold writeSenderStatus
  split
  · rfl
  · refine readWord_writeWord_other m _ _ _ ?_
    have := k.isLt
    cases x with
    | image n i => simp only [ShownItem.address, imageAddress, senderStatusAddress]; omega
    | sender j =>
      have apart : j.val ≠ k.val := fun same => other (by rw [Fin.ext same])
      simp only [ShownItem.address, senderStatusAddress]
      omega
    | count => simp only [ShownItem.address, waitCountAddress, senderStatusAddress]; omega

theorem writeWaitCount_other {before after : State} {x : ShownItem} (other : x ≠ .count)
    (m : List (Nat × Word)) :
    readWord (writeWaitCount before after m) x.address = readWord m x.address := by
  unfold writeWaitCount
  split
  · rfl
  · refine readWord_writeWord_other m _ _ _ ?_
    cases x with
    | image n i => simp only [ShownItem.address, imageAddress, waitCountAddress]; omega
    | sender j =>
      have := j.isLt
      simp only [ShownItem.address, senderStatusAddress, waitCountAddress]
      omega
    | count => exact absurd rfl other

/-- Every item is shown in the store that the end of an event leaves. -/
theorem readWord_shownStore {before after : State} (x : ShownItem)
    (h : MayStand before after x after.store) :
    readWord (shownStore before after) x.address = x.value after := by
  have images (m : List (Nat × Word)) (n : LineNo) (h : MayStand before after x m) :
      MayStand before after x (writeImage before after m n) := by
    by_cases here : ∃ i, x = .image n i
    · obtain ⟨i, rfl⟩ := here
      exact .of_value (storeWf_writeImage before after m n h.1) (writeImage_hits h)
    · have other := not_exists.mp here
      exact ⟨storeWf_writeImage before after m n h.1, by rw [writeImage_other other]; exact h.2⟩
  have senders (m : List (Nat × Word)) (k : SenderNo) (h : MayStand before after x m) :
      MayStand before after x (writeSenderStatus before after m k) := by
    by_cases here : x = .sender k
    · subst here
      exact .of_value (storeWf_writeSenderStatus before after m k h.1) (writeSenderStatus_hits h)
    · exact ⟨storeWf_writeSenderStatus before after m k h.1,
        by rw [writeSenderStatus_other here]; exact h.2⟩
  have foldImages {l : List LineNo} {m : List (Nat × Word)} (h : MayStand before after x m) :
      MayStand before after x (l.foldl (writeImage before after) m) := by
    induction l generalizing m with
    | nil => exact h
    | cons n rest ih => exact ih (images m n h)
  have foldSenders {l : List SenderNo} {m : List (Nat × Word)} (h : MayStand before after x m) :
      MayStand before after x (l.foldl (writeSenderStatus before after) m) := by
    induction l generalizing m with
    | nil => exact h
    | cons k rest ih => exact ih (senders m k h)
  unfold shownStore
  cases x with
  | image n i =>
    rw [writeWaitCount_other (by simp),
      readWord_foldl_other _ _ _ _ fun m k => writeSenderStatus_other (by simp) m]
    refine foldl_settles (is := fun m => readWord m (ShownItem.image n i).address =
      (ShownItem.image n i).value after) images (fun m n' hm done => ?_) (x := n)
      (fun m hm => writeImage_hits hm) (List.mem_finRange n) h
    by_cases same : n' = n
    · subst same; exact writeImage_hits hm
    · rw [writeImage_other fun j => by simp [Ne.symm same]]; exact done
  | sender k =>
    rw [writeWaitCount_other (by simp)]
    refine foldl_settles (is := fun m => readWord m (ShownItem.sender k).address =
      (ShownItem.sender k).value after) senders (fun m k' hm done => ?_) (x := k)
      (fun m hm => writeSenderStatus_hits hm) (List.mem_finRange k) (foldImages h)
    by_cases same : k' = k
    · subst same; exact writeSenderStatus_hits hm
    · rw [writeSenderStatus_other (by simp [Ne.symm same])]; exact done
  | count => exact writeWaitCount_hits (foldSenders (foldImages h))

/-- The MUTE latches settled, the rest standing. -/
theorem settleMutes_keeps (s : State) :
    s.settleMutes.store = s.store ∧ s.settleMutes.senders = s.senders ∧
      s.settleMutes.waitList = s.waitList ∧ s.settleMutes.profiles = s.profiles := by
  unfold State.settleMutes
  generalize Vector.ofFn _ = v
  exact ⟨rfl, rfl, rfl, rfl⟩

/-- Behind an event an item is shown, when the event changes it or it stood as it is to read. -/
theorem settle_shows (sound : StoreSound t) (x : ShownItem)
    (h : x.value s = x.value t.settleMutes → t.peek x.address = x.value t.settleMutes) :
    (settle s t).peek x.address = x.value t.settleMutes := by
  have store : t.settleMutes.store = t.store := (settleMutes_keeps t).1
  have shown := readWord_shownStore (before := s) (after := t.settleMutes) x
    ⟨by rw [store]; exact sound, by rw [store]; exact h⟩
  unfold settle
  rw [State.setStore_peek']
  exact shown

/-- Behind an event every item is shown that stood, in a sound store, as before the event or as after it. -/
theorem settle_allShown (sound : StoreSound t)
    (h : ∀ x : ShownItem, t.peek x.address = x.value s ∨ t.peek x.address = x.value t.settleMutes) :
    AllShown (settle s t) := by
  intro x
  rw [settle_shows sound x fun same => (h x).elim (·.trans same) id]
  unfold settle
  rw [ShownItem.value_setStore]

end Sys2Proof.Machine
end

section
/-! Every command keeps the words shown. Settles O54. -/

namespace Sys2Proof.Machine

variable {s t u : State} {n m : LineNo} {k : SenderNo} {p : State → Prop} {c : Instr}
  {W : Nat → Prop}

/-! ### What the words shown lean on -/

/-- The store is canonical, every MARK's target lies in the host area, and no queue holds more than 24 entries. -/
structure ShownBase (s : State) : Prop where
  store : StoreSound s
  targets : MarkTargetsSound s
  room : ∀ n, (s.line n).queue.entries.length ≤ 24

theorem StoreSound.of_move (h : Move s t) (hs : StoreSound s) : StoreSound t := by
  obtain ⟨l, hl⟩ := h.store_cases
  rw [StoreSound, hl]
  exact storeWf_writeWords _ l hs

theorem StoreSound.pokes (hs : StoreSound s) (l : List (Nat × Word)) : StoreSound (s.pokes l) :=
  storeWf_writeWords _ l hs

theorem StoreSound.settle (b : State) (hs : StoreSound s) : StoreSound (settle b s) := by
  refine storeWf_shownStore b s.settleMutes ?_
  rw [(settleMutes_keeps s).1]
  exact hs

theorem LineMove.room {l : Line} (h : LineMove s n l) (hs : (s.line n).queue.entries.length ≤ 24) :
    l.queue.entries.length ≤ 24 := by
  cases h with
  | service l h => exact h.queue.room.trans (max_le hs le_rfl)
  | queue q h => exact h.room.trans (max_le hs le_rfl)
  | opened | out => exact Nat.zero_le _
  | unscanned | scanned | timers | estimate | train => exact hs

theorem ShownBase.of_move (h : Move s t) (hs : ShownBase s) : ShownBase t :=
  ⟨hs.store.of_move h, hs.targets.of_move h,
    h.keeps_lines (q := fun l => l.queue.entries.length ≤ 24) (fun _ => Nat.zero_le _)
      (fun n _ h => h.room (hs.room n)) hs.room⟩

theorem ShownBase.pokes (hs : ShownBase s) (l : List (Nat × Word)) : ShownBase (s.pokes l) :=
  ⟨hs.store.pokes l, hs.targets, hs.room⟩

theorem ShownBase.settle (b : State) (hs : ShownBase s) : ShownBase (settle b s) :=
  ⟨hs.store.settle b, hs.targets.of_settle b, fun n => by rw [settle_line]; exact hs.room n⟩

/-- No move writes a word shown. -/
theorem Move.peek_shown (h : Move s t) (hs : ShownBase s) (x : ShownItem) :
    t.peek x.address = s.peek x.address := by
  have low (host : 0x240 ≤ x.address ∧ x.address ≤ 0x3FF) : False := by
    have := (shownAddress_iff _).mp x.shown
    omega
  cases h with
  | report l h =>
    refine State.pokes_peek_other fun q hq same => ?_
    have report := h q hq
    rw [← same, x.not_report] at report
    cases report
  | target c h =>
    refine State.poke_peek_other _ fun same => ?_
    have target : inHostArea c.p0 0 = true := by
      obtain target | ⟨o, ho, mark, rfl⟩ := h
      · exact target
      · exact hs.targets o ho mark
    have := (inHostArea_iff _ _).mp target
    exact low (by omega)
  | snapshot n target ws h hlen =>
    refine State.pokes_peek_other fun q hq same => ?_
    have := (inHostArea_iff _ _).mp h
    have := mem_runWrites hq
    have := hs.room n
    exact low (by omega)
  | _ => rfl

theorem Moves.peek_shown (h : Moves s t) (hs : ShownBase s) (x : ShownItem) :
    t.peek x.address = s.peek x.address ∧ ShownBase t :=
  h.keeps (p := fun u => u.peek x.address = s.peek x.address ∧ ShownBase u)
    (fun _ _ move ⟨same, base⟩ => ⟨(move.peek_shown base x).trans same, base.of_move move⟩)
    ⟨rfl, hs⟩

/-! ### A line out of service, and a soft reset -/

theorem ShownItem.value_image_of_out (out : (s.line n).mode = .out) (i : Fin 12) :
    (ShownItem.image n i).value s = 0 := by
  have blank : s.imageWords n = List.replicate 12 0 := by simp only [State.imageWords, out]
  simp only [value, blank, List.getElem_replicate]

theorem settleMutes_line (s : State) (n : LineNo) :
    s.settleMutes.line n = { s.line n with mute := s.muteOn n } := by
  simp [State.settleMutes, State.line]

theorem clearImage_peek_same (hs : StoreSound s) (n : LineNo) {i : Nat} (hi : i < 12) :
    (clearImage n s).peek (imageAddress n + i) = 0 := by
  refine readWord_writeWords_of_mem hs (ShownItem.image n ⟨i, hi⟩).in_store ?_
    (List.mem_map.mpr ⟨i, List.mem_range.mpr hi, rfl⟩)
  refine List.pairwise_map.mpr (List.Pairwise.imp ?_ List.pairwise_lt_range)
  intro a b less same
  omega

theorem clearImage_peek_other {a : Nat} (h : a < imageAddress n ∨ imageAddress n + 12 ≤ a) :
    (clearImage n s).peek a = s.peek a := by
  refine State.pokes_peek_other fun q hq same => ?_
  obtain ⟨i, hi, rfl⟩ := List.mem_map.mp hq
  have := List.mem_range.mp hi
  omega

theorem clearImages_peek_same (hs : StoreSound s) (n : LineNo) {i : Nat} (hi : i < 12) :
    (clearImages s).peek (imageAddress n + i) = 0 := by
  refine foldl_settles (f := fun s n => clearImage n s) (may := StoreSound)
    (is := fun s => s.peek (imageAddress n + i) = 0) (fun u j sound => sound.pokes _)
    (fun u j sound done => ?_) (x := n) (fun u sound => clearImage_peek_same sound n hi)
    (List.mem_finRange n) hs
  by_cases same : j = n
  · subst same; exact clearImage_peek_same sound j hi
  · have apart : j.val ≠ n.val := fun h => same (Fin.ext h)
    exact (clearImage_peek_other (by unfold imageAddress; omega)).trans done

theorem clearImages_peek_other {a : Nat} (h : ∀ n, a < imageAddress n ∨ imageAddress n + 12 ≤ a) :
    (clearImages s).peek a = s.peek a := by
  unfold clearImages
  generalize List.finRange 96 = l
  induction l generalizing s with
  | nil => rfl
  | cons n rest ih => exact (ih (s := clearImage n s)).trans (clearImage_peek_other (h n))

theorem clearImages_store (hs : StoreSound s) : StoreSound (clearImages s) := by
  unfold clearImages
  generalize List.finRange 96 = l
  induction l generalizing s with
  | nil => exact hs
  | cons n rest ih => exact ih (s := clearImage n s) (hs.pokes _)

theorem freePool_store (hs : StoreSound s) : StoreSound (freePool s) :=
  (StoreSound.pokes (s := { s with senders := Vector.replicate 12 none, waitList := [] }) hs
    _).pokes [(waitCountAddress, 0)]

theorem freePool_peek_sender (hs : StoreSound s) (k : SenderNo) :
    (freePool s).peek (senderStatusAddress k.val) = 0xFFFF := by
  have apart : senderStatusAddress k.val ≠ waitCountAddress := by
    have := k.isLt
    unfold senderStatusAddress waitCountAddress
    omega
  refine (State.poke_peek_other _ apart).trans ?_
  refine readWord_writeWords_of_mem hs (ShownItem.sender k).in_store ?_
    (List.mem_map.mpr ⟨k.val, List.mem_range.mpr k.isLt, rfl⟩)
  refine List.pairwise_map.mpr (List.Pairwise.imp ?_ List.pairwise_lt_range)
  intro a b less same
  unfold senderStatusAddress at same
  omega

theorem freePool_peek_count (hs : StoreSound s) : (freePool s).peek waitCountAddress = 0 :=
  readWord_writeWord_same _ _ _ (storeWf_writeWords _ _ hs) ShownItem.count.in_store

theorem dropProfiles_peek_other {a : Nat} (h : reportAddress a = false) :
    (dropProfiles s).peek a = s.peek a := by
  refine State.pokes_peek_other fun q hq same => ?_
  obtain ⟨k, -, rfl⟩ := List.mem_map.mp hq
  rw [same, reportAddress_profile k 28 (by decide) (by decide)] at h
  cases h

theorem closePage_peek_other {a : Nat} (h : reportAddress a = false) :
    (closePage s).peek a = s.peek a := by
  unfold closePage
  split
  · rfl
  · refine State.pokes_peek_other (s := s) fun q hq same => ?_
    have page := reportAddress_page s.capture.nextPage
    have report : reportAddress q.1 = true := by
      simp only [List.mem_cons, List.not_mem_nil, or_false] at hq
      obtain rfl | rfl | rfl | rfl := hq
      · exact page 1
      · exact page 0
      · exact (by decide : reportAddress lastSeqAddress = true)
      · exact (by decide : reportAddress fillPageAddress = true)
    rw [same, report] at h
    cases h

/-- A soft reset shows every line OUT, every sender FREE and no request. -/
theorem softReset_shown (hs : StoreSound (linesOut (refuseHeld s))) (x : ShownItem) :
    (softReset s).peek x.address = x.value (softReset s).settleMutes := by
  have still := softReset_still s
  have late : (softReset s).peek x.address =
      (clearImages (freePool (linesOut (refuseHeld s)))).peek x.address :=
    (closePage_peek_other x.not_report).trans (dropProfiles_peek_other x.not_report)
  rw [late]
  cases x with
  | image n i =>
    rw [ShownItem.value_image_of_out]
    · exact clearImages_peek_same (freePool_store hs) n i.isLt
    · obtain ⟨raw, line⟩ := still.lines n
      rw [settleMutes_line, line]
      rfl
  | sender k =>
    have free : (softReset s).settleMutes.sender k = none := by
      rw [State.sender_congr (settleMutes_keeps _).2.1]; exact still.senders k
    rw [ShownItem.value, free]
    refine (clearImages_peek_other fun n => ?_).trans (freePool_peek_sender hs k)
    have := k.isLt
    simp only [ShownItem.address, senderStatusAddress, imageAddress]
    omega
  | count =>
    have none : (softReset s).settleMutes.waitList = [] :=
      (settleMutes_keeps _).2.2.1.trans still.waitList
    rw [ShownItem.value, none]
    refine (clearImages_peek_other fun n => ?_).trans (freePool_peek_count hs)
    simp only [ShownItem.address, waitCountAddress, imageAddress]
    omega

/-! ### Events and stages -/

/-- What an event leaves of the words shown: each stands, or reads as it is to read. -/
theorem Effect.may_stand (h : Effect s t) (hs : ShownBase s) :
    ShownBase t ∧ ∀ x : ShownItem,
      t.peek x.address = s.peek x.address ∨ t.peek x.address = x.value t.settleMutes := by
  cases h with
  | acts h =>
    have acted (x : ShownItem) := h.moves.peek_shown hs x
    exact ⟨(acted .count).2, fun x => .inl (acted x).1⟩
  | @closes u n slot code d w h out =>
    have acted (x : ShownItem) := h.moves.peek_shown hs x
    have base : ShownBase (clearImage n u) := (acted .count).2.pokes _
    have answered (x : ShownItem) := (writeOutcome_moves slot code d w (clearImage n u)).peek_shown base x
    refine ⟨(answered .count).2, fun x => ?_⟩
    rw [(answered x).1]
    by_cases here : ∃ i, x = .image n i
    · obtain ⟨i, rfl⟩ := here
      right
      rw [ShownItem.value_image_of_out (by rw [settleMutes_line]; exact out)]
      exact clearImage_peek_same (acted .count).2.store n i.isLt
    · left
      refine (clearImage_peek_other ?_).trans (acted x).1
      cases x with
      | image m i =>
        have apart : m.val ≠ n.val := fun same => here ⟨i, by rw [Fin.ext same]⟩
        have := i.isLt
        simp only [ShownItem.address, imageAddress]
        omega
      | sender k =>
        have := k.isLt
        simp only [ShownItem.address, imageAddress, senderStatusAddress]
        omega
      | count => simp only [ShownItem.address, imageAddress, waitCountAddress]; omega
  | resets =>
    have base : ShownBase (linesOut (refuseHeld s)) :=
      ShownBase.of_move .allOut (Moves.keeps (fun _ _ => ShownBase.of_move) (refuseHeld_moves s) hs)
    exact ⟨softReset_keeps (fun _ _ => ShownBase.of_move) (fun _ l _ h => h.pokes l) hs,
      fun x => .inr (softReset_shown base.store x)⟩

theorem AllShown.of_same (h : AllShown s) (store : ∀ x : ShownItem, t.peek x.address = s.peek x.address)
    (lines : t.lines = s.lines) (profiles : t.profiles = s.profiles)
    (bound : ∀ k, (t.sender k).map (·.line) = (s.sender k).map (·.line))
    (waitList : t.waitList = s.waitList) : AllShown t := fun x => by
  rw [store, ShownItem.value_congr (State.line_congr lines) profiles bound (by rw [waitList])]
  exact h x

/-- Every stage keeps the words shown, as long as the host writes none of them. -/
theorem AllShown.of_stage (host : ∀ a, W a → shownAddress a = false) (h : Stage W s t)
    (hs : ShownBase s ∧ AllShown s) : ShownBase t ∧ AllShown t := by
  obtain ⟨base, shown⟩ := hs
  cases h with
  | aside h store =>
    refine ⟨Moves.keeps (fun _ _ => ShownBase.of_move) h.moves base,
      shown.of_same (fun x => ?_) h.lines h.profiles
        (fun k => by rw [State.sender_congr h.senders]) h.waitList⟩
    rw [State.peek, store, State.peek]
  | counts k b h =>
    exact ⟨base.of_move (.sender k _ (.counted b h)), shown.of_same (fun _ => rfl) rfl rfl
      (setSender_line_of_same_line (c := { b with countdown := b.countdown - 1 }) h rfl) rfl⟩
  | frame =>
    exact ⟨base.of_move .frame,
      shown.of_same (fun _ => rfl) rfl rfl (settleFrame_sender_line s) rfl⟩
  | poke a v h =>
    refine ⟨base.pokes [(a, v)], shown.of_same (fun x => State.poke_peek_other _ fun same => ?_) rfl
      rfl (fun _ => rfl) rfl⟩
    have := x.shown
    rw [same, host a h] at this
    cases this
  | @event u h =>
    obtain ⟨base', stand⟩ := h.may_stand base
    refine ⟨base'.settle s, settle_allShown base'.store fun x => ?_⟩
    exact (stand x).imp_left fun same => same.trans (shown x)

theorem shownSound_initialised (s : State) : ShownSound (initialised s) := by
  have reset := shownSound_iff.mp shownSound_reset rfl
  exact shownSound_iff.mpr fun _ => reset.of_same (fun _ => rfl) rfl rfl (fun _ => rfl) rfl

/-- Settles O54: no move writes a shown word, and the end of every event writes each that has changed. -/
theorem shownWordsKept : Obligations.ShownWordsKept := by
  intro c s formed store targets room shown host
  obtain ⟨t, h⟩ := exec_answers c s
  refine ⟨t, h, ?_⟩
  by_cases reset : c = .pinReset
  · subst reset
    obtain rfl : initialising s = t := by simpa [pinReset_answers] using h
    exact nofun
  by_cases init : c = .storeInitialisationComplete
  · subst init
    obtain rfl : (if !s.ready then initialised s else s) = t := by
      simpa [initialisation_answers] using h
    split
    · exact shownSound_initialised s
    · exact shown
  by_cases ready : s.ready = true
  · refine shownSound_iff.mpr fun _ => (Stages.keeps (p := fun u => ShownBase u ∧ AllShown u)
      (fun _ _ stage => AllShown.of_stage (fun a ha => ?_) stage) (exec_stages reset init h)
      ⟨⟨store, targets, room⟩, shownSound_iff.mp shown ready⟩).2
    cases c with
    | storeWrite b v =>
      obtain rfl : a = b.toNat := ha
      exact host b v rfl
    | registerWriteIgnored b v =>
      obtain ⟨rfl, low⟩ := ha
      exact absurd low (not_lt.mpr (ignoredAddress_high formed))
    | _ => cases ha
  · obtain rfl : s = t := by
      simpa [exec_of_not_ready (by simpa using ready) reset init] using h
    exact shown

end Sys2Proof.Machine
end

section
/-! The end of an event that moves one line at most, and the examination of a slot by the sweep. -/

namespace Sys2Proof.Machine

variable {s t u : State} {n m : LineNo} {k : SenderNo} {c : OrderCopy} {slot : SlotNo}
  {f : State → State} {code : ResultCode} {detail : Nat}

/-! ### Events that show nothing, and events that show one line -/

theorem MuteSound.settled (h : MuteSound s) : s.settleMutes = s := s.settleMutes_of_sound h

theorem MuteSound.of_lines (h : MuteSound s) (lines : u.lines = s.lines)
    (bound : ∀ k, (u.sender k).map (·.line) = (s.sender k).map (·.line)) : MuteSound u := fun n => by
  have line := State.line_congr lines n
  rw [line, h n]
  exact (State.muteOn_congr (by rw [line]; exact ⟨rfl, rfl, rfl⟩) (State.boundSender_congr bound n)).symm

/-- An event that leaves the lines, the lines of the senders, the number of requests and the sets shows nothing. -/
theorem settle_of_same (mute : MuteSound s) (lines : u.lines = s.lines)
    (profiles : u.profiles = s.profiles)
    (bound : ∀ k, (u.sender k).map (·.line) = (s.sender k).map (·.line))
    (waitList : u.waitList.length = s.waitList.length) : settle s u = u := by
  have images (m : List (Nat × Word)) (n : LineNo) : writeImage s u m n = m := by
    unfold writeImage
    rw [State.imageWords_congr (State.line_congr lines n) profiles (State.boundSender_congr bound n),
      writeChanged_self, ite_self]
  have senders (m : List (Nat × Word)) (k : SenderNo) : writeSenderStatus s u m k = m :=
    if_pos (by rw [senderStatusWord_of_line, senderStatusWord_of_line, bound])
  have still {α : Type} {f : List (Nat × Word) → α → List (Nat × Word)} (hf : ∀ m x, f m x = m)
      (l : List α) (m : List (Nat × Word)) : l.foldl f m = m := by
    induction l generalizing m with
    | nil => rfl
    | cons x rest ih => rw [List.foldl_cons, hf, ih]
  unfold settle
  rw [(mute.of_lines lines bound).settled]
  unfold shownStore writeWaitCount
  rw [still images, still senders, if_pos waitList.symm]
  rfl

theorem settle_of_answers (mute : MuteSound s) (h : Answers s u) : settle s u = u := by
  obtain ⟨-, -, -, -, lines, profiles, senders, waitList, -⟩ := h.keeps
  exact settle_of_same mute lines profiles (fun k => by rw [State.sender_congr senders]) (by rw [waitList])

theorem settle_of_reports (mute : MuteSound s) (h : Reports s u) : settle s u = u := by
  obtain ⟨-, -, -, -, lines, profiles, senders, waitList, -⟩ := h.keeps
  exact settle_of_same mute lines profiles (fun k => by rw [State.sender_congr senders]) (by rw [waitList])

/-- Of what is shown, the two states differ in one line's state alone. -/
structure Beside (n : LineNo) (s u : State) : Prop where
  lines : ∀ m, m ≠ n → u.line m = s.line m
  profiles : u.profiles = s.profiles
  bound : ∀ k, (u.sender k).map (·.line) = (s.sender k).map (·.line)
  waitList : u.waitList.length = s.waitList.length

theorem Beside.refl (n : LineNo) (s : State) : Beside n s s := ⟨fun _ _ => rfl, rfl, fun _ => rfl, rfl⟩

theorem Beside.trans (h : Beside n s t) (k : Beside n t u) : Beside n s u :=
  ⟨fun m hm => (k.lines m hm).trans (h.lines m hm), k.profiles.trans h.profiles,
    fun j => (k.bound j).trans (h.bound j), k.waitList.trans h.waitList⟩

theorem Beside.of_same (lines : u.lines = s.lines) (profiles : u.profiles = s.profiles)
    (senders : u.senders = s.senders) (waitList : u.waitList = s.waitList) : Beside n s u :=
  ⟨fun m _ => State.line_congr lines m, profiles, fun k => by rw [State.sender_congr senders],
    by rw [waitList]⟩

theorem Reports.beside (h : Reports s u) : Beside n s u := by
  obtain ⟨-, -, -, -, lines, profiles, senders, waitList, -⟩ := h.keeps
  exact .of_same lines profiles senders waitList

theorem Answers.beside (h : Answers s u) : Beside n s u := by
  obtain ⟨-, -, -, -, lines, profiles, senders, waitList, -⟩ := h.keeps
  exact .of_same lines profiles senders waitList

theorem Beside.setLine (s : State) (n : LineNo) (l : Line) : Beside n s (s.setLine n l) :=
  ⟨fun m hm => s.setLine_line_other n m l hm, rfl, fun _ => rfl, rfl⟩

theorem Beside.modLine (s : State) (n : LineNo) (f : Line → Line) : Beside n s (s.modLine n f) :=
  .setLine s n _

theorem Beside.muteOn (h : Beside n s u) (hm : m ≠ n) : u.muteOn m = s.muteOn m :=
  State.muteOn_congr (by rw [h.lines m hm]; exact ⟨rfl, rfl, rfl⟩) (State.boundSender_congr h.bound m)

theorem Beside.settle_line_other (h : Beside n s u) (mute : MuteSound s) (hm : m ≠ n) :
    (settle s u).line m = s.line m := by
  rw [settle_line, h.muteOn hm, h.lines m hm, ← mute m]

/-- An event that moves one line and no binding writes that line's image, and WAIT-COUNT if the number of requests
has changed. -/
theorem settle_peek_apart (mute : MuteSound s) (lines : ∀ m, m ≠ n → u.line m = s.line m)
    (profiles : u.profiles = s.profiles)
    (bound : ∀ k, (u.sender k).map (·.line) = (s.sender k).map (·.line)) {a : Nat}
    (count : a ≠ waitCountAddress ∨ u.waitList.length = s.waitList.length)
    (outside : a < imageAddress n ∨ imageAddress n + 12 ≤ a) : (settle s u).peek a = u.peek a := by
  obtain ⟨store, senders, waitList, sets⟩ := settleMutes_keeps u
  have bound' (k : SenderNo) : (u.settleMutes.sender k).map (·.line) = (s.sender k).map (·.line) := by
    rw [State.sender_congr senders, bound]
  have line (j : LineNo) (hj : j ≠ n) : u.settleMutes.line j = s.line j := by
    have same : u.muteOn j = s.muteOn j :=
      State.muteOn_congr (by rw [lines j hj]; exact ⟨rfl, rfl, rfl⟩) (State.boundSender_congr bound j)
    rw [settleMutes_line, lines j hj, same, ← mute j]
  have images (m : List (Nat × Word)) (j : LineNo) :
      readWord (writeImage s u.settleMutes m j) a = readWord m a := by
    by_cases same : j = n
    · subst same; exact readWord_writeImage_other _ _ _ _ _ outside
    · unfold writeImage
      rw [State.imageWords_congr (line j same) (sets.trans profiles)
        (State.boundSender_congr bound' j), writeChanged_self, ite_self]
  have status (m : List (Nat × Word)) (k : SenderNo) : writeSenderStatus s u.settleMutes m k = m :=
    if_pos (by rw [senderStatusWord_of_line, senderStatusWord_of_line, bound'])
  have waits (m : List (Nat × Word)) :
      readWord (writeWaitCount s u.settleMutes m) a = readWord m a := by
    unfold writeWaitCount
    split
    · rfl
    next changed =>
      refine readWord_writeWord_other _ _ _ _ (count.resolve_right fun same => changed ?_)
      rw [waitList, same]
  unfold settle shownStore
  rw [State.setStore_peek', waits, readWord_foldl_other _ _ _ _ fun m k => by rw [status],
    readWord_foldl_other _ _ _ _ images, store]
  rfl

/-- Such an event writes the image of that line alone. -/
theorem Beside.settle_peek (h : Beside n s u) (mute : MuteSound s) {a : Nat}
    (outside : a < imageAddress n ∨ imageAddress n + 12 ≤ a) : (settle s u).peek a = u.peek a :=
  settle_peek_apart mute h.lines h.profiles h.bound (.inr h.waitList) outside

theorem settle_form (s u : State) :
    ∃ v m, settle s u = { u with lines := v, store := m } := ⟨_, _, settle_eq s u⟩

/-- A line whose state, decoder, execution and sender stand keeps its MUTE. -/
theorem settle_line_of_mute {l : Line} (line : u.line n = l) (mute : u.muteOn n = l.mute) :
    (settle s u).line n = l := by
  rw [settle_line, line, mute]

/-! ### The sweep behind a slot -/

/-- The order unit when the sweep has gone on behind a slot. -/
def sweptPast (slot : SlotNo) (b : OrderBoard) : OrderBoard :=
  if slot.val = 15 then
    { b with sweepAt := if b.sweepHeld then some 0 else none, sweepHeld := false }
  else { b with sweepAt := some (slot.val + 1) }

/-- A re-check of the loss finds nothing to do: nothing is lost, or the next page is not free (R171). -/
def Rechecked (s : State) : Prop := s.capture.loss = 0 ∨ nextPageFree s = false

theorem recheckLoss_of_rechecked (h : Rechecked s) : recheckLoss s = s := by
  unfold recheckLoss
  obtain none | taken := h
  · rw [if_pos none]
  · split
    · rfl
    · rw [taken]; rfl

theorem endSweep_of_rechecked (h : Rechecked s) :
    endSweep s = { s with board := { s.board with
      sweepAt := if s.board.sweepHeld then some 0 else none, sweepHeld := false } } := by
  unfold endSweep
  rw [recheckLoss_of_rechecked h]
  rfl

theorem sweepPast_of_rechecked (mute : MuteSound s) (h : Rechecked s) :
    sweepPast slot s = { s with board := sweptPast slot s.board } := by
  unfold sweepPast sweptPast
  split
  · unfold event
    rw [endSweep_of_rechecked h]
    exact settle_of_same mute rfl rfl (fun _ => rfl) rfl
  · rfl

theorem sweptPast_swept {b : OrderBoard} (board : t.board = sweptPast slot b)
    (sweeping : b.sweepAt = s.board.sweepAt ∧ b.sweepHeld = s.board.sweepHeld) :
    SweptPast slot s t := by
  unfold SweptPast
  rw [board]
  unfold sweptPast
  obtain ⟨-, held⟩ := sweeping
  split
  · rw [← held]; exact ⟨rfl, rfl⟩
  · exact ⟨rfl, held⟩

theorem sweptPast_accepted (slot : SlotNo) (b : OrderBoard) : (sweptPast slot b).accepted = b.accepted := by
  unfold sweptPast; split <;> rfl

theorem examination_of_due {due : Bool} (h : due = true) :
    examination slot due f s = .next (examined slot f s) := by
  simp [examination, h]

theorem orderDue_iff (kind : Nat) : orderDue kind slot s = true ↔
    sweepReaches slot s = true ∧ slotIsPosted slot s = true ∧ (s.orderCopy slot).kind = kind := by
  simp [orderDue, and_assoc]

/-- The examination of a slot, with nothing for the sweep's end to re-check. -/
theorem examined_of_rechecked (h : Rechecked (settle s (f s))) :
    examined slot f s =
      { settle s (f s) with board := sweptPast slot (settle s (f s)).board } := by
  unfold examined event
  exact sweepPast_of_rechecked (settle_muteSound _ _) h

theorem settle_board (s u : State) : (settle s u).board = u.board := (settle_keeps s u).2.2.1

theorem settle_capture (s u : State) : (settle s u).capture = u.capture := (settle_keeps s u).2.2.2

theorem Rechecked.of_no_loss (h : u.capture.loss = 0) : Rechecked (settle s u) :=
  .inl (by rw [settle_capture]; exact h)

/-- An order whose effect shows nothing of the part, and loses no record. -/
theorem examined_of_answers (mute : MuteSound s) (loss : s.capture.loss = 0) (h : Answers s (f s)) :
    examined slot f s = { f s with board := sweptPast slot (f s).board } := by
  have settled := settle_of_answers mute h
  obtain ⟨-, -, -, -, -, -, -, -, -, capture, -⟩ := h.keeps
  rw [examined_of_rechecked (.of_no_loss (by rw [capture]; exact loss)), settled]

/-! ### Outcomes in a slot -/

theorem slotAddress_in_store (slot : SlotNo) (i : Nat) (hi : i < 8) :
    slotAddress slot + i < storeSize := by
  have := slot.isLt
  unfold slotAddress storeSize
  omega

theorem writeOutcome_shows (sound : StoreSound s) (slot : SlotNo) (code : ResultCode) (detail : Nat)
    (w : Word) : SlotShows (writeOutcome slot code detail w s) slot w code detail := by
  have reads {a : Nat} {v : Word} (written : (a, v) ∈
      [(slotAddress slot + 7, resultWord code detail), (slotAddress slot, w)])
      (inStore : a < storeSize) : (writeOutcome slot code detail w s).peek a = v :=
    readWord_writeWords_of_mem sound inStore (by simp) written
  exact ⟨reads (by simp) (slotAddress_in_store slot 0 (by decide)),
    reads (by simp) (slotAddress_in_store slot 7 (by decide))⟩

theorem writeOutcome_peek_other {a : Nat} {w : Word} (h0 : a ≠ slotAddress slot)
    (h7 : a ≠ slotAddress slot + 7) : (writeOutcome slot code detail w s).peek a = s.peek a := by
  refine State.pokes_peek_other (s := s) fun q hq => ?_
  simp only [List.mem_cons, List.not_mem_nil, or_false] at hq
  obtain rfl | rfl := hq
  · exact h7
  · exact h0

theorem writeOutcome_frame (slot : SlotNo) (code : ResultCode) (detail : Nat) (w : Word) (s : State) :
    StoreFrame s (writeOutcome slot code detail w s) [(slotAddress slot, 1), (slotAddress slot + 7, 1)] := by
  intro a outside
  simp only [List.mem_cons, List.not_mem_nil, or_false, forall_eq_or_imp, forall_eq] at outside
  exact writeOutcome_peek_other (by omega) (by omega)

theorem StoreFrame.trans {r r' : List (Nat × Nat)} (h : StoreFrame s t r) (k : StoreFrame t u r') :
    StoreFrame s u (r ++ r') := fun a outside =>
  (k a fun x hx => outside x (List.mem_append_right _ hx)).trans
    (h a fun x hx => outside x (List.mem_append_left _ hx))

theorem StoreFrame.mono {r r' : List (Nat × Nat)} (h : StoreFrame s t r) (sub : ∀ x ∈ r, x ∈ r') :
    StoreFrame s t r' := fun a outside => h a fun x hx => outside x (sub x hx)

/-- A refused order. -/
theorem examined_refuses (sound : StoreSound s) (mute : MuteSound s) (loss : s.capture.loss = 0)
    (h : f s = refuse slot code detail s) : Refuses slot code detail s (examined slot f s) := by
  have answers : Answers s (f s) := by rw [h]; exact refuse_answers slot code detail s
  rw [examined_of_answers mute loss answers, h]
  exact ⟨writeOutcome_shows sound slot code detail _, sweptPast_swept rfl ⟨rfl, rfl⟩,
    sweptPast_accepted slot s.board, writeOutcome_frame slot code detail _ s, rfl⟩

end Sys2Proof.Machine
end

section
/-! Refused orders: the common checks and the kinds' own. -/

namespace Sys2Proof.Machine

variable {s : State} {n : LineNo} {c : OrderCopy} {slot : SlotNo} {code : ResultCode}
  {detail : Nat} {f : State → State} {g : LineNo → State → State} {due : Bool}

/-- An examination that is due and refuses. -/
theorem examination_refuses (sound : StoreSound s) (mute : MuteSound s) (loss : s.capture.loss = 0)
    (hdue : due = true) (h : f s = refuse slot code detail s) :
    ∃ t, examination slot due f s = .next t ∧ Refuses slot code detail s t :=
  ⟨_, examination_of_due hdue, examined_refuses sound mute loss h⟩

theorem withLine_of_line (h : c.line? = some n) : withLine slot c g s = g n s := by
  simp [withLine, h]

theorem withLine_of_none (h : 96 ≤ c.lineField) :
    withLine slot c g s = refuse slot .lineRange 0 s := by
  have none : c.line? = none := dif_neg (by omega)
  simp [withLine, none]

theorem ifLineFree_of_free (h : lineHolder s n = none) : ifLineFree slot n f s = f s := by
  simp [ifLineFree, h]

theorem ifLineFree_of_busy {holder : SlotNo} (h : lineHolder s n = some holder) :
    ifLineFree slot n f s = refuse slot .lineBusy holder.val s := by
  simp [ifLineFree, h]

/-- Settles O34: each check answers before the kind's own effect, and a refusal touches the slot alone. -/
theorem commonChecksRefuse : Obligations.CommonChecksRefuse := by
  unfold Obligations.CommonChecksRefuse
  refine ⟨fun slot s sound mute loss reached posted kind =>
      examination_refuses sound mute loss (by simpa [reached, posted] using kind) rfl,
    fun slot s sound mute => ⟨?_, ?_, ?_⟩⟩
  · simp only [List.mem_cons, List.not_mem_nil, or_false, forall_eq_or_imp, forall_eq]
    refine ⟨?_, ?_, ?_, ?_, ?_, ?_, ?_⟩ <;>
      exact fun ⟨due, loss⟩ range =>
        examination_refuses sound mute loss due (withLine_of_none range)
  · intro ⟨due, loss⟩ range
    have none : (s.orderCopy slot).profile? = none := dif_neg (by omega)
    exact examination_refuses sound mute loss due (by simp [adoptOrder, none])
  · intro n holder
    simp only [List.mem_cons, List.not_mem_nil, or_false, forall_eq_or_imp, forall_eq]
    refine ⟨?_, ?_, ?_⟩ <;>
      exact fun ⟨due, loss⟩ line busy => examination_refuses sound mute loss due
        ((withLine_of_line line).trans (ifLineFree_of_busy busy))

/-! ### The kinds' own checks -/

theorem OrderCopy.openProfile?_of_val {p : ProfileNo} (h : p.val = c.p0.toNat) :
    c.openProfile? = some p := by
  have small : c.p0.toNat < 8 := h ▸ p.isLt
  unfold OrderCopy.openProfile?
  rw [dif_pos small]
  exact congrArg some (Fin.ext h.symm)

/-- The profile an OPEN names is in force, or the OPEN is refused (R18). -/
theorem openProfile_not_in_force (h : 7 < c.p0.toNat ∨
    ∀ p : ProfileNo, p.val = c.p0.toNat → (s.profile p).adopted = none) :
    (c.openProfile?.bind fun p => ((s.profile p).adopted.map fun a => (p, a))) = none := by
  unfold OrderCopy.openProfile?
  split
  next small =>
    obtain high | dropped := h
    · omega
    · simp [dropped ⟨c.p0.toNat, small⟩ rfl]
  next => rfl

theorem OrderCopy.polarity?_of_other (h0 : c.p1 ≠ 0) (h1 : c.p1 ≠ 1) : c.polarity? = none :=
  (if_neg h0).trans (if_neg h1)

theorem inHostArea_false {w : Word} {extra : Nat} (h : w.toNat < 0x240 ∨ 0x3FF < w.toNat + extra) :
    inHostArea w extra = false := by
  refine Bool.eq_false_iff.mpr fun inside => ?_
  have := (inHostArea_iff w extra).mp inside
  omega

theorem OrderCopy.injectCodes_length (c : OrderCopy) (h : c.injectCount ≤ 12) :
    c.injectCodes.length = c.injectCount := by
  simp [OrderCopy.injectCodes, codesOfWord, h]

/-- The first code that is not 0 to 17 gives its position, from 1 (R114). -/
theorem badCodePosition_of_first {codes : List Nat} {i : Nat} (inside : i < codes.length)
    (before : ∀ j < i, codes.getD j 0 ≤ 17) (bad : 17 < codes.getD i 0) :
    badCodePosition codes = some (i + 1) := by
  have found : (codes.findIdx? fun c => decide (17 < c)) = some i := by
    refine List.findIdx?_eq_some_iff_getElem.mpr ⟨inside, ?_, fun j hj => ?_⟩
    · rw [List.getD_eq_getElem _ _ inside] at bad
      simpa using bad
    · have := before j hj
      rw [List.getD_eq_getElem _ _ (hj.trans inside)] at this
      simpa using this
  simp [badCodePosition, found]

theorem badCodePosition_of_all {codes : List Nat} (h : ∀ code ∈ codes, code ≤ 17) :
    badCodePosition codes = none := by
  have absent : (codes.findIdx? fun c => decide (17 < c)) = none := by
    simpa [List.findIdx?_eq_none_iff] using h
  simp [badCodePosition, absent]

section
variable (sound : StoreSound s) (mute : MuteSound s) (loss : s.capture.loss = 0) (hdue : due = true)
  (line : c.line? = some n)
include sound mute loss hdue line

theorem order_refuses (h : g n s = refuse slot code detail s) :
    ∃ t, examination slot due (withLine slot c g) s = .next t ∧ Refuses slot code detail s t :=
  examination_refuses sound mute loss hdue ((withLine_of_line line).trans h)

theorem held_refuses {g : LineNo → State → State} (free : lineHolder s n = none)
    (h : g n s = refuse slot code detail s) :
    ∃ t, examination slot due (withLine slot c fun n => ifLineFree slot n (g n)) s = .next t ∧
      Refuses slot code detail s t :=
  order_refuses sound mute loss hdue line ((ifLineFree_of_free free).trans h)
end

/-- Settles O36: every check of a kind is one branch of its order. -/
theorem kindChecksRefuse : Obligations.KindChecksRefuse := by
  unfold Obligations.KindChecksRefuse
  intro slot n s sound mute
  refine ⟨fun line => ⟨fun ⟨due, loss⟩ => ⟨fun busy => ?_, fun out dropped => ?_,
      fun p out named inForce h0 h1 => ?_⟩, fun out => ⟨fun ⟨due, loss⟩ => ?_, fun ⟨due, loss⟩ => ?_,
      fun ⟨due, loss⟩ => ?_, fun ⟨due, loss⟩ free => ?_⟩, fun ⟨due, loss⟩ inService target => ?_,
      fun ⟨due, loss⟩ free => ⟨fun mode => ?_, fun mode count => ?_, fun mode low high other => ?_⟩,
      fun ⟨due, loss⟩ free => ⟨fun mode => ?_, fun mode count => ?_,
        fun i mode count inside before bad => ?_, fun mode low high codes room full => ?_⟩⟩,
    fun ⟨due, loss⟩ => ⟨fun target => ?_, fun low high h0 h1 => ?_⟩⟩
  -- OPEN
  · exact order_refuses sound mute loss due line (if_pos busy)
  · exact order_refuses sound mute loss due line
      ((if_neg (not_not.mpr out)).trans (by simp [openProfile_not_in_force dropped]))
  · obtain ⟨a, ha⟩ := Option.isSome_iff_exists.mp inForce
    refine order_refuses sound mute loss due line ((if_neg (not_not.mpr out)).trans ?_)
    simp [OrderCopy.openProfile?_of_val named, ha, OrderCopy.polarity?_of_other h0 h1]
  -- a line out of service
  · exact order_refuses sound mute loss due line (if_pos out)
  · exact order_refuses sound mute loss due line (if_pos out)
  · exact order_refuses sound mute loss due line (if_pos out)
  · exact held_refuses sound mute loss due line free (if_pos out)
  -- PEEK
  · refine order_refuses sound mute loss due line ((if_neg inService).trans ?_)
    rw [inHostArea_false (w := (s.orderCopy slot).p0) (extra := 25) (by omega)]
    rfl
  -- RELEASE
  · exact held_refuses sound mute loss due line free (if_pos mode)
  · exact held_refuses sound mute loss due line free
      ((if_neg (not_not.mpr mode)).trans (if_pos (by omega)))
  · exact held_refuses sound mute loss due line free
      ((if_neg (not_not.mpr mode)).trans ((if_neg (by omega)).trans (if_pos other)))
  -- INJECT
  · exact held_refuses sound mute loss due line free (if_pos mode)
  · exact held_refuses sound mute loss due line free
      ((if_neg (not_not.mpr mode)).trans (if_pos (by omega)))
  · refine held_refuses sound mute loss due line free
      ((if_neg (not_not.mpr mode)).trans ((if_neg (by omega)).trans ?_))
    rw [badCodePosition_of_first
      (by rw [OrderCopy.injectCodes_length _ count]; exact inside) before bad]
  · refine held_refuses sound mute loss due line free
      ((if_neg (not_not.mpr mode)).trans ((if_neg (by omega)).trans ?_))
    rw [badCodePosition_of_all codes]
    exact if_pos (by unfold queueRoom; omega)
  -- MARK
  · exact examination_refuses sound mute loss due
      (if_pos (by rw [inHostArea_false (extra := 0) (by omega)]; rfl))
  · have inside : inHostArea (s.orderCopy slot).p0 0 = true := (inHostArea_iff _ _).mpr ⟨low, high⟩
    exact examination_refuses sound mute loss due
      ((if_neg (by simp [inside])).trans (if_pos ⟨h0, h1⟩))

end Sys2Proof.Machine
end

section
/-! The ADOPT order: the derived words, the refusals and the new set. -/

namespace Sys2Proof.Machine

variable {s t u : State} {n : LineNo} {p : ProfileNo} {slot : SlotNo} {code : ResultCode}
  {detail : Nat} {f : State → State}
  {g : Nat}

/-! ### Runs of words -/

theorem State.words_eq {base : Nat} {l : List Word}
    (h : ∀ (i : Nat) (hi : i < l.length), s.peek (base + i) = l[i]) : s.words base l.length = l := by
  refine List.ext_getElem (by simp [State.words]) fun i _ hi => ?_
  simpa [State.words] using h i hi

theorem State.words_congr {base length : Nat} (h : ∀ i < length, t.peek (base + i) = s.peek (base + i)) :
    t.words base length = s.words base length :=
  List.map_congr_left fun i hi => h i (List.mem_range.mp hi)

theorem State.peek_congr (h : t.store = s.store) (a : Nat) : t.peek a = s.peek a := by
  unfold State.peek
  rw [h]

/-- A frame leaves a run of words outside its regions. -/
theorem StoreFrame.words {regions : List (Nat × Nat)} (h : StoreFrame s t regions) {base length : Nat}
    (outside : ∀ r ∈ regions, base + length ≤ r.1 ∨ r.1 + r.2 ≤ base) :
    t.words base length = s.words base length :=
  State.words_congr fun i hi => h _ fun r hr => by have := outside r hr; omega

/-- The end of an event under settled MUTE latches touches the store alone. -/
theorem settle_of_mute (mute : MuteSound u) : ∃ m, settle s u = u.setStore m :=
  ⟨_, by unfold settle; rw [mute.settled]⟩

/-! ### The outcome of an examination -/

/-- The state behind the examination of a slot whose order has the effect `u`: the end of its event has shown the
part, and the sweep has gone on. -/
structure Examined (slot : SlotNo) (s u t : State) : Prop where
  board : t.board = sweptPast slot u.board
  lines : t.lines = (settle s u).lines
  store : t.store = (settle s u).store
  form : t = { u with lines := t.lines, store := t.store, board := t.board }

theorem pageAddress_not_shown (p : Fin 24) (i : Nat) : shownAddress (pageAddress p + i) = false := by
  refine Bool.eq_false_iff.mpr fun shown => ?_
  have := (shownAddress_iff _).mp shown
  unfold pageAddress at *
  omega

theorem Rechecked.settle (s : State) (h : Rechecked u) : Rechecked (Machine.settle s u) := by
  refine h.imp (fun none => by rw [settle_capture]; exact none) fun taken => ?_
  unfold nextPageFree at *
  rw [settle_capture, settle_peek_other _ _ (pageAddress u.capture.nextPage) (pageAddress_not_shown _ 0)]
  exact taken

/-- The examination of an order behind which the sweep's end has no record to place. -/
theorem examination_rechecked (slot : SlotNo) {due : Bool} (hdue : due = true) (effect : f s = u)
    (h : Rechecked u) : ∃ t, examination slot due f s = .next t ∧ Examined slot s u t := by
  subst effect
  refine ⟨_, examination_of_due hdue, ?_⟩
  rw [examined_of_rechecked (h.settle s), settle_board]
  exact ⟨rfl, rfl, rfl, by rw [settle_eq]⟩

/-- The examination of an order that loses no record. -/
theorem examination_examined (slot : SlotNo) {due : Bool} (hdue : due = true) (effect : f s = u)
    (loss : u.capture.loss = 0) : ∃ t, examination slot due f s = .next t ∧ Examined slot s u t :=
  examination_rechecked slot hdue effect (.inl loss)

theorem Examined.keeps (h : Examined slot s u t) :
    t.profiles = u.profiles ∧ t.senders = u.senders ∧ t.waitList = u.waitList ∧
      t.capture = u.capture ∧ t.causes = u.causes := by
  rw [h.form]
  exact ⟨rfl, rfl, rfl, rfl, rfl⟩

theorem Examined.peek (h : Examined slot s u t) (a : Nat) : t.peek a = (settle s u).peek a := by
  unfold State.peek
  rw [h.store]

theorem Examined.peek_other (h : Examined slot s u t) {a : Nat} (hidden : shownAddress a = false) :
    t.peek a = u.peek a :=
  (h.peek a).trans (settle_peek_other _ _ _ hidden)

theorem Examined.swept (h : Examined slot s u t) (board : u.board.sweepAt = s.board.sweepAt ∧
    u.board.sweepHeld = s.board.sweepHeld) : SweptPast slot s t :=
  sweptPast_swept h.board board

theorem Examined.accepted (h : Examined slot s u t) : t.board.accepted = u.board.accepted := by
  rw [h.board, sweptPast_accepted]

theorem Examined.line (h : Examined slot s u t) (n : LineNo) :
    t.line n = { u.line n with mute := u.muteOn n } :=
  (State.line_congr h.lines n).trans (settle_line s u n)

/-- An effect that leaves the MUTE latches right moves no line at the end of its event. -/
theorem Examined.line_of_mute (h : Examined slot s u t) (mute : MuteSound u) (n : LineNo) :
    t.line n = u.line n := by
  rw [h.line, ← mute n]

theorem slotAddress_not_shown (slot : SlotNo) {i : Nat} (hi : i < 8) :
    shownAddress (slotAddress slot + i) = false := by
  refine Bool.eq_false_iff.mpr fun shown => ?_
  have := (shownAddress_iff _).mp shown
  have := slot.isLt
  unfold slotAddress at *
  omega

/-- What an outcome shows stands at the end of the event. -/
theorem Examined.shows {slot' : SlotNo} {w : Word} (h : Examined slot s u t)
    (shows : SlotShows u slot' w code detail) : SlotShows t slot' w code detail :=
  ⟨(h.peek_other (slotAddress_not_shown slot' (i := 0) (by decide))).trans shows.1,
    (h.peek_other (slotAddress_not_shown slot' (i := 7) (by decide))).trans shows.2⟩

/-! ### The derived words -/

/-- The derived words of a profile record as they are shown: the speeds, the generation, the status and the reason. -/
def derivedWords (a : Option AdoptedSet) (reason : Word) (st : ProfileStatus) : List Word :=
  let value (f : AdoptedSet → Nat) : Word := asWord ((a.map f).getD 0)
  [value (·.pNom16), value (·.pLo16), value (·.pHi16), value (·.generation), statusValue st, reason]

theorem writeDerived_words (sound : StoreSound s) (p : ProfileNo) (a : Option AdoptedSet) (reason : Word)
    (st : ProfileStatus) :
    (writeDerived p a reason st s).words (profileAddress p + 24) 6 = derivedWords a reason st := by
  refine State.words_eq (l := derivedWords a reason st) fun i hi => ?_
  have small : i < 6 := hi
  have := p.isLt
  unfold writeDerived
  refine readWord_writeWords_of_mem sound (by unfold profileAddress storeSize; omega) (by simp) ?_
  interval_cases i <;> simp [derivedWords]

theorem writeDerived_frame (p : ProfileNo) (a : Option AdoptedSet) (reason : Word) (st : ProfileStatus)
    (s : State) : StoreFrame s (writeDerived p a reason st s) [(profileAddress p + 24, 6)] := by
  intro x outside
  simp only [List.mem_cons, List.not_mem_nil, or_false, forall_eq] at outside
  refine State.pokes_peek_other fun q hq => ?_
  simp only [List.mem_cons, List.not_mem_nil, or_false] at hq
  obtain rfl | rfl | rfl | rfl | rfl | rfl := hq <;> dsimp only <;> omega

theorem writeDerived_sound (sound : StoreSound s) (p : ProfileNo) (a : Option AdoptedSet)
    (reason : Word) (st : ProfileStatus) : StoreSound (writeDerived p a reason st s) :=
  storeWf_writeWords _ _ sound

theorem writeDerived_answers (p : ProfileNo) (a : Option AdoptedSet) (reason : Word)
    (st : ProfileStatus) (s : State) : Answers s (writeDerived p a reason st s) := rfl

/-- The words of a slot lie below those of every profile. -/
theorem outcome_leaves_profile (slot : SlotNo) (p : ProfileNo) :
    ∀ r ∈ [(slotAddress slot, 1), (slotAddress slot + 7, 1)],
      profileAddress p + 24 + 6 ≤ r.1 ∨ r.1 + r.2 ≤ profileAddress p + 24 := by
  have := slot.isLt
  simp only [List.mem_cons, List.not_mem_nil, or_false, forall_eq_or_imp, forall_eq, slotAddress,
    profileAddress]
  omega

/-! ### The checks -/

theorem rawFields_getElem (s : State) (p : ProfileNo) (i : Nat) (hi : i < (rawFields s p).length) :
    (rawFields s p)[i] = (s.peek (profileAddress p + i)).toNat := by
  simp [rawFields]

theorem rawFields_getD (s : State) (p : ProfileNo) {i : Nat} (hi : i < 23) :
    (rawFields s p).getD i 0 = (s.peek (profileAddress p + i)).toNat := by
  rw [List.getD_eq_getElem _ _ (by rw [rawFields_length]; exact hi), rawFields_getElem]

/-- The field at a word index is in its range. -/
def FieldInRange (s : State) (p : ProfileNo) (i : Nat) : Prop :=
  (fieldRanges.getD i (0, 0)).1 ≤ (s.peek (profileAddress p + i)).toNat ∧
    (s.peek (profileAddress p + i)).toNat ≤ (fieldRanges.getD i (0, 0)).2

theorem field_out_of_range_iff (s : State) (p : ProfileNo) (i : Nat)
    (hi : i < ((rawFields s p).zip fieldRanges).length) :
    (decide (((rawFields s p).zip fieldRanges)[i].1 < ((rawFields s p).zip fieldRanges)[i].2.1) ||
      decide (((rawFields s p).zip fieldRanges)[i].2.2 < ((rawFields s p).zip fieldRanges)[i].1)) = true ↔
      ¬FieldInRange s p i := by
  have within : i < fieldRanges.length := by simp at hi; exact hi.2
  unfold FieldInRange
  rw [List.getElem_zip, rawFields_getElem, List.getD_eq_getElem _ _ within]
  simp only [Bool.or_eq_true, decide_eq_true_eq]
  omega

theorem rawFields_zip_length (s : State) (p : ProfileNo) :
    ((rawFields s p).zip fieldRanges).length = 23 := by
  rw [List.length_zip, rawFields_length]
  rfl

/-- The first field outside its accepted values, in word order (R84). -/
theorem firstOutOfRange_of_first {i : Nat} (hi : i < 23) (before : ∀ j < i, FieldInRange s p j)
    (out : ¬FieldInRange s p i) : firstOutOfRange (rawFields s p) = some i := by
  have inside : i < ((rawFields s p).zip fieldRanges).length := by
    rw [rawFields_zip_length]; exact hi
  exact List.findIdx?_eq_some_iff_getElem.mpr
    ⟨inside, (field_out_of_range_iff s p i inside).mpr out, fun j hj => fun bad =>
      (field_out_of_range_iff s p j (hj.trans inside)).mp bad (before j hj)⟩

theorem firstOutOfRange_of_all (h : ∀ i < 23, FieldInRange s p i) :
    firstOutOfRange (rawFields s p) = none := by
  refine List.findIdx?_eq_none_iff.mpr fun x hx => ?_
  obtain ⟨i, inside, rfl⟩ := List.getElem_of_mem hx
  exact Bool.eq_false_iff.mpr fun bad =>
    (field_out_of_range_iff s p i inside).mp bad (h i (by rw [rawFields_zip_length] at inside; exact inside))

/-! ### A failing ADOPT -/

theorem OrderCopy.profile_examined {c : OrderCopy} (profile : c.profile? = some p)
    (refusal : profileRefusal (rawFields s p) = some (code, detail)) :
    adoptOrder slot c s = refuse slot code detail
      (writeDerived p (s.profile p).adopted (resultWord code detail)
        (if (s.profile p).adopted.isSome then .rejectedKeeping else .rejected) s) := by
  simp [adoptOrder, rejectSet, profile, refusal]

/-- An ADOPT that fails a check shows the refusal in its slot and the set in force in its profile. -/
theorem adopt_fails (sound : StoreSound s) (mute : MuteSound s) (posted : Posted 3 slot s)
    (profile : (s.orderCopy slot).profile? = some p)
    (refusal : profileRefusal (rawFields s p) = some (code, detail)) :
    ∃ t, exec (.adopt slot) s = .next t ∧
      SlotShows t slot slotRefused code detail ∧ SweptPast slot s t ∧ t.causes.order = true ∧
      t.words (profileAddress p + 24) 6 =
        derivedWords (s.profile p).adopted (resultWord code detail)
          (if (s.profile p).adopted.isSome then .rejectedKeeping else .rejected) ∧
      StoreFrame s t
        [(slotAddress slot, 1), (slotAddress slot + 7, 1), (profileAddress p + 24, 6)] ∧
      t = { s with store := t.store, board := t.board, causes := t.causes } := by
  obtain ⟨due, loss⟩ := posted
  have effect := OrderCopy.profile_examined (slot := slot) profile refusal
  have derived := writeDerived_answers p (s.profile p).adopted (resultWord code detail)
    (if (s.profile p).adopted.isSome then .rejectedKeeping else .rejected) s
  have frame := writeDerived_frame p (s.profile p).adopted (resultWord code detail)
    (if (s.profile p).adopted.isSome then .rejectedKeeping else .rejected) s
  have words := writeDerived_words sound p (s.profile p).adopted (resultWord code detail)
    (if (s.profile p).adopted.isSome then .rejectedKeeping else .rejected)
  have written := writeDerived_sound sound p (s.profile p).adopted (resultWord code detail)
    (if (s.profile p).adopted.isSome then .rejectedKeeping else .rejected)
  have board : (writeDerived p (s.profile p).adopted (resultWord code detail)
    (if (s.profile p).adopted.isSome then .rejectedKeeping else .rejected) s).board = s.board := rfl
  generalize writeDerived p _ _ _ s = u at effect derived frame words written board
  have outcome := writeOutcome_frame slot code detail slotRefused u
  have words_refuse := outcome.words (outcome_leaves_profile slot p)
  have answers : Answers s (refuse slot code detail u) := derived.trans (refuse_answers ..)
  have same : settle s (refuse slot code detail u) = _ := settle_of_answers mute answers
  obtain ⟨t, row, examined⟩ := examination_examined slot due effect (by rw [answers]; exact loss)
  have store := examined.store.trans (congrArg State.store same)
  refine ⟨t, row, examined.shows (writeOutcome_shows written slot code detail _),
    examined.swept (by rw [← board]; exact ⟨rfl, rfl⟩), by rw [examined.form]; rfl, ?_, ?_, ?_⟩
  · exact (State.words_congr fun i _ => State.peek_congr store _).trans (words_refuse.trans words)
  · refine fun a outside => (State.peek_congr store a).trans ((frame.trans outcome) a fun r hr => outside r ?_)
    simp only [List.mem_append, List.mem_cons, List.not_mem_nil, or_false] at hr ⊢
    tauto
  · have lines : t.lines = s.lines := by rw [examined.lines, same, answers]
    rw [examined.form, lines, answers]

/-- Settles O26: the first check that fails gives the refusal, and the profile shows the set in force. -/
theorem adoptRefusesAndKeeps : Obligations.AdoptRefusesAndKeeps := by
  unfold Obligations.AdoptRefusesAndKeeps
  intro slot p s sound mute posted profile
  dsimp only
  have tables : ∀ i < 23,
      ([0, 0, 0, 0, 0, 1, 1, 500, 20, 5, 60, 5, 150, 50, 50, 50, 12, 100, 100, 0, 100, 50, 0].getD i 0,
        [1, 2, 2, 1, 1, 15, 24, 20000, 500, 60, 200, 60, 1500, 200, 200, 200, 40, 800, 1500, 60, 10000,
          1000, 2000].getD i 0) = fieldRanges.getD i (0, 0) := by decide
  have inRange : ∀ i < 23, FieldInRange s p i ↔ _ := fun i hi => by
    unfold FieldInRange; rw [← tables i hi]
  have status : statusValue (if (s.profile p).adopted.isSome then .rejectedKeeping else .rejected) =
      if (s.profile p).adopted.isSome then 3 else 2 := by split <;> rfl
  have fails {code : ResultCode} {detail : Nat}
      (refusal : profileRefusal (rawFields s p) = some (code, detail)) :=
    adopt_fails sound mute posted profile refusal
  simp only [derivedWords, status] at fails
  refine ⟨fun i hi before out => fails ?_, fun all => ?_⟩
  · have first : firstOutOfRange (rawFields s p) = some i :=
      firstOutOfRange_of_first hi (fun j hj => (inRange j (hj.trans hi)).mpr (before j hj))
        fun inside => out ((inRange i hi).mp inside)
    simp [profileRefusal, first]
  · have none : firstOutOfRange (rawFields s p) = none :=
      firstOutOfRange_of_all fun i hi => (inRange i hi).mpr (all i hi)
    have relations {r : Nat} (broken : brokenRelation (adoptedSet (rawFields s p) 0) = some r) :
        profileRefusal (rawFields s p) = some (.relation, r) := by
      simp [profileRefusal, none, broken]
    refine ⟨fun one => fails (relations (if_pos one)), fun one two => fails (relations ?_),
      fun one two three => fails (relations ?_)⟩
    · exact (if_neg (not_not.mpr one)).trans (if_pos two)
    · exact (if_neg (not_not.mpr one)).trans ((if_neg (not_not.mpr two)).trans (if_pos three))

/-! ### A passing ADOPT -/

/-- The set that the raw fields of a profile make, each field from its word (R82, R86). -/
theorem adoptedSet_rawFields (s : State) (p : ProfileNo) (g : Nat) :
    let raw (i : Nat) : Nat := (s.peek (profileAddress p + i)).toNat
    adoptedSet (rawFields s p) g =
      { mode := if raw 0 = 0 then .fixed else .tracking
        map := if raw 1 = 0 then .direct else if raw 1 = 1 then .offset else .inverse
        discipline := if raw 2 = 0 then .immediate else if raw 2 = 1 then .gather else .held
        cls := if raw 3 = 0 then .a else .b
        reportSent := decide (raw 4 = 1)
        debounce := raw 5, gatherN := raw 6, gatherWait := raw 7, seizeTime := raw 8
        breakMin := raw 9, breakMax := raw 10, makeMin := raw 11, flashMax := raw 12
        nominal := raw 13, bandLow := raw 14, bandHigh := raw 15
        gapFactor := raw 16, gapMin := raw 17, gapMax := raw 18
        firstDigitWait := raw 19, senderWait := raw 20, flashOut := raw 21
        recallGuard := raw 22
        pNom16 := periodFrom (raw 13), pLo16 := periodFrom (raw 15), pHi16 := periodFrom (raw 14)
        generation := g } := rfl

theorem derivedWords_some (a : AdoptedSet) (reason : Word) (st : ProfileStatus) :
    derivedWords (some a) reason st =
      [asWord a.pNom16, asWord a.pLo16, asWord a.pHi16, asWord a.generation, statusValue st, reason] :=
  rfl

theorem derivedWords_adopted (s : State) (p : ProfileNo) (g : Nat) :
    let raw (i : Nat) : Nat := (s.peek (profileAddress p + i)).toNat
    let speed (v : Nat) : Nat := (160000 + v / 2) / v
    derivedWords (some (adoptedSet (rawFields s p) g)) 0 .adopted =
      [asWord (speed (raw 13)), asWord (speed (raw 15)), asWord (speed (raw 14)), asWord g, 1, 0] := by
  rw [derivedWords_some, adoptedSet_rawFields]
  rfl

theorem MuteSound.setProfile (mute : MuteSound s) (p : ProfileNo) (x : Profile) :
    MuteSound (s.setProfile p x) :=
  mute.of_lines rfl fun _ => rfl

/-- A line in service outside ACTIVE shows the generation of the set in force (R17). -/
theorem image_generation (mode : (s.line n).mode = .idle ∨ (s.line n).mode = .seizing ∨
    (s.line n).mode = .lockout) :
    ShownItem.value s (.image n 1) = asWord (((s.setInForce n).map (·.generation)).getD 0) := by
  simp only [ShownItem.value, State.imageWords, State.shownGeneration]
  obtain h | h | h := mode <;> simp [h]

/-- A new generation is not the one in force before it (R87). -/
theorem nextGeneration_new (sound : GenerationsSound s) (p : ProfileNo) :
    ((s.profile p).adopted.map (·.generation)).getD 0 ≠ nextGeneration (s.profile p).generation ∧
      ((s.profile p).adopted.map (·.generation)).getD 0 ≤ 255 := by
  obtain ⟨small, inForce⟩ := sound p
  have := nextGeneration_bounds small
  cases adopted : (s.profile p).adopted with
  | none => simp; omega
  | some a =>
    obtain ⟨same, low⟩ := inForce a adopted
    simp only [Option.map_some, Option.getD_some, same, nextGeneration]
    split <;> omega

theorem asWord_inj {a b : Nat} (ha : a < 65536) (hb : b < 65536) (h : asWord a = asWord b) : a = b := by
  have := congrArg BitVec.toNat h
  simp only [asWord, BitVec.toNat_ofNat] at this
  omega

/-- The derived words are no words that the end of an event writes. -/
theorem Examined.derived (h : Examined slot s u t) (p : ProfileNo) :
    t.words (profileAddress p + 24) 6 = u.words (profileAddress p + 24) 6 :=
  State.words_congr fun i hi => h.peek_other <| Bool.eq_false_iff.mpr fun shown => by
    have := (shownAddress_iff _).mp shown
    have := p.isLt
    unfold profileAddress at *
    omega

/-- The effect of a passing ADOPT, with its parts. -/
theorem adoptSet_finished (sound : StoreSound s) (mute : MuteSound s) (p : ProfileNo) (a : AdoptedSet)
    (g : Nat) (slot : SlotNo) :
    let x : Profile := { adopted := some a, generation := g }
    let u := finishNow slot .ok g (writeDerived p (some a) 0 .adopted (s.setProfile p x))
    MuteSound u ∧ StoreSound u ∧ SlotShows u slot slotDone .ok g ∧ u.profiles = (s.setProfile p x).profiles ∧
      u.words (profileAddress p + 24) 6 = derivedWords (some a) 0 .adopted ∧
      u = { s with profiles := u.profiles, store := u.store, causes := { s.causes with order := true } } := by
  intro x
  have words := writeDerived_words (s := s.setProfile p x) sound p (some a) 0 .adopted
  have written := writeDerived_sound (s := s.setProfile p x) sound p (some a) 0 .adopted
  have kept : writeDerived p (some a) 0 .adopted (s.setProfile p x) =
    { s with
      profiles := (s.setProfile p x).profiles
      store := (writeDerived p (some a) 0 .adopted (s.setProfile p x)).store } := rfl
  generalize writeDerived p (some a) 0 .adopted (s.setProfile p x) = w at words written kept
  refine ⟨mute.of_lines (by rw [kept]; rfl) (by rw [kept]; exact fun _ => rfl), ?_,
    writeOutcome_shows written slot .ok g slotDone, by rw [kept]; rfl, ?_, by rw [kept]; rfl⟩
  · exact storeWf_writeWords _ _ written
  · exact ((writeOutcome_frame slot .ok g slotDone w).words (outcome_leaves_profile slot p)).trans words

/-- Settles O25: the new set is made field by field, and the end of the event shows its generation. -/
theorem adoptMakesANewSet : Obligations.AdoptMakesANewSet := by
  unfold Obligations.AdoptMakesANewSet
  intro slot p s sound mute generations ⟨due, loss⟩ profile accepted
  dsimp only
  have effect : adoptOrder slot (s.orderCopy slot) s =
      finishNow slot .ok (nextGeneration (s.profile p).generation)
        (writeDerived p
          (some (adoptedSet (rawFields s p) (nextGeneration (s.profile p).generation))) 0 .adopted
          (s.setProfile p
            { adopted := some (adoptedSet (rawFields s p) (nextGeneration (s.profile p).generation))
              generation := nextGeneration (s.profile p).generation })) := by
    simp [adoptOrder, adoptSet, profile, accepted]
  obtain ⟨muteAfter, soundAfter, shows, profiles, words, kept⟩ := adoptSet_finished sound mute p
    (adoptedSet (rawFields s p) (nextGeneration (s.profile p).generation))
    (nextGeneration (s.profile p).generation) slot
  rw [← effect] at muteAfter soundAfter shows profiles words kept
  have noLoss : (adoptOrder slot (s.orderCopy slot) s).capture.loss = 0 := by rw [kept]; exact loss
  obtain ⟨t, row, examined⟩ := examination_examined slot due rfl noLoss
  refine ⟨t, row, ?_⟩
  have generation : nextGeneration (s.profile p).generation =
    if (s.profile p).generation = 255 then 1 else (s.profile p).generation + 1 := rfl
  generalize adoptOrder slot (s.orderCopy slot) s = u at *
  have profileOf (q : ProfileNo) : t.profile q = _ :=
    State.profile_congr (examined.keeps.1.trans profiles) q
  refine ⟨?_, ?_, examined.shows shows, examined.swept (by rw [kept]; exact ⟨rfl, rfl⟩), ?_,
    fun q other => ?_, fun n onProfile mode => ?_, ?_⟩
  · rw [profileOf, State.setProfile_profile_same, adoptedSet_rawFields, generation]
    rfl
  · rw [examined.derived, words, derivedWords_adopted, generation]
  · rw [examined.form, kept]
  · rw [profileOf, State.setProfile_profile_other _ _ _ _ other]
  · have lines : u.lines = s.lines := (congrArg State.lines kept :)
    have mode' : (u.settleMutes.line n).mode = (s.line n).mode := by
      rw [muteAfter.settled, State.line_congr lines]
    have before : (s.setInForce n) = (s.profile p).adopted := by simp [State.setInForce, onProfile]
    have after : u.settleMutes.setInForce n =
        some (adoptedSet (rawFields s p) (nextGeneration (s.profile p).generation)) := by
      rw [muteAfter.settled, State.setInForce, State.line_congr lines, onProfile, Option.bind_some, State.profile_congr profiles, State.setProfile_profile_same]
    obtain ⟨new, small⟩ := nextGeneration_new generations p
    have bound := (nextGeneration_bounds (generations p).1).2
    have now := image_generation (s := u.settleMutes) (n := n) (by rw [mode']; exact mode)
    rw [after] at now
    refine (examined.peek _).trans ((settle_shows (s := s) soundAfter (.image n 1) fun same => ?_).trans now)
    rw [image_generation mode, before, now] at same
    exact absurd (asWord_inj (by omega) (lt_of_le_of_lt bound (by decide)) same) new
  · obtain ⟨m, settled⟩ := settle_of_mute (s := s) muteAfter
    have lines : t.lines = s.lines := by rw [examined.lines, settled, kept]; rfl
    rw [examined.form, lines, kept]

end Sys2Proof.Machine
end

section
/-! Orders that move one line's state alone, and those that write the host area: LEARN, PEEK, MARK and FLUSH. -/

namespace Sys2Proof.Machine

variable {s t u : State} {n m : LineNo} {slot : SlotNo} {code : ResultCode} {detail : Nat}
  {regions : List (Nat × Nat)}

/-! ### Events that leave every MUTE latch right -/

/-- The MUTE latch of a line and what it depends on stand (R32). -/
structure Line.MutesAs (l l' : Line) : Prop where
  mute : l'.mute = l.mute
  mode : l'.mode = l.mode
  sub : l'.decoder.sub = l.decoder.sub
  running : recallRunning l'.queue.execution = recallRunning l.queue.execution

theorem State.muteOn_of_mutesAs (same : (s.line n).MutesAs (u.line n))
    (bound : u.boundSender n = s.boundSender n) : u.muteOn n = s.muteOn n := by
  simp only [State.muteOn, same.mode, same.sub, same.running, bound]

theorem MuteSound.of_line (mute : MuteSound s) (lines : ∀ m, m ≠ n → u.line m = s.line m)
    (bound : ∀ k, (u.sender k).map (·.line) = (s.sender k).map (·.line))
    (same : (s.line n).MutesAs (u.line n)) : MuteSound u := fun m => by
  by_cases hm : m = n
  · subst hm
    rw [State.muteOn_of_mutesAs same (State.boundSender_congr bound m), ← mute m, same.mute]
  · rw [lines m hm, mute m]
    exact (State.muteOn_congr (by rw [lines m hm]; exact ⟨rfl, rfl, rfl⟩)
      (State.boundSender_congr bound m)).symm

theorem settle_lines_of_mute (mute : MuteSound u) : (settle s u).lines = u.lines := by
  obtain ⟨m, settled⟩ := settle_of_mute (s := s) mute
  rw [settled]
  rfl

/-! ### Examinations that move one line -/

theorem Examined.lines_of_mute (h : Examined slot s u t) (mute : MuteSound u) : t.lines = u.lines :=
  h.lines.trans (settle_lines_of_mute mute)

/-- An effect on one line is framed by its own regions and the line's image. -/
theorem Examined.frame (h : Examined slot s u t) (mute : MuteSound s) (beside : Beside n s u)
    (frame : StoreFrame s u regions) : StoreFrame s t ((imageAddress n, 12) :: regions) := by
  intro a outside
  rw [h.peek, beside.settle_peek mute (outside _ List.mem_cons_self)]
  exact frame a fun r hr => outside r (List.mem_cons_of_mem _ hr)

/-- An effect that shows nothing of the part is framed by its own regions. -/
theorem Examined.frame_of_answers (h : Examined slot s u t) (mute : MuteSound s) (answers : Answers s u)
    (frame : StoreFrame s u regions) : StoreFrame s t regions := fun a outside => by
  rw [h.peek, settle_of_answers mute answers]
  exact frame a outside

theorem Examined.lines_of_answers (h : Examined slot s u t) (mute : MuteSound s)
    (answers : Answers s u) : t.lines = s.lines := by
  rw [h.lines, settle_of_answers mute answers, answers]

theorem Examined.peek_of_answers (h : Examined slot s u t) (mute : MuteSound s) (answers : Answers s u)
    (a : Nat) : t.peek a = u.peek a := by
  rw [h.peek, settle_of_answers mute answers]

/-! ### LEARN -/

theorem accept_frame (slot : SlotNo) (kind : HeldKind) (line : Option LineNo) (c : OrderCopy) (s : State) :
    StoreFrame s (accept slot kind line c s) [(slotAddress slot, 1)] := by
  intro a outside
  simp only [List.mem_cons, List.not_mem_nil, or_false, forall_eq] at outside
  exact State.poke_peek_other _ (by omega : a ≠ slotAddress slot)

theorem accept_peek (sound : StoreSound s) (slot : SlotNo) (kind : HeldKind) (line : Option LineNo)
    (c : OrderCopy) : (accept slot kind line c s).peek (slotAddress slot) = slotAccepted :=
  readWord_writeWord_same _ _ _ sound (slotAddress_in_store slot 0 (by decide))

theorem startLearn_beside (slot : SlotNo) (n : LineNo) (s : State) : Beside n s (startLearn slot n s) := by
  unfold startLearn State.modEstimator
  exact .modLine s n _

theorem startLearn_line {e : Estimator} (estimator : (s.line n).estimator = some e) :
    (startLearn slot n s).line n =
      { s.line n with
        estimator := some
          { e with
            learnMark := false
            learn := some
              { slot := slot, timer := { count := 0, limit := learnWindow }, passedOver := 0 } } } := by
  unfold startLearn State.modEstimator
  rw [State.modLine_line_same, estimator]
  rfl

/-- Settles O27: the LEARN touches the line's estimator, and no latch depends on it. -/
theorem learnIsAccepted : Obligations.LearnIsAccepted := by
  unfold Obligations.LearnIsAccepted
  intro slot n e s sound mute ⟨due, loss⟩ line free inService estimator
  have effect : learnOrder slot (s.orderCopy slot) s =
      startLearn slot n (accept slot .learn (some n) (s.orderCopy slot) s) :=
    (withLine_of_line line).trans ((ifLineFree_of_free free).trans (if_neg inService))
  obtain ⟨t, row, examined⟩ := examination_examined slot due effect loss
  have beside : Beside n s (startLearn slot n (accept slot .learn (some n) (s.orderCopy slot) s)) :=
    (accept_answers slot .learn (some n) (s.orderCopy slot) s).beside.trans (startLearn_beside slot n _)
  have lineAfter : (startLearn slot n (accept slot .learn (some n) (s.orderCopy slot) s)).line n =
      { s.line n with
        estimator := some
          { e with
            learnMark := false
            learn := some { slot := slot, timer := { count := 0, limit := 120000 }, passedOver := 0 } } } := by
    exact startLearn_line (s := accept slot .learn (some n) (s.orderCopy slot) s) estimator
  have muteAfter := mute.of_line beside.lines beside.bound
    (by rw [lineAfter]; exact ⟨rfl, rfl, rfl, rfl⟩)
  have frame := examined.frame mute beside (accept_frame slot .learn (some n) (s.orderCopy slot) s)
  refine ⟨t, row, ?_, ?_, ?_, examined.swept ⟨rfl, rfl⟩, fun m hm => ?_, frame.mono ?_, ?_⟩
  · rw [examined.line_of_mute muteAfter, lineAfter]
  · exact (examined.peek_other (slotAddress_not_shown slot (i := 0) (by decide))).trans
      (accept_peek sound slot .learn (some n) (s.orderCopy slot))
  · rw [examined.accepted]; rfl
  · rw [examined.line_of_mute muteAfter, beside.lines m hm]
  · intro r hr
    simp only [List.mem_cons, List.not_mem_nil, or_false] at hr ⊢
    tauto
  · exact examined.form

/-! ### PEEK -/

/-- The entry word of a PEEK, as R183 lays it out. -/
theorem peekWord_eq (inFlight : Bool) (e : Entry) :
    peekWord inFlight e =
      asWord ((match e.kind with
          | .tone code => code % 4096 | .recall => 0x4000 | .pause ms => 0x8000 + ms % 4096)
        + (if e.origin = .ordered then 0x2000 else 0) + (if inFlight then 0x1000 else 0)) := by
  obtain ⟨kind, origin, owner⟩ := e
  unfold peekWord
  refine congrArg asWord ?_
  have origins : originBit origin * 8192 = if origin = .ordered then 0x2000 else 0 := by
    cases origin <;> rfl
  have flights : inFlight.toNat * 4096 = if inFlight then 0x1000 else 0 := by cases inFlight <;> rfl
  rw [origins, flights]
  generalize (if origin = .ordered then 0x2000 else 0) = fromOrder
  generalize (if inFlight then 0x1000 else 0) = flying
  clear origins flights
  cases kind <;> simp only [entryKindValue, entryKindBody] <;> omega

theorem runWrites_frame (base : Nat) (ws : List Word) (s : State) :
    StoreFrame s (s.pokes (runWrites base ws)) [(base, ws.length)] := fun a outside =>
  readWord_runWrites_other s.store base a ws (by simpa using outside)

theorem runWrites_words (sound : StoreSound s) {base : Nat} {ws : List Word}
    (room : base + ws.length ≤ storeSize) : (s.pokes (runWrites base ws)).words base ws.length = ws :=
  State.words_eq fun i hi => readWord_runWrites s.store base ws sound room i hi

theorem peekWords_length (q : QueueUnit) :
    (peekWords q).length = q.flight.isSome.toNat + q.entries.length := by
  unfold peekWords
  cases q.flight <;> simp [Nat.add_comm]

/-- Settles O31: the words of the snapshot are written in one run, and the slot lies apart from them. -/
theorem peekWritesTheSnapshot : Obligations.PeekWritesTheSnapshot := by
  unfold Obligations.PeekWritesTheSnapshot
  intro slot n s sound mute ⟨due, loss⟩ line inService low high few target q word shown
  have words : word = peekWord := by
    funext inFlight e
    exact (peekWord_eq inFlight e).symm
  have shownIs : shown = peekWords q := by
    simp only [shown, words]
    rfl
  clear_value shown
  have length : shown.length ≤ 25 := by
    have := Bool.toNat_le q.flight.isSome
    rw [shownIs, peekWords_length]
    change q.entries.length ≤ 24 at few
    omega
  have inside : inHostArea (s.orderCopy slot).p0 25 = true := (inHostArea_iff _ _).mpr ⟨low, by omega⟩
  have effect : peekOrder slot (s.orderCopy slot) s = finishNow slot .ok shown.length
      (s.pokes (runWrites (s.orderCopy slot).p0.toNat (asWord shown.length :: shown))) :=
    (withLine_of_line line).trans ((if_neg inService).trans ((if_pos inside).trans (by rw [shownIs]; rfl)))
  have written := runWrites_words sound (base := (s.orderCopy slot).p0.toNat)
    (ws := asWord shown.length :: shown) (by simp [storeSize]; omega)
  have soundAfter : StoreSound (s.pokes (runWrites (s.orderCopy slot).p0.toNat (asWord shown.length :: shown))) :=
    storeWf_writeWords _ _ sound
  have frame := runWrites_frame (s.orderCopy slot).p0.toNat (asWord shown.length :: shown) s
  obtain ⟨t, row, examined⟩ := examination_examined slot due effect loss
  have answers : Answers s (finishNow slot .ok shown.length
    (s.pokes (runWrites (s.orderCopy slot).p0.toNat (asWord shown.length :: shown)))) := rfl
  have outcome := writeOutcome_frame slot .ok shown.length slotDone
    (s.pokes (runWrites (s.orderCopy slot).p0.toNat (asWord shown.length :: shown)))
  refine ⟨t, row, ?_, examined.shows (writeOutcome_shows soundAfter ..),
    examined.swept ⟨rfl, rfl⟩, by rw [examined.accepted]; rfl,
    examined.frame_of_answers mute answers (frame.trans outcome), ?_⟩
  · refine (State.words_congr fun i _ => examined.peek_of_answers mute answers _).trans
      ((outcome.words ?_).trans written)
    have := slot.isLt
    simp only [List.mem_cons, List.not_mem_nil, or_false, forall_eq_or_imp, forall_eq, slotAddress]
    omega
  · rw [examined.form, examined.lines_of_answers mute answers]
    rfl

end Sys2Proof.Machine
end

section
/-! MARKs and completions: what a completed MARK writes, and the MARKs that a completion releases. -/

namespace Sys2Proof.Machine

variable {s t u : State} {n m : LineNo} {slot : SlotNo} {code : ResultCode} {detail : Nat}
  {o : HeldOrder} {rest l : List HeldOrder} {c : OrderCopy}

/-! ### A completed MARK -/

theorem markDone_sound (sound : StoreSound s) (slot : SlotNo) (c : OrderCopy) (ahead : Nat) :
    StoreSound (markDone slot c ahead s) := by
  unfold markDone
  dsimp only
  split <;> exact storeWf_writeWords _ _ (storeWf_writeWord _ _ _ sound)

theorem markDone_store (slot : SlotNo) (c : OrderCopy) (ahead : Nat) (s : State) :
    (markDone slot c ahead s).store = (finishNow slot .ok ahead (s.poke c.p0.toNat c.p1)).store := by
  unfold markDone
  dsimp only
  split <;> rfl

theorem markDone_shows (sound : StoreSound s) (slot : SlotNo) (c : OrderCopy) (ahead : Nat) :
    SlotShows (markDone slot c ahead s) slot slotDone .ok ahead := by
  have shows := writeOutcome_shows (s := s.poke c.p0.toNat c.p1) (storeWf_writeWord _ _ _ sound) slot .ok
    ahead slotDone
  unfold SlotShows State.peek at *
  rwa [markDone_store]

theorem markDone_peek_other {a ahead : Nat} (target : a ≠ c.p0.toNat) (h0 : a ≠ slotAddress slot)
    (h7 : a ≠ slotAddress slot + 7) : (markDone slot c ahead s).peek a = s.peek a := by
  rw [State.peek_congr (markDone_store slot c ahead s)]
  exact (writeOutcome_peek_other h0 h7).trans (State.poke_peek_other _ target)

/-- A target in the host area is no word of a slot. -/
theorem target_apart (inside : inHostArea c.p0 0 = true) (slot : SlotNo) :
    slotAddress slot + 7 < c.p0.toNat ∧ c.p0.toNat < storeSize := by
  have := (inHostArea_iff _ _).mp inside
  have := slot.isLt
  unfold slotAddress storeSize
  omega

theorem markDone_target (sound : StoreSound s) (inside : inHostArea c.p0 0 = true) (slot : SlotNo)
    (ahead : Nat) : (markDone slot c ahead s).peek c.p0.toNat = c.p1 := by
  obtain ⟨above, inStore⟩ := target_apart inside slot
  rw [State.peek_congr (markDone_store slot c ahead s)]
  exact (writeOutcome_peek_other (by omega) (by omega)).trans
    (readWord_writeWord_same _ _ _ sound inStore)

theorem markDone_causes (slot : SlotNo) (c : OrderCopy) (ahead : Nat) (s : State) :
    (markDone slot c ahead s).causes =
      { s.causes with order := true, mark := s.causes.mark || c.p2 == 1 } := by
  unfold markDone
  dsimp only
  split
  next flag => simp [flag, State.raiseMark, finishNow, writeOutcome, State.raiseOrder]
  next flag =>
    have unflagged : (c.p2 == 1) = false := beq_false_of_ne flag
    rw [unflagged, Bool.or_false]
    rfl

theorem markDone_board (slot : SlotNo) (c : OrderCopy) (ahead : Nat) (s : State) :
    (markDone slot c ahead s).board = s.board := by
  unfold markDone
  dsimp only
  split <;> rfl

theorem markDone_frame (slot : SlotNo) (c : OrderCopy) (ahead : Nat) (s : State) :
    StoreFrame s (markDone slot c ahead s)
      [(c.p0.toNat, 1), (slotAddress slot, 1), (slotAddress slot + 7, 1)] := by
  intro a outside
  simp only [List.mem_cons, List.not_mem_nil, or_false, forall_eq_or_imp, forall_eq] at outside
  exact markDone_peek_other (by omega) (by omega) (by omega)

/-- Settles O32: a MARK with no order ahead is written as it completes, any other waits in the list. -/
theorem markWritesOrWaits : Obligations.MarkWritesOrWaits := by
  unfold Obligations.MarkWritesOrWaits
  intro slot s sound mute ⟨due, loss⟩ low high flag
  have inside : inHostArea (s.orderCopy slot).p0 0 = true := (inHostArea_iff _ _).mpr ⟨low, high⟩
  have passes : ¬((s.orderCopy slot).p2 ≠ 0 ∧ (s.orderCopy slot).p2 ≠ 1) := by tauto
  have effect : markOrder slot (s.orderCopy slot) s =
      if s.board.accepted.length = 0 then markDone slot (s.orderCopy slot) 0 s
      else accept slot .mark none (s.orderCopy slot) s :=
    (if_neg (by simp [inside])).trans (if_neg passes)
  by_cases alone : s.board.accepted = []
  · rw [if_pos (by rw [alone]; rfl)] at effect
    have answers := markDone_answers slot (s.orderCopy slot) 0 s
    have board := markDone_board slot (s.orderCopy slot) 0 s
    obtain ⟨t, row, examined⟩ := examination_examined slot due effect (by rw [answers]; exact loss)
    refine ⟨t, row, examined.swept (by rw [board]; exact ⟨rfl, rfl⟩), ?_, fun _ => ⟨?_, ?_, ?_, ?_, ?_⟩,
      fun waits => absurd alone waits⟩
    · rw [examined.form, examined.lines_of_answers mute answers, answers]
    · rw [examined.peek_of_answers mute answers, markDone_target sound inside]
    · exact examined.shows (markDone_shows sound ..)
    · rw [examined.accepted, board, alone]
    · rw [examined.keeps.2.2.2.2, markDone_causes]
    · exact examined.frame_of_answers mute answers (markDone_frame slot (s.orderCopy slot) 0 s)
  · rw [if_neg (by simpa using alone)] at effect
    have answers := accept_answers slot .mark none (s.orderCopy slot) s
    obtain ⟨t, row, examined⟩ := examination_examined slot due effect loss
    refine ⟨t, row, examined.swept ⟨rfl, rfl⟩, ?_, fun none => absurd none alone, fun _ => ⟨?_, ?_, ?_, ?_⟩⟩
    · rw [examined.form, examined.lines_of_answers mute answers]
      rfl
    · rw [examined.peek_of_answers mute answers, accept_peek sound]
    · exact examined.keeps.2.2.2.2
    · rw [examined.accepted]
      rfl
    · exact examined.frame_of_answers mute answers (accept_frame slot .mark none (s.orderCopy slot) s)

/-! ### The MARKs at the head of the list -/

/-- The order is a MARK. -/
abbrev HeldOrder.isMark (o : HeldOrder) : Bool := decide (o.kind = .mark)

theorem completeMarks_cons_mark (h : o.kind = .mark) :
    completeMarks (o :: rest) s = completeMarks rest (markDone o.slot o.copy o.ahead s) := by
  rw [completeMarks, h]

theorem completeMarks_cons_other (h : o.kind ≠ .mark) :
    completeMarks (o :: rest) s = s.setAccepted (o :: rest) := by
  rw [completeMarks]
  split
  next mark => exact absurd mark h
  all_goals rfl

/-- The MARKs at the head complete one after another, and the rest of the list is left. -/
theorem completeMarks_eq (l : List HeldOrder) (s : State) :
    completeMarks l s =
      ((l.takeWhile HeldOrder.isMark).foldl (fun s o => markDone o.slot o.copy o.ahead s) s).setAccepted
        (l.dropWhile HeldOrder.isMark) := by
  induction l generalizing s with
  | nil => rfl
  | cons o rest ih =>
    by_cases mark : o.kind = .mark
    · rw [completeMarks_cons_mark mark, ih, List.takeWhile_cons_of_pos (by simpa using mark),
        List.dropWhile_cons_of_pos (by simpa using mark), List.foldl_cons]
    · rw [completeMarks_cons_other mark, List.takeWhile_cons_of_neg (by simpa using mark),
        List.dropWhile_cons_of_neg (by simpa using mark), List.foldl_nil]

/-- The completed MARKs of a list, in order. -/
def marksDone (l : List HeldOrder) (s : State) : State :=
  l.foldl (fun s o => markDone o.slot o.copy o.ahead s) s

theorem marksDone_cons (o : HeldOrder) (l : List HeldOrder) (s : State) :
    marksDone (o :: l) s = marksDone l (markDone o.slot o.copy o.ahead s) := rfl

theorem marksDone_peek_other {a : Nat} (h : ∀ o ∈ l,
    a ≠ o.copy.p0.toNat ∧ a ≠ slotAddress o.slot ∧ a ≠ slotAddress o.slot + 7) :
    (marksDone l s).peek a = s.peek a := by
  induction l generalizing s with
  | nil => rfl
  | cons o l ih =>
    obtain ⟨target, h0, h7⟩ := h o List.mem_cons_self
    rw [marksDone_cons, ih fun x hx => h x (List.mem_cons_of_mem _ hx),
      markDone_peek_other target h0 h7]

theorem marksDone_causes (l : List HeldOrder) (s : State) :
    (s.causes.order = true → (marksDone l s).causes.order = true) ∧
    (s.causes.mark = true → (marksDone l s).causes.mark = true) ∧
    ∀ o ∈ l, o.copy.p2 = 1 → (marksDone l s).causes.mark = true := by
  induction l generalizing s with
  | nil => exact ⟨id, id, fun _ h => nomatch h⟩
  | cons o l ih =>
    obtain ⟨order, mark, flagged⟩ := ih (markDone o.slot o.copy o.ahead s)
    rw [markDone_causes] at order mark
    refine ⟨fun _ => order rfl, fun h => mark (by simp [h]), fun x hx flag => ?_⟩
    obtain rfl | later := List.mem_cons.mp hx
    · exact mark (by simp [flag])
    · exact flagged x later flag

theorem slotAddress_apart {j k : SlotNo} (h : j ≠ k) :
    slotAddress j + 8 ≤ slotAddress k ∨ slotAddress k + 8 ≤ slotAddress j := by
  have : j.val ≠ k.val := Fin.val_ne_of_ne h
  unfold slotAddress
  omega

/-- A slot that no MARK of the list names shows what it showed. -/
theorem marksDone_shows_other {w : Word} (shows : SlotShows s slot w code detail)
    (others : ∀ o ∈ l, o.slot ≠ slot) (targets : ∀ o ∈ l, inHostArea o.copy.p0 0 = true) :
    SlotShows (marksDone l s) slot w code detail := by
  have apart (i : Nat) (hi : i = 0 ∨ i = 7) :
      (marksDone l s).peek (slotAddress slot + i) = s.peek (slotAddress slot + i) := by
    refine marksDone_peek_other fun o ho => ?_
    have := slotAddress_apart (others o ho)
    have := target_apart (targets o ho) slot
    omega
  exact ⟨(apart 0 (.inl rfl)).trans shows.1, (apart 7 (.inr rfl)).trans shows.2⟩

theorem marksDone_shows (sound : StoreSound s) (slots : l.Pairwise fun a b => a.slot ≠ b.slot)
    (targets : ∀ o ∈ l, inHostArea o.copy.p0 0 = true) (ho : o ∈ l) :
    SlotShows (marksDone l s) o.slot slotDone .ok o.ahead := by
  induction l generalizing s with
  | nil => nomatch ho
  | cons x l ih =>
    obtain ⟨apart, later⟩ := List.pairwise_cons.mp slots
    have targets' : ∀ o ∈ l, inHostArea o.copy.p0 0 = true := fun o ho =>
      targets o (List.mem_cons_of_mem _ ho)
    rw [marksDone_cons]
    obtain rfl | tail := List.mem_cons.mp ho
    · exact marksDone_shows_other (markDone_shows sound ..) (fun y hy => (apart y hy).symm) targets'
    · exact ih (markDone_sound sound ..) later targets' tail

theorem marksDone_target (sound : StoreSound s)
    (distinct : l.Pairwise fun a b => a.copy.p0 ≠ b.copy.p0)
    (targets : ∀ o ∈ l, inHostArea o.copy.p0 0 = true) (ho : o ∈ l) :
    (marksDone l s).peek o.copy.p0.toNat = o.copy.p1 := by
  induction l generalizing s with
  | nil => nomatch ho
  | cons x l ih =>
    obtain ⟨apart, later⟩ := List.pairwise_cons.mp distinct
    have targets' : ∀ o ∈ l, inHostArea o.copy.p0 0 = true := fun o ho =>
      targets o (List.mem_cons_of_mem _ ho)
    rw [marksDone_cons]
    obtain rfl | tail := List.mem_cons.mp ho
    · rw [marksDone_peek_other fun y hy => ?_, markDone_target sound (targets o ho)]
      have := target_apart (targets o ho) y.slot
      exact ⟨fun same => apart y hy (BitVec.eq_of_toNat_eq same), by omega, by omega⟩
    · exact ih (markDone_sound sound ..) later targets' tail

/-! ### Completions -/

/-- The MARKs that the completion of a slot's order releases (R163). -/
def releasedMarks (slot : SlotNo) (s : State) : List HeldOrder :=
  (s.board.accepted.filter fun o => o.slot != slot).takeWhile HeldOrder.isMark

theorem completeOrder_eq (slot : SlotNo) (code : ResultCode) (detail : Nat) (s : State) :
    completeOrder slot code detail s =
      (marksDone (releasedMarks slot s) (finishNow slot code detail s)).setAccepted
        ((s.board.accepted.filter fun o => o.slot != slot).dropWhile HeldOrder.isMark) :=
  completeMarks_eq _ _

theorem mem_releasedMarks (h : o ∈ releasedMarks slot s) :
    o ∈ s.board.accepted ∧ o.slot ≠ slot ∧ o.kind = .mark := by
  have kind := List.mem_takeWhile_imp h
  obtain ⟨held, other⟩ := List.mem_filter.mp ((List.takeWhile_prefix _).subset h)
  exact ⟨held, by simpa using other, by simpa using kind⟩

theorem releasedMarks_targets (targets : MarkTargetsSound s) (slot : SlotNo) :
    ∀ o ∈ releasedMarks slot s, inHostArea o.copy.p0 0 = true := fun o ho =>
  targets o (mem_releasedMarks ho).1 (mem_releasedMarks ho).2.2

/-- A completed order shows its outcome, whatever MARKs it releases. -/
theorem completeOrder_shows (sound : StoreSound s) (targets : MarkTargetsSound s) (slot : SlotNo)
    (code : ResultCode) (detail : Nat) :
    SlotShows (completeOrder slot code detail s) slot slotDone code detail := by
  rw [completeOrder_eq]
  exact marksDone_shows_other (writeOutcome_shows sound slot code detail slotDone)
    (fun o ho => (mem_releasedMarks ho).2.1) (releasedMarks_targets targets slot)

theorem completeOrder_order (slot : SlotNo) (code : ResultCode) (detail : Nat) (s : State) :
    (completeOrder slot code detail s).causes.order = true := by
  rw [completeOrder_eq]
  exact (marksDone_causes _ _).1 rfl

theorem completeOrder_slotHeld (slot : SlotNo) (code : ResultCode) (detail : Nat) (s : State) :
    (completeOrder slot code detail s).slotHeld slot = false := by
  refine Bool.eq_false_iff.mpr fun held => ?_
  obtain ⟨o, ho, same⟩ := List.any_eq_true.mp held
  exact (completeOrder_accepted slot code detail s o ho).2 (by simpa using same)

/-- Settles O33: the released MARKs are those at the head of what is left, and each writes words of its own. -/
theorem completionReleasesMarks : Obligations.CompletionReleasesMarks := by
  unfold Obligations.CompletionReleasesMarks
  intro slot code detail s sound slots targets left t
  have finished : StoreSound (finishNow slot code detail s) := storeWf_writeWords _ _ sound
  have eq : t = (marksDone (releasedMarks slot s) (finishNow slot code detail s)).setAccepted _ :=
    completeOrder_eq slot code detail s
  have apart : (releasedMarks slot s).Pairwise fun a b => a.slot ≠ b.slot :=
    slots.sublist ((List.takeWhile_sublist _).trans List.filter_sublist)
  have inside := releasedMarks_targets targets slot
  refine ⟨by rw [eq]; rfl, completeOrder_shows sound targets slot code detail,
    completeOrder_order slot code detail s, fun o ho => ⟨?_, fun flag => ?_⟩, fun distinct o ho => ?_⟩
  · rw [eq]
    exact marksDone_shows finished apart inside ho
  · rw [eq]
    exact (marksDone_causes _ _).2.2 o ho flag
  · rw [eq]
    exact marksDone_target finished distinct inside ho

end Sys2Proof.Machine
end

section
/-! Sending depends on little of the part: two states whose queue units, senders and requests agree send alike, whatever
else a line tick or an order has done to them. -/

namespace Sys2Proof.Machine

variable {s t u v : State} {n m : LineNo} {k : SenderNo} {slot : SlotNo} {l l' : Line} {e : Entry}

/-! ### What sending depends on -/

/-- The items of a line that its sending depends on agree. -/
structure Line.SendsAs (l l' : Line) : Prop where
  mode : l'.mode = l.mode
  call : l'.call = l.call
  queue : l'.queue = l.queue
  hold : l'.hold = l.hold

theorem Line.SendsAs.refl (l : Line) : l.SendsAs l := ⟨rfl, rfl, rfl, rfl⟩

theorem Line.SendsAs.trans {l'' : Line} (h : l.SendsAs l') (h' : l'.SendsAs l'') : l.SendsAs l'' :=
  ⟨h'.mode.trans h.mode, h'.call.trans h.call, h'.queue.trans h.queue, h'.hold.trans h.hold⟩

theorem Line.SendsAs.symm (h : l.SendsAs l') : l'.SendsAs l :=
  ⟨h.mode.symm, h.call.symm, h.queue.symm, h.hold.symm⟩

theorem Line.SendsAs.discipline (h : l.SendsAs l') : l'.discipline = l.discipline := by
  unfold Line.discipline
  rw [h.call]

theorem Line.SendsAs.sendable (h : l.SendsAs l') (e : Entry) : l'.sendable e = l.sendable e := by
  unfold Line.sendable
  rw [h.discipline, h.queue]

theorem Line.SendsAs.newRequest (h : l.SendsAs l') (n : LineNo) :
    Machine.newRequest n l' = Machine.newRequest n l := by
  unfold Machine.newRequest
  rw [h.call]

theorem Line.SendsAs.modQueue (h : l.SendsAs l') (f : QueueUnit → QueueUnit) :
    Line.SendsAs { l with queue := f l.queue } { l' with queue := f l'.queue } :=
  ⟨h.mode, h.call, congrArg f h.queue, h.hold⟩

theorem Line.SendsAs.leaveHead (h : l.SendsAs l') : l.leaveHead.SendsAs l'.leaveHead := by
  have usesCredit (e : Entry) : l'.usesCredit e = l.usesCredit e := by
    unfold Line.usesCredit
    rw [h.discipline]
  have belongs (e : Entry) : l'.belongs e = l.belongs e := by
    unfold Line.belongs
    rw [h.queue]
    simp only [usesCredit]
  unfold Line.leaveHead
  rw [h.queue]
  split
  · exact h
  next e rest entries =>
    exact ⟨h.mode, h.call, by simp only [usesCredit, belongs], h.hold⟩

theorem Line.leaveHead_entries (l : Line) : ∀ e ∈ l.leaveHead.queue.entries, e ∈ l.queue.entries := by
  unfold Line.leaveHead
  split
  · exact fun e he => he
  next head rest entries => exact fun e he => by rw [entries]; exact List.mem_cons_of_mem _ he

/-- Two states that send alike: their lines, senders and requests agree as far as sending goes, and the TONEs queued
are played alike. -/
structure SendsAlike (s t : State) : Prop where
  line : ∀ m, (s.line m).SendsAs (t.line m)
  senders : t.senders = s.senders
  waitList : t.waitList = s.waitList
  sendHold : t.sendHold = s.sendHold
  clock : t.clock = s.clock
  tones : ∀ m, ∀ e ∈ (s.line m).queue.entries, ∀ code, e.kind = .tone code →
    readTone t.store code = readTone s.store code

theorem SendsAlike.queuesAs (h : SendsAlike s t) : QueuesAs s t :=
  ⟨fun m => ⟨(h.line m).queue, (h.line m).hold⟩, h.senders, h.waitList⟩

/-- Two states with one store send alike if their lines, senders and requests do. -/
theorem SendsAlike.of_store (line : ∀ m, (s.line m).SendsAs (t.line m)) (senders : t.senders = s.senders)
    (waitList : t.waitList = s.waitList) (sendHold : t.sendHold = s.sendHold) (clock : t.clock = s.clock)
    (store : t.store = s.store) : SendsAlike s t :=
  ⟨line, senders, waitList, sendHold, clock, fun _ _ _ _ _ => by rw [store]⟩

theorem readTone_congr {m m' : List (Nat × Word)} {code : Nat}
    (h : ∀ i < 6, readWord m' (toneAddress code + i) = readWord m (toneAddress code + i)) :
    readTone m' code = readTone m code := by
  simp only [readTone, h 0 (by decide), h 1 (by decide), h 2 (by decide), h 3 (by decide),
    h 4 (by decide), h 5 (by decide)]

theorem SendsAlike.trans (h : SendsAlike s t) (h' : SendsAlike t u) : SendsAlike s u :=
  ⟨fun m => (h.line m).trans (h'.line m), h'.senders.trans h.senders, h'.waitList.trans h.waitList,
    h'.sendHold.trans h.sendHold, h'.clock.trans h.clock, fun m e he code kind =>
      (h'.tones m e (by rw [(h.line m).queue]; exact he) code kind).trans (h.tones m e he code kind)⟩

/-! ### Each step of sending -/

theorem SendsAlike.setLine (h : SendsAlike s t) (same : l.SendsAs l')
    (fewer : ∀ e ∈ l.queue.entries, e ∈ (s.line n).queue.entries) :
    SendsAlike (s.setLine n l) (t.setLine n l') := by
  refine ⟨fun m => ?_, h.senders, h.waitList, h.sendHold, h.clock, fun m e he => ?_⟩
  · rw [State.setLine_line, State.setLine_line]
    split
    · exact same
    · exact h.line m
  · rw [State.setLine_line] at he
    split at he
    · exact h.tones n e (fewer e he)
    · exact h.tones m e he

theorem SendsAlike.modQueue (h : SendsAlike s t) (f : QueueUnit → QueueUnit)
    (fewer : ∀ e ∈ (f (s.line n).queue).entries, e ∈ (s.line n).queue.entries) :
    SendsAlike (s.modQueue n f) (t.modQueue n f) :=
  h.setLine ((h.line n).modQueue f) fewer

theorem SendsAlike.leaveHead (h : SendsAlike s t) (n : LineNo) :
    SendsAlike (s.modLine n Line.leaveHead) (t.modLine n Line.leaveHead) :=
  h.setLine (h.line n).leaveHead (Line.leaveHead_entries _)

theorem SendsAlike.setWaitList (h : SendsAlike s t) (w : List Request) :
    SendsAlike (s.setWaitList w) (t.setWaitList w) :=
  ⟨h.line, h.senders, rfl, h.sendHold, h.clock, h.tones⟩

theorem SendsAlike.setSender (h : SendsAlike s t) (k : SenderNo) (b : Option Binding) :
    SendsAlike (s.setSender k b) (t.setSender k b) :=
  ⟨h.line, by rw [State.setSender_senders, State.setSender_senders, h.senders], h.waitList, h.sendHold,
    h.clock, h.tones⟩

theorem SendsAlike.bindSender (h : SendsAlike s t) (k : SenderNo) (n : LineNo) :
    SendsAlike (bindSender k n s) (bindSender k n t) := by
  unfold Machine.bindSender
  rw [(h.line n).queue]
  split
  next code origin owner rest entries =>
    rw [h.tones n _ (by rw [entries]; exact List.mem_cons_self) code rfl]
    exact (h.leaveHead n).setSender k _
  · exact h

theorem SendsAlike.freeSender (h : SendsAlike s t) : t.freeSender = s.freeSender := by
  simp only [State.freeSender, State.sender, h.senders]

theorem SendsAlike.grantOnce (h : SendsAlike s t) : SendsAlike (grantOnce s) (grantOnce t) := by
  unfold Machine.grantOnce
  rw [h.sendHold, h.freeSender, h.waitList]
  split
  · exact h
  · split
    · exact (h.setWaitList _).bindSender _ _
    · exact h

theorem SendsAlike.grantAll (h : SendsAlike s t) : SendsAlike (grantAll s) (grantAll t) := by
  unfold Machine.grantAll
  generalize List.range 12 = l
  induction l generalizing s t with
  | nil => exact h
  | cons _ rest ih => exact ih h.grantOnce

theorem SendsAlike.withdrawRequest (h : SendsAlike s t) (n : LineNo) :
    SendsAlike (withdrawRequest n s) (withdrawRequest n t) := by
  unfold Machine.withdrawRequest
  rw [(h.line n).queue, h.waitList]
  split
  · exact (h.setWaitList _).modQueue _ fun e he => he
  · exact h

theorem SendsAlike.postRequest (h : SendsAlike s t) (n : LineNo) :
    SendsAlike (postRequest n s) (postRequest n t) := by
  unfold Machine.postRequest
  rw [(h.line n).newRequest, h.waitList]
  exact ((h.setWaitList _).modQueue _ fun e he => he).grantOnce

theorem SendsAlike.startRecall (h : SendsAlike s t) (n : LineNo) :
    SendsAlike (startRecall n s) (startRecall n t) := by
  unfold Machine.startRecall
  have left := h.leaveHead n
  rw [h.clock]
  exact left.setLine ⟨(left.line n).mode, (left.line n).call,
    congrArg (fun q : QueueUnit => { q with execution := .recallBreak s.clock }) (left.line n).queue, rfl⟩
    fun e he => he

theorem SendsAlike.startPause (h : SendsAlike s t) (n : LineNo) :
    SendsAlike (startPause n s) (startPause n t) := by
  unfold Machine.startPause
  rw [h.clock]
  exact (h.leaveHead n).modQueue _ fun e he => he

/-- The head examination does the same in two states that send alike (R105). -/
theorem SendsAlike.examineHead (h : SendsAlike s t) (n : LineNo) :
    SendsAlike (examineHead n s) (examineHead n t) := by
  unfold Machine.examineHead
  dsimp only
  rw [(h.line n).mode, (h.line n).queue]
  split
  · exact h
  split
  · exact h.withdrawRequest n
  next e rest entries =>
    rw [(h.line n).sendable e, h.sendHold]
    cases e.kind with
    | tone code =>
      dsimp only
      split
      · split
        · exact h
        · exact h.postRequest n
      · exact h.withdrawRequest n
    | pause ms =>
      dsimp only
      split
      · exact (h.withdrawRequest n).startPause n
      · exact h.withdrawRequest n
    | _ =>
      dsimp only
      split
      · exact (h.withdrawRequest n).startRecall n
      · exact h.withdrawRequest n

theorem SendsAlike.examineAll (h : SendsAlike s t) : SendsAlike (examineAll s) (examineAll t) := by
  unfold Machine.examineAll
  generalize List.finRange 96 = l
  induction l generalizing s t with
  | nil => exact h
  | cons n rest ih => exact ih (h.examineHead n)

/-! ### From the queue units to the lines -/

theorem SendOnly.eq (h : SendOnly l l') : l' = { l with queue := l'.queue, hold := l'.hold } := h

/-- Two head examinations that send alike, on the same lines, leave the same lines. -/
theorem SendsAlike.lines_eq {s' t' : State} (lines : t.lines = s.lines) (h : SendsAlike s' t')
    (first : ∀ m, SendOnly (s.line m) (s'.line m)) (second : ∀ m, SendOnly (t.line m) (t'.line m)) :
    ∀ m, t'.line m = s'.line m := fun m => by
  rw [(second m).eq, (first m).eq, (h.line m).queue, (h.line m).hold, State.line_congr lines m]

theorem examineHead_of_flight (h : (s.line n).queue.flight.isSome = true) : examineHead n s = s :=
  if_pos (.inr h)

theorem examineHead_of_inactive (h : (s.line n).mode ≠ .active) : examineHead n s = s :=
  if_pos (.inl h)

end Sys2Proof.Machine
end

section
/-! Orders on the queue unit: RELEASE and INJECT, which join the acceptance list and let the line send. -/

namespace Sys2Proof.Machine

variable {s t u v : State} {n m : LineNo} {slot : SlotNo} {code : ResultCode} {detail : Nat} {l : Line}
  {c : OrderCopy}

/-! ### Examinations that let a line send -/

theorem Examined.muteOn (h : Examined slot s u t) (m : LineNo) : t.muteOn m = u.muteOn m :=
  State.muteOn_congr (by rw [h.line]; exact ⟨rfl, rfl, rfl⟩)
    (State.boundSender_congr (fun k => by rw [State.sender_congr h.keeps.2.1]) m)

theorem Examined.settlesAs (h : Examined slot s u t) (lines : ∀ m, u.line m = v.line m)
    (senders : u.senders = v.senders) (waitList : u.waitList = v.waitList) : SettlesAs v t :=
  ⟨fun m => by rw [h.muteOn, h.line, lines], h.keeps.2.1.trans senders, h.keeps.2.2.1.trans waitList⟩

/-- An effect whose own writes lie in the slot: whatever it lets send, the end of the event writes shown words alone. -/
theorem Examined.sending_frame (h : Examined slot s u t)
    (frame : StoreFrame s u [(slotAddress slot, 1), (slotAddress slot + 7, 1)]) :
    StoreFrame s t (sendingRegions slot) := by
  intro a outside
  simp only [sendingRegions, List.mem_cons, List.not_mem_nil, or_false, forall_eq_or_imp,
    forall_eq] at outside
  obtain ⟨h0, h7, status, images⟩ := outside
  have hidden : shownAddress a = false := by
    refine Bool.eq_false_iff.mpr fun shown => ?_
    have := (shownAddress_iff _).mp shown
    omega
  rw [h.peek_other hidden]
  refine frame a fun r hr => ?_
  simp only [List.mem_cons, List.not_mem_nil, or_false] at hr
  obtain rfl | rfl := hr <;> omega

/-- No word of the tone plan is a word of a slot. -/
theorem toneAddress_apart (code i : Nat) (slot : SlotNo) : slotAddress slot + 7 < toneAddress code + i := by
  have := slot.isLt
  unfold slotAddress toneAddress
  omega

theorem accept_readTone (slot : SlotNo) (kind : HeldKind) (line : Option LineNo) (c : OrderCopy)
    (s : State) (code : Nat) : readTone (accept slot kind line c s).store code = readTone s.store code :=
  readTone_congr fun i _ => accept_frame slot kind line c s _ fun r hr => by
    have := toneAddress_apart code i slot
    obtain rfl : r = (slotAddress slot, 1) := by simpa using hr
    dsimp only
    omega

/-- An order accepted on a line sends as the line itself would. -/
theorem accept_sendsAlike (slot : SlotNo) (kind : HeldKind) (c : OrderCopy) (s : State) (n : LineNo)
    (l : Line) : SendsAlike (s.setLine n l) ((accept slot kind (some n) c s).setLine n l) :=
  ⟨fun _ => .refl _, rfl, rfl, rfl, rfl, fun _ _ _ code _ => accept_readTone slot kind (some n) c s code⟩

/-- What an accepted order that changes its line leaves, before its head is examined. -/
theorem accept_setLine_beside (slot : SlotNo) (kind : HeldKind) (c : OrderCopy) (s : State) (n : LineNo)
    (l : Line) : Beside n s ((accept slot kind (some n) c s).setLine n l) :=
  (accept_answers slot kind (some n) c s).beside.trans (.setLine _ n l)

theorem accept_setLine_form (slot : SlotNo) (kind : HeldKind) (c : OrderCopy) (s : State) (n : LineNo)
    (l : Line) :
    let u := (accept slot kind (some n) c s).setLine n l
    u = { s with lines := u.lines, store := u.store, board := u.board } := rfl

theorem accept_setLine_frame (slot : SlotNo) (kind : HeldKind) (c : OrderCopy) (s : State) (n : LineNo)
    (l : Line) :
    StoreFrame s ((accept slot kind (some n) c s).setLine n l) [(slotAddress slot, 1)] :=
  accept_frame slot kind (some n) c s

theorem accept_setLine_board (slot : SlotNo) (kind : HeldKind) (c : OrderCopy) (s : State) (n : LineNo)
    (l : Line) :
    ((accept slot kind (some n) c s).setLine n l).board =
      { s.board with
        accepted := s.board.accepted ++
          [{ slot := slot, kind := kind, line := some n, copy := c, ahead := s.board.accepted.length }] } :=
  rfl

/-- An order that is accepted, changes its line, and has the line's head examined. -/
theorem accepted_examines {due : Bool} {f : State → State} {kind : HeldKind} (sound : StoreSound s)
    (mute : MuteSound s) (hdue : due = true) (loss : s.capture.loss = 0)
    (effect : f s = examineHead n ((accept slot kind (some n) c s).setLine n l))
    (same : (s.line n).MutesAs l) :
    ∃ t, examination slot due f s = .next t ∧ SweptPast slot s t ∧
      SettlesAs (examineHead n (s.setLine n l)) t ∧
      (l.queue.flight.isSome = true →
        t.line n = l ∧ (∀ m : LineNo, m ≠ n → t.line m = s.line m) ∧
        t.senders = s.senders ∧ t.waitList = s.waitList ∧
        StoreFrame s t [(slotAddress slot, 1), (imageAddress n, 12)]) ∧
      t.peek (slotAddress slot) = slotAccepted ∧
      t.peek (slotAddress slot + 7) = s.peek (slotAddress slot + 7) ∧
      t.board.accepted =
        s.board.accepted ++
          [{ slot := slot, kind := kind, line := some n, copy := c, ahead := s.board.accepted.length }] ∧
      StoreFrame s t (sendingRegions slot) ∧
      t = { s with
        lines := t.lines, senders := t.senders, waitList := t.waitList, store := t.store
        board := t.board } := by
  have alike := accept_sendsAlike slot kind c s n l
  have beside := accept_setLine_beside slot kind c s n l
  have form := accept_setLine_form slot kind c s n l
  have accepted := accept_setLine_frame slot kind c s n l
  have board := accept_setLine_board slot kind c s n l
  have shows : ((accept slot kind (some n) c s).setLine n l).peek (slotAddress slot) = slotAccepted :=
    accept_peek sound slot kind (some n) c
  have lineAfter := State.setLine_line_same n l (s := accept slot kind (some n) c s)
  have linesAs : ((accept slot kind (some n) c s).setLine n l).lines = (s.setLine n l).lines := rfl
  generalize (accept slot kind (some n) c s).setLine n l = w at *
  have examinedAlike := alike.examineHead n
  have lines := examinedAlike.lines_eq linesAs (examineHead_sendOnly n (s.setLine n l))
    (examineHead_sendOnly n w)
  have sends := examineHead_sends n w
  have keeps := sends.keeps
  have flying := examineHead_of_flight (n := n) (s := w)
  generalize examineHead n (s.setLine n l) = v at *
  generalize examineHead n w = u at *
  obtain ⟨-, -, -, -, profiles, -, boardKept, capture, -, -, store⟩ := keeps
  obtain ⟨t, row, examined⟩ := examination_examined slot hdue effect (by rw [capture, form]; exact loss)
  have frame : StoreFrame s u [(slotAddress slot, 1)] := fun a outside =>
    (State.peek_congr store a).trans (accepted a outside)
  refine ⟨t, row, examined.swept (by rw [boardKept, board]; exact ⟨rfl, rfl⟩),
    examined.settlesAs lines examinedAlike.senders examinedAlike.waitList, fun flight => ?_, ?_, ?_, ?_,
    examined.sending_frame (frame.mono fun r hr => List.mem_cons.mpr (.inl (by simpa using hr))), ?_⟩
  · obtain rfl := flying (by rw [lineAfter]; exact flight)
    have muteAfter := mute.of_line beside.lines beside.bound (by rw [lineAfter]; exact same)
    refine ⟨?_, fun m hm => ?_, examined.keeps.2.1.trans (by rw [form]),
      examined.keeps.2.2.1.trans (by rw [form]), (examined.frame mute beside accepted).mono ?_⟩
    · rw [examined.line_of_mute muteAfter, lineAfter]
    · rw [examined.line_of_mute muteAfter, beside.lines m hm]
    · intro r hr
      simp only [List.mem_cons, List.not_mem_nil, or_false] at hr ⊢
      tauto
  · exact (examined.peek_other (slotAddress_not_shown slot (i := 0) (by decide))).trans
      ((State.peek_congr store _).trans shows)
  · rw [examined.peek_other (slotAddress_not_shown slot (i := 7) (by decide))]
    exact frame _ fun r hr => by
      obtain rfl : r = (slotAddress slot, 1) := by simpa using hr
      exact .inr (by dsimp only; omega)
  · rw [examined.accepted, boardKept, board]
  · rw [examined.form, sends, form]

/-- Settles O28: without credit the RELEASE ends at once; with it the line sends as its own head examination lets it. -/
theorem releaseGivesCredit : Obligations.ReleaseGivesCredit := by
  unfold Obligations.ReleaseGivesCredit
  intro slot n s sound mute ⟨due, loss⟩ line free active low high held credit credited
  have effect : releaseOrder slot (s.orderCopy slot) s =
      if credit = 0 then finishNow slot .ok 0 (s.modQueue n fun q => { q with credit := 0 })
      else examineHead n
        ((accept slot .release (some n) (s.orderCopy slot) s).modQueue n fun q =>
          { q with credit := credit, order := some (.release slot 0 false) }) :=
    (withLine_of_line line).trans ((ifLineFree_of_free free).trans ((if_neg (not_not.mpr active)).trans
      ((if_neg (by omega)).trans (if_neg (not_not.mpr held)))))
  by_cases none : credit = 0
  · rw [if_pos none] at effect
    have beside : Beside n s (finishNow slot .ok 0 (s.modQueue n fun q => { q with credit := 0 })) :=
      (Beside.modLine s n _).trans (finishNow_answers ..).beside
    have lineAfter : (finishNow slot .ok 0 (s.modQueue n fun q => { q with credit := 0 })).line n =
        { s.line n with queue := { (s.line n).queue with credit := 0 } } :=
      ((finishNow_answers slot .ok 0 (s.modQueue n fun q => { q with credit := 0 })).line n).trans
        (State.modQueue_line_same s n _)
    have muteAfter := mute.of_line beside.lines beside.bound
      (by rw [lineAfter]; exact ⟨rfl, rfl, rfl, rfl⟩)
    obtain ⟨t, row, examined⟩ := examination_examined slot due effect loss
    have outcome := writeOutcome_frame slot .ok 0 slotDone (s.modQueue n fun q => { q with credit := 0 })
    refine ⟨t, row, examined.swept ⟨rfl, rfl⟩, fun _ => ⟨?_, fun m hm => ?_, ?_, ?_, ?_, ?_, ?_⟩,
      fun some => absurd none (by omega)⟩
    · rw [examined.line_of_mute muteAfter, lineAfter]
    · rw [examined.line_of_mute muteAfter, beside.lines m hm]
    · exact examined.shows (writeOutcome_shows sound slot .ok 0 slotDone)
    · rw [examined.form]; rfl
    · rw [examined.accepted]; rfl
    · refine (examined.frame mute beside (regions := [(slotAddress slot, 1), (slotAddress slot + 7, 1)])
        outcome).mono fun r hr => ?_
      simp only [outcomeRegions, List.mem_cons, List.not_mem_nil, or_false] at hr ⊢
      tauto
    · rw [examined.form]; rfl
  · rw [if_neg none] at effect
    obtain ⟨t, row, swept, settles, flying, state, result, board, frame, form⟩ :=
      accepted_examines (l := credited) sound mute due loss effect ⟨rfl, rfl, rfl, rfl⟩
    exact ⟨t, row, swept, fun zero => absurd zero none,
      fun _ => ⟨settles, flying, state, result, board, frame, form⟩⟩

/-! ### INJECT -/

/-- The entries an INJECT makes, as R114 gives them. -/
theorem injectEntry_eq (slot : SlotNo) (pauseMs : Nat) {code : Nat} (h : code ≤ 17) :
    injectEntry slot pauseMs code =
      { kind := if code < 16 then .tone code else if code = 16 then .pause pauseMs else .recall
        origin := .ordered
        owner := some slot } := by
  unfold injectEntry
  obtain low | rfl | rfl : code < 16 ∨ code = 16 ∨ code = 17 := by omega
  · rw [if_neg (by omega), if_neg (by omega), if_pos low]
  · rfl
  · rfl

theorem OrderCopy.injectPause_eq (c : OrderCopy) :
    c.injectPause = max 100 (min 2000 (c.p0.toNat / 256 * 10)) := by
  unfold OrderCopy.injectPause clamp
  split
  · omega
  · split <;> omega

/-- Settles O29: the string is appended as a whole, and the line sends as its own head examination lets it. -/
theorem injectAppendsTheString : Obligations.InjectAppendsTheString := by
  unfold Obligations.InjectAppendsTheString
  intro slot n s sound mute ⟨due, loss⟩ line free active low high codes room pauseMs injected
  have entries : (s.orderCopy slot).injectCodes.map
      (injectEntry slot (s.orderCopy slot).injectPause) = _ :=
    List.map_congr_left fun code hcode =>
      (injectEntry_eq slot (s.orderCopy slot).injectPause (codes code hcode))
  have effect : injectOrder slot (s.orderCopy slot) s =
      injectEntries slot n (s.orderCopy slot) (accept slot .inject (some n) (s.orderCopy slot) s) := by
    refine (withLine_of_line line).trans ((ifLineFree_of_free free).trans
      ((if_neg (not_not.mpr active)).trans ((if_neg (by omega)).trans ?_)))
    rw [badCodePosition_of_all codes]
    exact if_neg (by unfold queueRoom; omega)
  have injects : injectEntries slot n (s.orderCopy slot)
      (accept slot .inject (some n) (s.orderCopy slot) s) =
      examineHead n ((accept slot .inject (some n) (s.orderCopy slot) s).setLine n injected) := by
    unfold injectEntries stopFirstDigit State.modQueue
    dsimp only
    rw [State.modLine_modLine, entries, OrderCopy.injectPause_eq]
    rfl
  obtain ⟨t, row, swept, settles, flying, state, result, board, frame, form⟩ :=
    accepted_examines (l := injected) sound mute due loss (effect.trans injects) ⟨rfl, rfl, rfl, rfl⟩
  exact ⟨t, row, OrderCopy.injectCodes_length _ high, settles, flying, state, result, board, swept, frame,
    form⟩

end Sys2Proof.Machine
end

section
/-! Orders that end other orders: FLUSH and WITHDRAW. -/

namespace Sys2Proof.Machine

variable {s t u v : State} {n m : LineNo} {slot : SlotNo} {code : ResultCode} {detail : Nat} {l : Line}
  {c : OrderCopy} {r : OrderRecord}

/-! ### The work of an order's owner -/

/-- Only the lines, the senders, the wait list, the store, the causes and the acceptance list may differ. -/
def OwnerWork (s t : State) : Prop :=
  t = { s with
    lines := t.lines, senders := t.senders, waitList := t.waitList, store := t.store
    causes := t.causes, board := { s.board with accepted := t.board.accepted } }

theorem OwnerWork.refl (s : State) : OwnerWork s s := rfl

theorem OwnerWork.trans (h : OwnerWork s t) (k : OwnerWork t u) : OwnerWork s u := by
  unfold OwnerWork at *; rw [k]; rw [h]

theorem Sends.ownerWork (h : Sends s t) : OwnerWork s t := by
  unfold Sends at h; unfold OwnerWork; rw [h]

theorem setLine_ownerWork (s : State) (n : LineNo) (l : Line) : OwnerWork s (s.setLine n l) := rfl

theorem modQueue_ownerWork (s : State) (n : LineNo) (f : QueueUnit → QueueUnit) :
    OwnerWork s (s.modQueue n f) := rfl

theorem finishNow_ownerWork (slot : SlotNo) (code : ResultCode) (detail : Nat) (s : State) :
    OwnerWork s (finishNow slot code detail s) := rfl

theorem OwnerWork.keeps (h : OwnerWork s t) :
    t.profiles = s.profiles ∧ t.capture = s.capture ∧ t.control = s.control ∧ t.timeBase = s.timeBase ∧
      t.board.sweepAt = s.board.sweepAt ∧ t.board.sweepHeld = s.board.sweepHeld := by
  unfold OwnerWork at h; rw [h]; simp

theorem marksDone_board (l : List HeldOrder) (s : State) : (marksDone l s).board = s.board := by
  induction l generalizing s with
  | nil => rfl
  | cons o l ih => rw [marksDone_cons, ih, markDone_board]

/-- A completion touches the store, the causes and the acceptance list alone. -/
theorem completeOrder_form (slot : SlotNo) (code : ResultCode) (detail : Nat) (s : State) :
    let t := completeOrder slot code detail s
    t = { s with
      store := t.store, causes := t.causes, board := { s.board with accepted := t.board.accepted } } := by
  have answers : completeOrder slot code detail s = _ := completeOrder_answers slot code detail s
  have board : (completeOrder slot code detail s).board =
      { s.board with accepted := (completeOrder slot code detail s).board.accepted } := by
    rw [completeOrder_eq, State.setAccepted_board, marksDone_board]
    rfl
  generalize completeOrder slot code detail s = w at *
  intro t
  rw [← board]
  exact answers

theorem completeOrder_ownerWork (slot : SlotNo) (code : ResultCode) (detail : Nat) (s : State) :
    OwnerWork s (completeOrder slot code detail s) := by
  have form := completeOrder_form slot code detail s
  generalize completeOrder slot code detail s = w at *
  unfold OwnerWork
  dsimp only at form
  rw [form]

/-! ### The end of a line's RELEASE or INJECT -/

theorem endQueueOrder_of_none (h : (s.line n).queue.order = none) :
    endQueueOrder n code s = s.modQueue n QueueUnit.dropOrder := by
  unfold endQueueOrder
  rw [h]

theorem endQueueOrder_of_some (h : (s.line n).queue.order = some r) :
    endQueueOrder n code s = completeOrder r.slot code r.sent (s.modQueue n QueueUnit.dropOrder) := by
  unfold endQueueOrder
  rw [h]

theorem endQueueOrder_answers (n : LineNo) (code : ResultCode) (s : State) :
    Answers (s.modQueue n QueueUnit.dropOrder) (endQueueOrder n code s) := by
  unfold endQueueOrder
  dsimp only
  split
  · exact completeOrder_answers ..
  · exact .refl _

theorem endQueueOrder_ownerWork (n : LineNo) (code : ResultCode) (s : State) :
    OwnerWork s (endQueueOrder n code s) := by
  unfold endQueueOrder
  dsimp only
  split
  · exact (modQueue_ownerWork s n _).trans (completeOrder_ownerWork ..)
  · exact modQueue_ownerWork s n _

theorem endQueueOrder_line_same (n : LineNo) (code : ResultCode) (s : State) :
    (endQueueOrder n code s).line n = { s.line n with queue := (s.line n).queue.dropOrder } := by
  rw [(endQueueOrder_answers n code s).line, State.modQueue_line_same]

theorem endQueueOrder_line_other (code : ResultCode) (s : State) (hm : m ≠ n) :
    (endQueueOrder n code s).line m = s.line m := by
  rw [(endQueueOrder_answers n code s).line, State.modQueue_line_other _ _ hm]

theorem endQueueOrder_pool (n : LineNo) (code : ResultCode) (s : State) :
    (endQueueOrder n code s).senders = s.senders ∧ (endQueueOrder n code s).waitList = s.waitList := by
  obtain ⟨-, -, -, -, -, -, senders, waitList, -⟩ := (endQueueOrder_answers n code s).keeps
  exact ⟨senders, waitList⟩

/-- The order that a line's record belongs to shows its end with the sent count, and its slot is not held. -/
theorem endQueueOrder_ends (sound : StoreSound s) (targets : MarkTargetsSound s)
    (h : (s.line n).queue.order = some r) (code : ResultCode) :
    SlotShows (endQueueOrder n code s) r.slot slotDone code r.sent ∧
      (endQueueOrder n code s).slotHeld r.slot = false ∧
      (endQueueOrder n code s).causes.order = true := by
  rw [endQueueOrder_of_some h]
  exact ⟨completeOrder_shows (s := s.modQueue n QueueUnit.dropOrder) sound targets r.slot code r.sent,
    completeOrder_slotHeld .., completeOrder_order ..⟩

theorem completeOrder_sound (sound : StoreSound s) (slot : SlotNo) (code : ResultCode) (detail : Nat) :
    StoreSound (completeOrder slot code detail s) :=
  (completeOrder_moves slot code detail s).keeps (fun _ _ => .of_move) sound

theorem endQueueOrder_sound (sound : StoreSound s) (n : LineNo) (code : ResultCode) :
    StoreSound (endQueueOrder n code s) := by
  unfold endQueueOrder
  dsimp only
  split
  · exact completeOrder_sound (s := s.modQueue n QueueUnit.dropOrder) sound _ _ _
  · exact sound

/-! ### Outcomes of two slots in one event -/

theorem writeOutcome_shows_other {slot' : SlotNo} {code' : ResultCode} {detail' : Nat} {w w' : Word}
    (shows : SlotShows s slot w code detail) (other : slot ≠ slot') :
    SlotShows (writeOutcome slot' code' detail' w' s) slot w code detail := by
  have apart := slotAddress_apart other
  exact ⟨(writeOutcome_peek_other (by omega) (by omega)).trans shows.1,
    (writeOutcome_peek_other (by omega) (by omega)).trans shows.2⟩

theorem Examined.slotHeld (h : Examined slot s u t) (k : SlotNo) : t.slotHeld k = u.slotHeld k := by
  unfold State.slotHeld
  rw [h.accepted]

theorem Examined.swept_of_owner (h : Examined slot s u t) (work : OwnerWork s u) : SweptPast slot s t :=
  h.swept ⟨work.keeps.2.2.2.2.1, work.keeps.2.2.2.2.2⟩

theorem Examined.form_of_owner (h : Examined slot s u t) (work : OwnerWork s u) :
    t = { s with
      lines := t.lines, senders := t.senders, waitList := t.waitList, store := t.store
      board := t.board, causes := t.causes } := by
  obtain ⟨-, senders, waitList, -, causes⟩ := h.keeps
  have form := h.form
  unfold OwnerWork at work
  rw [senders, waitList, causes]
  rw [work] at form
  exact form

/-! ### FLUSH -/

theorem flushQueue_ownerWork (n : LineNo) (s : State) : OwnerWork s (flushQueue n s) :=
  ((withdrawRequest_sends n s).ownerWork.trans (endQueueOrder_ownerWork n .cancelled _)).trans
    (modQueue_ownerWork _ n _)

theorem flushQueue_line_same (n : LineNo) (s : State) :
    (flushQueue n s).line n =
      { s.line n with
        queue :=
          { (s.line n).queue with
            entries := [], credit := 0, waiting := false, order := none
            flight := (s.line n).queue.flight.map fun f => { f with owned := false } } } := by
  unfold flushQueue
  rw [State.modQueue_line_same, endQueueOrder_line_same, withdrawRequest_line_same]
  rfl

theorem flushQueue_line_other (s : State) (hm : m ≠ n) : (flushQueue n s).line m = s.line m := by
  unfold flushQueue
  rw [State.modQueue_line_other _ _ hm, endQueueOrder_line_other _ _ hm, withdrawRequest_line_other _ hm]

theorem withdrawRequest_waitList (n : LineNo) (s : State) :
    (withdrawRequest n s).waitList =
      if (s.line n).queue.waiting then withoutRequest n s.waitList else s.waitList := by
  unfold withdrawRequest
  split <;> rfl

theorem flushQueue_pool (n : LineNo) (s : State) :
    (flushQueue n s).senders = s.senders ∧
      (flushQueue n s).waitList =
        if (s.line n).queue.waiting then withoutRequest n s.waitList else s.waitList := by
  obtain ⟨senders, waitList⟩ := endQueueOrder_pool n .cancelled (withdrawRequest n s)
  exact ⟨senders.trans (withdrawRequest_senders n s), waitList.trans (withdrawRequest_waitList n s)⟩

theorem withdrawRequest_store (n : LineNo) (s : State) : (withdrawRequest n s).store = s.store := by
  unfold withdrawRequest
  split <;> rfl

theorem withdrawRequest_board (n : LineNo) (s : State) : (withdrawRequest n s).board = s.board := by
  unfold withdrawRequest
  split <;> rfl

theorem withdrawRequest_order (n : LineNo) (s : State) :
    ((withdrawRequest n s).line n).queue.order = (s.line n).queue.order := by
  rw [withdrawRequest_line_same]

theorem flushQueue_sound (sound : StoreSound s) (n : LineNo) : StoreSound (flushQueue n s) :=
  endQueueOrder_sound (s := withdrawRequest n s) (by rw [StoreSound, withdrawRequest_store]; exact sound) n _

theorem flushQueue_ends (sound : StoreSound s) (targets : MarkTargetsSound s)
    (h : (s.line n).queue.order = some r) :
    SlotShows (flushQueue n s) r.slot slotDone .cancelled r.sent ∧
      (flushQueue n s).slotHeld r.slot = false := by
  obtain ⟨shows, held, -⟩ := endQueueOrder_ends (s := withdrawRequest n s) (n := n)
    (by rw [StoreSound, withdrawRequest_store]; exact sound)
    (by rw [MarkTargetsSound, withdrawRequest_board]; exact targets)
    ((withdrawRequest_order n s).trans h) .cancelled
  exact ⟨shows, held⟩

theorem flushQueue_store_of_none (h : (s.line n).queue.order = none) :
    (flushQueue n s).store = s.store := by
  unfold flushQueue
  rw [endQueueOrder_of_none ((withdrawRequest_order n s).trans h)]
  exact withdrawRequest_store n s

/-- Settles O30: the queue goes with its request and its order, and the FLUSH's own outcome stands in its slot. -/
theorem flushEmptiesTheQueue : Obligations.FlushEmptiesTheQueue := by
  unfold Obligations.FlushEmptiesTheQueue
  intro slot n s sound mute targets ⟨due, loss⟩ line inService
  have effect : flushOrder slot (s.orderCopy slot) s =
      finishNow slot .ok (s.line n).queue.entries.length (flushQueue n s) :=
    (withLine_of_line line).trans (if_neg inService)
  have work := flushQueue_ownerWork n s
  have lineSame := flushQueue_line_same n s
  have lineOther (m : LineNo) (hm : m ≠ n) := flushQueue_line_other s hm
  obtain ⟨senders, waitList⟩ := flushQueue_pool n s
  have soundAfter := flushQueue_sound sound n
  have ends (r : OrderRecord) (h : (s.line n).queue.order = some r) := flushQueue_ends sound targets h
  have store (h : (s.line n).queue.order = none) := flushQueue_store_of_none h
  generalize flushQueue n s = v at *
  have finished : Answers v (finishNow slot .ok (s.line n).queue.entries.length v) := finishNow_answers ..
  have workAfter := work.trans (finishNow_ownerWork slot .ok (s.line n).queue.entries.length v)
  have shows := writeOutcome_shows soundAfter slot .ok (s.line n).queue.entries.length slotDone
  have outcome := writeOutcome_frame slot .ok (s.line n).queue.entries.length slotDone v
  have causes : (finishNow slot .ok (s.line n).queue.entries.length v).causes.order = true := rfl
  have pool : (finishNow slot .ok (s.line n).queue.entries.length v).senders = v.senders := rfl
  have others (r : OrderRecord) (shows : SlotShows v r.slot slotDone .cancelled r.sent)
      (other : r.slot ≠ slot) :
      SlotShows (finishNow slot .ok (s.line n).queue.entries.length v) r.slot slotDone .cancelled r.sent :=
    writeOutcome_shows_other shows other
  have held (k : SlotNo) :
      (finishNow slot .ok (s.line n).queue.entries.length v).slotHeld k = v.slotHeld k := rfl
  have list : (finishNow slot .ok (s.line n).queue.entries.length v).waitList = v.waitList := rfl
  change StoreFrame v (finishNow slot .ok (s.line n).queue.entries.length v) _ at outcome
  change SlotShows (finishNow slot .ok (s.line n).queue.entries.length v) _ _ _ _ at shows
  have lines (m : LineNo) := finished.line m
  generalize finishNow slot .ok (s.line n).queue.entries.length v = u at *
  obtain ⟨t, row, examined⟩ := examination_examined slot due effect
    (by rw [workAfter.keeps.2.1]; exact loss)
  have bound (k : SenderNo) : (u.sender k).map (·.line) = (s.sender k).map (·.line) := by
    rw [State.sender_congr (pool.trans senders)]
  have apart (m : LineNo) (hm : m ≠ n) : u.line m = s.line m := (lines m).trans (lineOther m hm)
  have muteAfter : MuteSound u := mute.of_line apart bound (by
    rw [lines, lineSame]
    exact ⟨rfl, rfl, rfl, rfl⟩)
  refine ⟨t, row, ?_, ?_, examined.shows shows, examined.swept_of_owner workAfter, ?_,
    fun r order other => ⟨?_, ?_⟩, fun none a outside => ?_, fun m hm => ?_, ?_⟩
  · rw [examined.line_of_mute muteAfter, lines, lineSame]
  · rw [examined.keeps.2.2.1, list, waitList]
    rfl
  · rw [examined.keeps.2.2.2.2, causes]
  · exact examined.shows (others r (ends r order).1 other)
  · rw [examined.slotHeld, held, (ends r order).2]
  · simp only [outcomeRegions, List.mem_cons, List.not_mem_nil, or_false, forall_eq_or_imp,
      forall_eq] at outside
    obtain ⟨count, h0, h7, image⟩ := outside
    rw [examined.peek, settle_peek_apart mute apart workAfter.keeps.1 bound
      (.inl (by unfold waitCountAddress; omega)) image]
    refine (outcome a fun r hr => ?_).trans (State.peek_congr (store none) a)
    simp only [List.mem_cons, List.not_mem_nil, or_false] at hr
    obtain rfl | rfl := hr <;> assumption
  · rw [examined.line_of_mute muteAfter, apart m hm]
  · have form := examined.form_of_owner workAfter
    rw [examined.keeps.2.1, pool, senders] at form
    exact form

end Sys2Proof.Machine
end

section
/-! WITHDRAW: the held order of a slot ends through its owner. -/

namespace Sys2Proof.Machine

variable {s t u v : State} {n m : LineNo} {slot : SlotNo} {code : ResultCode} {detail : Nat} {l : Line}
  {c : OrderCopy} {r : OrderRecord} {o : HeldOrder}

/-! ### What a completion leaves of the store -/

/-- A completion writes slots and the host area alone. -/
theorem completeOrder_peek_other (targets : MarkTargetsSound s) (slot : SlotNo) (code : ResultCode)
    (detail : Nat) {a : Nat} (outside : a < 0x020 ∨ (0x0A0 ≤ a ∧ a < 0x240) ∨ 0x400 ≤ a) :
    (completeOrder slot code detail s).peek a = s.peek a := by
  have notSlot (k : SlotNo) : a ≠ slotAddress k ∧ a ≠ slotAddress k + 7 := by
    have := k.isLt
    unfold slotAddress
    omega
  rw [completeOrder_eq]
  refine (marksDone_peek_other fun o ho => ?_).trans
    (writeOutcome_peek_other (notSlot slot).1 (notSlot slot).2)
  have := (inHostArea_iff _ _).mp (releasedMarks_targets targets slot o ho)
  exact ⟨by omega, notSlot o.slot⟩

/-- A completion leaves the tone plan (R145). -/
theorem completeOrder_readTone (targets : MarkTargetsSound s) (slot : SlotNo) (code : ResultCode)
    (detail : Nat) {tone : Nat} (h : tone < 16) :
    readTone (completeOrder slot code detail s).store tone = readTone s.store tone :=
  readTone_congr fun i hi => completeOrder_peek_other targets slot code detail (by
    unfold toneAddress
    omega)

theorem Entry.inRange_tone {e : Entry} {code : Nat} (h : e.inRange = true) (kind : e.kind = .tone code) :
    code < 16 := by
  unfold Entry.inRange at h
  rw [kind] at h
  exact of_decide_eq_true h

/-! ### The order found -/

theorem find_heldOrder (distinct : SlotsDistinct s) (held : o ∈ s.board.accepted) (hslot : o.slot = slot) :
    s.board.accepted.find? (fun o => o.slot == slot) = some o := by
  unfold SlotsDistinct at distinct
  generalize s.board.accepted = list at *
  induction list with
  | nil => nomatch held
  | cons x list ih =>
    obtain ⟨apart, later⟩ := List.pairwise_cons.mp distinct
    obtain rfl | tail := List.mem_cons.mp held
    · exact List.find?_cons_of_pos (by simpa using hslot)
    · rw [List.find?_cons_of_neg (by simpa [hslot] using apart o tail)]
      exact ih later tail

theorem withdraw_due (reached : sweepReaches slot s = true) (state : s.slotState slot = slotWithdraw)
    (held : o ∈ s.board.accepted) (hslot : o.slot = slot) :
    (sweepReaches slot s && slotIsWithdrawn slot s) = true := by
  have : s.slotHeld slot = true := List.any_eq_true.mpr ⟨o, held, by simpa using hslot⟩
  simp [reached, slotIsWithdrawn, this, state]

theorem endLearn_ownerWork (n : LineNo) (code : ResultCode) (detail : Learn → Nat) (s : State) :
    OwnerWork s (endLearn n code detail s) := by
  unfold endLearn
  split
  · exact .refl s
  · exact (setLine_ownerWork s n _).trans (completeOrder_ownerWork ..)

theorem examineHead_ownerWork (n : LineNo) (s : State) : OwnerWork s (examineHead n s) :=
  (examineHead_sends n s).ownerWork

theorem withdrawOrder_ownerWork (slot : SlotNo) (s : State) : OwnerWork s (withdrawOrder slot s) := by
  unfold withdrawOrder
  split
  · exact .refl s
  · split
    · exact endLearn_ownerWork ..
    · exact ((modQueue_ownerWork s _ _).trans (endQueueOrder_ownerWork ..)).trans (examineHead_ownerWork ..)
    · exact ((modQueue_ownerWork s _ _).trans (endQueueOrder_ownerWork ..)).trans (examineHead_ownerWork ..)
    · exact completeOrder_ownerWork ..
    · exact .refl s

/-! ### A LEARN or a MARK withdrawn -/

theorem withdrawOrder_learn (found : s.board.accepted.find? (fun o => o.slot == slot) = some o)
    (kind : o.kind = .learn) (line : o.line = some n) :
    withdrawOrder slot s = endLearn n .cancelled (·.passedOver) s := by
  unfold withdrawOrder
  rw [found]
  simp only [kind, line]

theorem withdrawOrder_mark (found : s.board.accepted.find? (fun o => o.slot == slot) = some o)
    (kind : o.kind = .mark) : withdrawOrder slot s = completeOrder slot .cancelled 0 s := by
  unfold withdrawOrder
  rw [found]
  simp only [kind]

theorem endLearn_of_pending {x : Learn} {detail : Learn → Nat} (h : (s.line n).learnPending = some x) :
    endLearn n code detail s =
      completeOrder x.slot code (detail x) (s.modEstimator n Estimator.dropLearn) := by
  unfold endLearn
  rw [h]

theorem Line.learnPending_of {e : Estimator} {x : Learn} (he : l.estimator = some e)
    (hx : e.learn = some x) : l.learnPending = some x := by
  simp [Line.learnPending, he, hx]

theorem dropLearn_line {e : Estimator} (he : (s.line n).estimator = some e) :
    (s.modEstimator n Estimator.dropLearn).line n =
      { s.line n with estimator := some { e with learnMark := false, learn := none } } := by
  unfold State.modEstimator
  rw [State.modLine_line_same, he]
  rfl

/-- The completion of the only order held writes its own slot alone. -/
theorem completeOrder_alone (alone : s.board.accepted = [o]) (hslot : o.slot = slot) :
    completeOrder slot code detail s = (finishNow slot code detail s).setAccepted [] := by
  have none : (s.board.accepted.filter fun o => o.slot != slot) = [] := by simp [alone, hslot]
  rw [completeOrder, none]
  rfl

/-! ### A RELEASE or an INJECT withdrawn -/

/-- What the withdrawal of a RELEASE or INJECT does to the queue unit, beside the record (R116). -/
def withdrawnUnit (kind : HeldKind) (slot : SlotNo) (q : QueueUnit) : QueueUnit :=
  match kind with
  | .release => { q with credit := 0 }
  | .inject => q.dropOwned slot
  | .learn | .mark => q

theorem withdrawOrder_queue (found : s.board.accepted.find? (fun o => o.slot == slot) = some o)
    (kind : o.kind = .release ∨ o.kind = .inject) (line : o.line = some n) :
    withdrawOrder slot s =
      examineHead n (endQueueOrder n .cancelled (s.modQueue n (withdrawnUnit o.kind slot))) := by
  unfold withdrawOrder
  rw [found]
  obtain kind | kind := kind <;> simp only [kind, line] <;> rfl

theorem withdrawnUnit_order (kind : HeldKind) (slot : SlotNo) (q : QueueUnit) :
    (withdrawnUnit kind slot q).order = q.order := by
  cases kind <;> rfl

theorem withdrawnUnit_left (kind : HeldKind) (slot : SlotNo) (q : QueueUnit)
    (h : kind = .release ∨ kind = .inject) :
    (withdrawnUnit kind slot q).dropOrder =
      { q with
        order := none
        flight := q.flight.map fun f => { f with owned := false }
        credit := if kind = .release then 0 else q.credit
        entries :=
          if kind = .inject then q.entries.filter fun e => decide (e.owner ≠ some slot)
          else q.entries } := by
  obtain rfl | rfl := h <;> rfl

/-- The state in which a withdrawn RELEASE or INJECT has ended sends as the line itself would. -/
theorem endQueueOrder_sendsAlike (targets : MarkTargetsSound s) (entries : EntriesSound s)
    (f : QueueUnit → QueueUnit) (fewer : ∀ e ∈ (f (s.line n).queue).entries, e ∈ (s.line n).queue.entries)
    (order : (f (s.line n).queue).order = some r) :
    SendsAlike (s.setLine n { s.line n with queue := (f (s.line n).queue).dropOrder })
      (endQueueOrder n code (s.modQueue n f)) := by
  have lineAfter : (s.modQueue n f).line n = _ := State.modQueue_line_same s n f
  have ended := endQueueOrder_of_some (s := s.modQueue n f) (n := n) (code := code) (r := r)
    (by rw [lineAfter]; exact order)
  have double : (s.modQueue n f).modQueue n QueueUnit.dropOrder =
      s.setLine n { s.line n with queue := (f (s.line n).queue).dropOrder } := by
    unfold State.modQueue
    rw [State.modLine_modLine]
    rfl
  rw [ended, double]
  generalize hl : ({ s.line n with queue := (f (s.line n).queue).dropOrder } : Line) = l
  have answers := completeOrder_answers r.slot code r.sent (s.setLine n l)
  obtain ⟨-, -, timeBase, -, -, -, senders, waitList, -, -, control⟩ := answers.keeps
  refine ⟨fun m => by rw [answers.line]; exact .refl _, senders, waitList,
    by rw [State.sendHold, control]; rfl, by rw [State.clock, timeBase]; rfl, fun m e he tone kind => ?_⟩
  refine completeOrder_readTone (s := s.setLine n l) targets r.slot code r.sent (Entry.inRange_tone (e := e) ?_ kind)
  rw [State.setLine_line] at he
  split at he
  · subst hl
    exact (entries n).1 e (fewer e he)
  · exact (entries m).1 e he

/-! ### The obligation -/

/-- A withdrawn LEARN moves its line's estimator alone, and shows its passed-over count. -/
theorem withdraws_learn {e : Estimator} {x : Learn} (sound : StoreSound s) (mute : MuteSound s)
    (targets : MarkTargetsSound s)
    (found : s.board.accepted.find? (fun o => o.slot == slot) = some o) (kind : o.kind = .learn)
    (line : o.line = some n) (he : (s.line n).estimator = some e) (hx : e.learn = some x)
    (hslot : x.slot = slot) (examined : Examined slot s (withdrawOrder slot s) t) :
    t.line n = { s.line n with estimator := some { e with learnMark := false, learn := none } } ∧
      SlotShows t slot slotDone .cancelled x.passedOver ∧ t.slotHeld slot = false ∧
      t.causes.order = true ∧ ∀ m : LineNo, m ≠ n → t.line m = s.line m := by
  have effect : withdrawOrder slot s =
      completeOrder slot .cancelled x.passedOver (s.modEstimator n Estimator.dropLearn) := by
    rw [withdrawOrder_learn found kind line, endLearn_of_pending (Line.learnPending_of he hx), hslot]
  have dropped := dropLearn_line he
  have beside : Beside n s (s.modEstimator n Estimator.dropLearn) := .modLine s n _
  have shows := completeOrder_shows (s := s.modEstimator n Estimator.dropLearn) sound targets slot
    .cancelled x.passedOver
  have answers := completeOrder_answers slot .cancelled x.passedOver (s.modEstimator n Estimator.dropLearn)
  have held := completeOrder_slotHeld slot .cancelled x.passedOver (s.modEstimator n Estimator.dropLearn)
  have causes := completeOrder_order slot .cancelled x.passedOver (s.modEstimator n Estimator.dropLearn)
  rw [← effect] at shows answers held causes
  generalize withdrawOrder slot s = u at *
  have besideAfter := beside.trans answers.beside
  have lineAfter : u.line n = _ := (answers.line n).trans dropped
  have muteAfter : MuteSound u := mute.of_line besideAfter.lines besideAfter.bound
    (by rw [lineAfter]; exact ⟨rfl, rfl, rfl, rfl⟩)
  exact ⟨by rw [examined.line_of_mute muteAfter, lineAfter], examined.shows shows,
    by rw [examined.slotHeld, held], by rw [examined.keeps.2.2.2.2, causes],
    fun m hm => by rw [examined.line_of_mute muteAfter, besideAfter.lines m hm]⟩

theorem withdraws_mark (sound : StoreSound s) (mute : MuteSound s) (targets : MarkTargetsSound s)
    (found : s.board.accepted.find? (fun o => o.slot == slot) = some o) (hslot : o.slot = slot)
    (kind : o.kind = .mark) (examined : Examined slot s (withdrawOrder slot s) t) :
    SlotShows t slot slotDone .cancelled 0 ∧ t.slotHeld slot = false ∧ t.lines = s.lines ∧
      (s.board.accepted = [o] →
        StoreFrame s t [(slotAddress slot, 1), (slotAddress slot + 7, 1)] ∧
          t.causes = { s.causes with order := true }) := by
  rw [withdrawOrder_mark found kind] at examined
  have answers := completeOrder_answers slot .cancelled 0 s
  refine ⟨examined.shows (completeOrder_shows sound targets ..),
    (examined.slotHeld slot).trans (completeOrder_slotHeld ..),
    examined.lines_of_answers mute answers, fun alone => ?_⟩
  rw [completeOrder_alone alone hslot] at examined answers
  exact ⟨examined.frame_of_answers mute answers (writeOutcome_frame slot .cancelled 0 slotDone s),
    examined.keeps.2.2.2.2⟩

theorem withdraws_queue (sound : StoreSound s) (mute : MuteSound s) (targets : MarkTargetsSound s)
    (entries : EntriesSound s)
    (found : s.board.accepted.find? (fun o => o.slot == slot) = some o)
    (kind : o.kind = .release ∨ o.kind = .inject) (line : o.line = some n)
    (order : (s.line n).queue.order = some r) (hslot : r.slot = slot)
    (examined : Examined slot s (withdrawOrder slot s) t) :
    let left : Line :=
      { s.line n with queue := (withdrawnUnit o.kind slot (s.line n).queue).dropOrder }
    SettlesAs (examineHead n (s.setLine n left)) t ∧
      ((s.line n).queue.flight.isSome = true →
        t.line n = left ∧ (∀ m : LineNo, m ≠ n → t.line m = s.line m) ∧
        t.senders = s.senders ∧ t.waitList = s.waitList) ∧
      SlotShows t slot slotDone .cancelled r.sent ∧ t.slotHeld slot = false ∧
      t.causes.order = true := by
  intro left
  have orderKept : (withdrawnUnit o.kind slot (s.line n).queue).order = some r :=
    (withdrawnUnit_order ..).trans order
  have alike : SendsAlike (s.setLine n left) _ := endQueueOrder_sendsAlike (code := .cancelled) targets
    entries (withdrawnUnit o.kind slot) (fun e he => by
      obtain kind | kind := kind <;> rw [kind] at he
      · exact he
      · exact (List.mem_filter.mp he).1) orderKept
  obtain ⟨shows, held, causes⟩ := endQueueOrder_ends
    (s := s.modQueue n (withdrawnUnit o.kind slot)) (n := n) (r := r) sound targets
    (by rw [State.modQueue_line_same]; exact orderKept) .cancelled
  have answers := endQueueOrder_answers n .cancelled (s.modQueue n (withdrawnUnit o.kind slot))
  have lines : ∀ m, (endQueueOrder n .cancelled (s.modQueue n (withdrawnUnit o.kind slot))).line m =
      (s.setLine n left).line m := fun m => by
    by_cases hm : m = n
    · subst hm
      rw [endQueueOrder_line_same, State.modQueue_line_same, State.setLine_line_same]
    · rw [endQueueOrder_line_other _ _ hm, State.modQueue_line_other _ _ hm,
        State.setLine_line_other _ _ _ _ hm]
  rw [withdrawOrder_queue found kind line] at examined
  rw [hslot] at shows held
  generalize endQueueOrder n .cancelled (s.modQueue n (withdrawnUnit o.kind slot)) = w at *
  have linesEq : w.lines = (s.setLine n left).lines := by
    refine Vector.ext fun i hi => ?_
    exact lines ⟨i, hi⟩
  have sends := examineHead_sends n w
  obtain ⟨-, -, -, -, -, -, board, -, -, causesKept, store⟩ := sends.keeps
  have examinedAlike := alike.examineHead n
  have sentLines := examinedAlike.lines_eq linesEq (examineHead_sendOnly n (s.setLine n left))
    (examineHead_sendOnly n w)
  have flying := examineHead_of_flight (n := n) (s := w)
  generalize examineHead n w = u at *
  refine ⟨examined.settlesAs sentLines examinedAlike.senders examinedAlike.waitList, fun flight => ?_,
    examined.shows ?_, ?_, ?_⟩
  · have leftFlight : left.queue.flight.isSome = true := by
      have same : left.queue.flight = (s.line n).queue.flight.map fun f => { f with owned := false } := by
        obtain kind | kind := kind <;> simp only [left, kind] <;> rfl
      rw [same, Option.isSome_map]
      exact flight
    obtain rfl := flying (by rw [lines, State.setLine_line_same]; exact leftFlight)
    have apart (m : LineNo) (hm : m ≠ n) : u.line m = s.line m := by
      rw [lines, State.setLine_line_other _ _ _ _ hm]
    have muteAfter : MuteSound u := mute.of_line apart
      (fun k => by rw [State.sender_congr alike.senders]; rfl) (by
        rw [lines, State.setLine_line_same]
        obtain kind | kind := kind <;> simp only [left, kind] <;> exact ⟨rfl, rfl, rfl, rfl⟩)
    exact ⟨by rw [examined.line_of_mute muteAfter, lines, State.setLine_line_same],
      fun m hm => by rw [examined.line_of_mute muteAfter, apart m hm],
      examined.keeps.2.1.trans alike.senders, examined.keeps.2.2.1.trans alike.waitList⟩
  · exact ⟨(State.peek_congr store _).trans shows.1, (State.peek_congr store _).trans shows.2⟩
  · rw [examined.slotHeld, State.slotHeld, board]
    exact held
  · rw [examined.keeps.2.2.2.2, causesKept, causes]

/-- Settles O35: each kind ends through its owner, which the shared rules for completions describe. -/
theorem withdrawCancelsHeldOrder : Obligations.WithdrawCancelsHeldOrder := by
  unfold Obligations.WithdrawCancelsHeldOrder
  refine ⟨fun slot o s sound mute targets distinct loss reached state held hslot => ?_,
    fun slot o n r s sound mute targets distinct entries loss reached state held hslot line kind order
      hr => ?_⟩
  · have found := find_heldOrder distinct held hslot
    have work := withdrawOrder_ownerWork slot s
    obtain ⟨t, row, examined⟩ := examination_examined slot (withdraw_due reached state held hslot)
      (f := withdrawOrder slot) rfl (by rw [work.keeps.2.1]; exact loss)
    exact ⟨t, row, examined.swept_of_owner work, fun n e x kind line he hx hxslot =>
      withdraws_learn sound mute targets found kind line he hx hxslot examined,
      fun kind => withdraws_mark sound mute targets found hslot kind examined⟩
  · have found := find_heldOrder distinct held hslot
    have work := withdrawOrder_ownerWork slot s
    obtain ⟨t, row, examined⟩ := examination_examined slot (withdraw_due reached state held hslot)
      (f := withdrawOrder slot) rfl (by rw [work.keeps.2.1]; exact loss)
    have ends := withdraws_queue sound mute targets entries found kind line order hr examined
    rw [withdrawnUnit_left _ _ _ kind] at ends
    exact ⟨t, row, examined.swept_of_owner work, ends⟩

end Sys2Proof.Machine
end

section
/-! Records that fit the filling page, and the orders OPEN and CLOSE. -/

namespace Sys2Proof.Machine

variable {s t u v : State} {n m : LineNo} {slot : SlotNo} {code : ResultCode} {detail : Nat} {l : Line}
  {c : OrderCopy} {r : OrderRecord} {o : HeldOrder} {addr length : Nat} {ws : List Word}

/-! ### A record that fits the filling page -/

theorem recordAddress_bounds (h : RecordGoesTo s length addr) :
    0xA00 ≤ addr ∧ addr + length ≤ storeSize := by
  obtain ⟨-, f, -, fits, rfl⟩ := h
  have := s.capture.nextPage.isLt
  unfold pageAddress storeSize
  omega

/-- The filling page with one record more. -/
def Capture.placed (c : Capture) (length : Nat) : Capture :=
  { c with
    filling := c.filling.map fun f => { f with position := f.position + length, count := f.count + 1 } }

theorem captureWords_goes (h : RecordGoesTo s ws.length addr) :
    captureWords ws s =
      { s with
        store := writeWords s.store (runWrites addr ws), capture := s.capture.placed ws.length } := by
  obtain ⟨loss, f, filling, fits, rfl⟩ := h
  rw [captureWords_fits ws s f loss filling fits]
  have placed : s.capture.placed ws.length =
      { s.capture with
        filling := some { f with position := f.position + ws.length, count := f.count + 1 } } := by
    unfold Capture.placed
    rw [show s.capture.filling = some f from filling]
    rfl
  rw [placed]
  rfl

theorem captureWords_words (sound : StoreSound s) (h : RecordGoesTo s ws.length addr) :
    (captureWords ws s).words addr ws.length = ws := by
  rw [captureWords_goes h]
  exact runWrites_words sound (recordAddress_bounds h).2

theorem captureWords_frame (h : RecordGoesTo s ws.length addr) :
    StoreFrame s (captureWords ws s) [(addr, ws.length)] := by
  rw [captureWords_goes h]
  exact runWrites_frame addr ws s

theorem capture_words (kind : RecordKind) (n : LineNo) (body : List Word) (sound : StoreSound s)
    (h : RecordGoesTo s (body.length + 2) addr) :
    (capture kind n body s).words addr (body.length + 2) = recordWords kind n.val s.clock body :=
  captureWords_words (ws := recordWords kind n.val s.clock body) sound h

theorem capture_frame (kind : RecordKind) (n : LineNo) (body : List Word)
    (h : RecordGoesTo s (body.length + 2) addr) :
    StoreFrame s (capture kind n body s) [(addr, body.length + 2)] :=
  captureWords_frame (ws := recordWords kind n.val s.clock body) h

theorem capture_goes (kind : RecordKind) (n : LineNo) (body : List Word)
    (h : RecordGoesTo s (body.length + 2) addr) :
    capture kind n body s =
      { s with
        store := (capture kind n body s).store, capture := s.capture.placed (body.length + 2) } := by
  unfold capture
  rw [captureWords_goes (ws := recordWords kind n.val s.clock body) h]
  rfl

theorem capture_sound (sound : StoreSound s) (kind : RecordKind) (n : LineNo) {body : List Word}
    (h1 : 1 ≤ body.length) (h4 : body.length ≤ 4) : StoreSound (capture kind n body s) :=
  (capture_moves kind n h1 h4 s).keeps (fun _ _ => .of_move) sound

/-! ### A record that is lost -/

theorem loseRecord_taken (h : nextPageFree s = false) : nextPageFree (loseRecord s) = false := by
  have page : pageAddress s.capture.nextPage ≠ gapPendingAddress := by
    unfold pageAddress gapPendingAddress
    omega
  unfold loseRecord setLoss
  dsimp only
  split
  · exact h
  · have peek := State.poke_peek_other (s := s.setCapture { s.capture with loss := saturate 65535 s.capture.loss })
      (asWord (saturate 65535 s.capture.loss)) page
    unfold nextPageFree
    exact (congrArg (· == 0) peek).trans h

theorem recordInNextPage_rechecked (ws : List Word) (h : s.capture.loss = 0) :
    Rechecked (recordInNextPage ws s) := by
  unfold recordInNextPage
  cases free : nextPageFree s with
  | true => exact .inl h
  | false => exact .inr (loseRecord_taken free)

/-- A record handed over with no loss pending is placed, or the next page is not free. -/
theorem captureWords_rechecked (ws : List Word) (h : s.capture.loss = 0) :
    Rechecked (captureWords ws s) := by
  unfold captureWords
  rw [recheckLoss_of_rechecked (.inl h)]
  dsimp only
  rw [if_pos h]
  unfold placeRecord
  split
  · exact recordInNextPage_rechecked ws h
  · split
    · exact .inl h
    · exact recordInNextPage_rechecked ws ((closePage_loss s).trans h)

/-- The outcome of an order leaves the next page as it is. -/
theorem Rechecked.writeOutcome (h : Rechecked s) (slot : SlotNo) (code : ResultCode) (detail : Nat)
    (w : Word) : Rechecked (Machine.writeOutcome slot code detail w s) := by
  refine h.imp id fun taken => ?_
  have := slot.isLt
  have peek := writeOutcome_peek_other (s := s) (slot := slot) (code := code) (detail := detail) (w := w)
    (a := pageAddress s.capture.nextPage) (by unfold pageAddress slotAddress; omega)
    (by unfold pageAddress slotAddress; omega)
  unfold nextPageFree
  exact (congrArg (· == 0) peek).trans taken

/-! ### OPEN -/

theorem OrderCopy.polarity?_of {pol : Polarity}
    (h : c.p1 = match pol with | .presentHigh => 0 | .presentLow => 1) : c.polarity? = some pol := by
  unfold OrderCopy.polarity?
  cases pol <;> dsimp only at h <;> rw [h] <;> rfl

theorem Line.opened_eq (l : Line) (p : ProfileNo) (pol : Polarity) (a : AdoptedSet) (t : Tick) :
    l.opened p pol a t =
      { Line.outOfService l.raw with
        scan := some
          { polarity := pol, level := corrected pol l.raw, run := 0, candidate := none, edgeStamp := t }
        mode := match corrected pol l.raw with | .opened => .idle | .closed => .lockout
        profile := some p
        estimator := some
          { p16 := a.pNom16, source := .profile
            mode := match a.mode with | .fixed => .fixed | .tracking => .tracking
            learnMark := false, learn := none } } := by
  unfold Line.opened Estimator.opened SpeedMode.working
  rfl

theorem takeUp_reports (n : LineNo) (p : ProfileNo) (pol : Polarity) (a : AdoptedSet) (s : State) :
    Reports (s.setLine n ((s.line n).opened p pol a s.clock)) (takeUp n p pol a s) := by
  unfold takeUp
  dsimp only
  split
  · exact .refl _
  · exact capture_reports ..

theorem takeUp_of_open {p : ProfileNo} {pol : Polarity} {a : AdoptedSet}
    (h : corrected pol (s.line n).raw = .opened) :
    takeUp n p pol a s = s.setLine n ((s.line n).opened p pol a s.clock) := by
  unfold takeUp
  rw [h]

theorem takeUp_of_closed {p : ProfileNo} {pol : Polarity} {a : AdoptedSet}
    (h : corrected pol (s.line n).raw = .closed) :
    takeUp n p pol a s =
      capture .lockout n (lockoutBody .openedClosed)
        (s.setLine n ((s.line n).opened p pol a s.clock)) := by
  unfold takeUp
  rw [h]

theorem lockoutWords (n : LineNo) (time : Tick) (cause : Word) :
    recordWords .lockout n.val time [cause] = [asWord (0x7300 + n.val), time, cause] := by
  have := n.isLt
  unfold recordWords recordValue
  simp only [List.length_cons, List.length_nil]
  rw [Nat.mod_eq_of_lt (by omega)]

theorem takeUp_rechecked {p : ProfileNo} {pol : Polarity} {a : AdoptedSet} (h : s.capture.loss = 0) :
    Rechecked (takeUp n p pol a s) := by
  cases level : corrected pol (s.line n).raw with
  | opened => rw [takeUp_of_open level]; exact .inl h
  | closed =>
    rw [takeUp_of_closed level]
    exact captureWords_rechecked (s := s.setLine n ((s.line n).opened p pol a s.clock)) _ h

theorem Line.opened_mode_ne (l : Line) (p : ProfileNo) (pol : Polarity) (a : AdoptedSet) (t : Tick) :
    (l.opened p pol a t).mode ≠ .active := by
  rw [Line.opened_eq]
  dsimp only
  split <;> decide

theorem Examined.line_other (h : Examined slot s u t) (mute : MuteSound s) (beside : Beside n s u)
    (hm : m ≠ n) : t.line m = s.line m :=
  (State.line_congr h.lines m).trans (beside.settle_line_other mute hm)

theorem StoreFrame.region {a : Nat} {regions : List (Nat × Nat)} (h : StoreFrame s t regions)
    (outside : ∀ r ∈ regions, a < r.1 ∨ r.1 + r.2 ≤ a) : t.peek a = s.peek a := h a outside

/-- Settles O23: the line is taken up as its sample shows it, and a closed loop leaves its record. -/
theorem openBringsIntoService : Obligations.OpenBringsIntoService := by
  unfold Obligations.OpenBringsIntoService
  intro slot n p a pol s sound mute ⟨due, loss⟩ line out named inForce polarity level
  have effect : openOrder slot (s.orderCopy slot) s =
      finishNow slot .ok a.generation (takeUp n p pol a s) := by
    refine (withLine_of_line line).trans ((if_neg (not_not.mpr out)).trans ?_)
    rw [OrderCopy.openProfile?_of_val (p := p) named.symm, Option.bind_some, inForce,
      OrderCopy.polarity?_of polarity]
    rfl
  have opened := Line.opened_eq (s.line n) p pol a s.clock
  have inactive := Line.opened_mode_ne (s.line n) p pol a s.clock
  have unmuted : ((s.line n).opened p pol a s.clock).mute = false := by rw [opened]; rfl
  have idle (h : level = .opened) : takeUp n p pol a s = _ := takeUp_of_open h
  have locked (h : level = .closed) : takeUp n p pol a s = _ := takeUp_of_closed h
  have reports := takeUp_reports n p pol a s
  have rechecked : Rechecked (takeUp n p pol a s) := takeUp_rechecked loss
  have besideOpened : Beside n s (s.setLine n ((s.line n).opened p pol a s.clock)) := .setLine s n _
  have lineOpened : (s.setLine n ((s.line n).opened p pol a s.clock)).line n = _ :=
    State.setLine_line_same s n _
  generalize (s.line n).opened p pol a s.clock = l at *
  have record (h : level = .closed) (addr : Nat) (goes : RecordGoesTo s 3 addr) :
      (takeUp n p pol a s).words addr 3 = [asWord (0x7300 + n.val), s.clock, 2] ∧
        StoreFrame s (takeUp n p pol a s) [(addr, 3)] := by
    rw [locked h]
    exact ⟨(capture_words (s := s.setLine n l) .lockout n [2] sound goes).trans (lockoutWords n s.clock 2),
      capture_frame (s := s.setLine n l) .lockout n [2] goes⟩
  have soundUp : StoreSound (takeUp n p pol a s) := by
    cases h : level with
    | opened => rw [idle h]; exact sound
    | closed => rw [locked h]; exact capture_sound (s := s.setLine n l) sound _ _ (by decide) (by decide)
  generalize takeUp n p pol a s = v at *
  have besideUp := besideOpened.trans reports.beside
  have lineUp : v.line n = l := (reports.line n).trans lineOpened
  have shows := writeOutcome_shows soundUp slot .ok a.generation slotDone
  have outcome := writeOutcome_frame slot .ok a.generation slotDone v
  have beside : Beside n s (finishNow slot .ok a.generation v) := besideUp.trans (finishNow_answers ..).beside
  have lineAfter : (finishNow slot .ok a.generation v).line n = l := lineUp
  obtain ⟨t, row, examined⟩ := examination_rechecked slot due effect (rechecked.writeOutcome ..)
  have lineEnd : t.line n = l := by
    rw [examined.line, lineAfter, State.muteOn_of_inactive (by rw [lineAfter]; exact inactive), ← unmuted]
  have outcomeSub : ∀ x ∈ (imageAddress n, 12) :: ([(slotAddress slot, 1), (slotAddress slot + 7, 1)] : List (Nat × Nat)),
      x ∈ outcomeRegions slot n := fun x hx => by
    simp only [outcomeRegions, List.mem_cons, List.not_mem_nil, or_false] at hx ⊢
    tauto
  have board : (finishNow slot .ok a.generation v).board = s.board := reports.keeps.2.2.2.2.2.2.2.2.2.1
  have high (a' : Nat) (h : 0xA00 ≤ a') : t.peek a' = v.peek a' := by
    have := slot.isLt
    refine (examined.peek_other (Bool.eq_false_iff.mpr fun shown => ?_)).trans
      (writeOutcome_peek_other (by unfold slotAddress; omega) (by unfold slotAddress; omega))
    have := (shownAddress_iff _).mp shown
    omega
  refine ⟨t, row, lineEnd.trans opened, examined.shows shows, examined.swept ?_, ?_, ?_,
    fun m hm => examined.line_other mute beside hm, fun h => ⟨?_, ?_⟩, fun h addr goes => ⟨?_, ?_⟩, ?_⟩
  · rw [board]; exact ⟨rfl, rfl⟩
  · rw [examined.keeps.2.2.2.2]; rfl
  · rw [examined.accepted, board]
  · rw [examined.keeps.2.2.2.1]
    exact (congrArg State.capture (idle h) :)
  · have same : v.store = s.store := (congrArg State.store (idle h) :)
    refine (examined.frame mute beside fun a outside => ?_).mono outcomeSub
    exact (outcome a outside).trans (State.peek_congr same a)
  · obtain ⟨words, -⟩ := record h addr goes
    rw [← words]
    exact State.words_congr fun i _ => high _ (by have := (recordAddress_bounds goes).1; omega)
  · obtain ⟨-, frame⟩ := record h addr goes
    refine (examined.frame mute beside (frame.trans outcome)).mono fun x hx => ?_
    simp only [outcomeRegions, List.mem_append, List.mem_cons, List.not_mem_nil, or_false] at hx ⊢
    tauto
  · have form := examined.form
    have formUp : finishNow slot .ok a.generation v =
        { s with
          lines := (finishNow slot .ok a.generation v).lines
          store := (finishNow slot .ok a.generation v).store
          capture := (finishNow slot .ok a.generation v).capture
          causes := (finishNow slot .ok a.generation v).causes } := by
      unfold Reports at reports
      rw [reports]
      rfl
    rw [examined.keeps.2.2.2.1, examined.keeps.2.2.2.2]
    rw [formUp] at form
    exact form

end Sys2Proof.Machine
end

section
/-! CLOSE: everything a line holds ends with it. -/

namespace Sys2Proof.Machine

variable {s t u v : State} {n m : LineNo} {slot : SlotNo} {code : ResultCode} {detail : Nat} {l : Line}
  {c : OrderCopy} {r : OrderRecord} {x : Learn}

/-! ### The parts of a CLOSE -/

theorem endLearn_of_none {detail : Learn → Nat} (h : (s.line n).learnPending = none) :
    endLearn n code detail s = s := by
  unfold endLearn
  rw [h]

theorem modEstimator_line_other (f : Estimator → Estimator) (s : State) (hm : m ≠ n) :
    (s.modEstimator n f).line m = s.line m := State.modLine_line_other _ _ _ _ hm

/-- The end of a LEARN leaves the lines but for an estimator, and the pool. -/
theorem endLearn_keeps (n : LineNo) (code : ResultCode) (detail : Learn → Nat) (s : State) :
    (∃ e, (endLearn n code detail s).line n = { s.line n with estimator := e }) ∧
      (∀ m, m ≠ n → (endLearn n code detail s).line m = s.line m) ∧
      (endLearn n code detail s).senders = s.senders ∧
      (endLearn n code detail s).waitList = s.waitList := by
  cases h : (s.line n).learnPending with
  | none => rw [endLearn_of_none h]; exact ⟨⟨_, rfl⟩, fun _ _ => rfl, rfl, rfl⟩
  | some x =>
    rw [endLearn_of_pending h]
    have answers := completeOrder_answers x.slot code (detail x) (s.modEstimator n Estimator.dropLearn)
    obtain ⟨-, -, -, -, -, -, senders, waitList, -⟩ := answers.keeps
    exact ⟨⟨_, (answers.line n).trans (State.modLine_line_same _ _ _)⟩,
      fun m hm => (answers.line m).trans (modEstimator_line_other _ _ hm), senders, waitList⟩

theorem endLearn_sound {detail : Learn → Nat} (sound : StoreSound s) :
    StoreSound (endLearn n code detail s) := by
  unfold endLearn
  split
  · exact sound
  · exact completeOrder_sound (s := s.modEstimator n Estimator.dropLearn) sound ..

theorem PoolSound.endLearn {detail : Learn → Nat} (h : PoolSound s) (n : LineNo) (code : ResultCode) :
    PoolSound (endLearn n code detail s) := by
  obtain ⟨⟨e, line⟩, others, senders, waitList⟩ := endLearn_keeps n code detail s
  refine h.of_same (fun m => ?_) senders waitList
  by_cases hm : m = n
  · subst hm; rw [line]; rfl
  · rw [others m hm]

theorem discardQueue_ownerWork (n : LineNo) (s : State) : OwnerWork s (discardQueue n s) :=
  ((withdrawRequest_sends n s).ownerWork.trans (endQueueOrder_ownerWork n .callEnded _)).trans
    (modQueue_ownerWork _ n _)

theorem discardQueue_sound (sound : StoreSound s) (n : LineNo) : StoreSound (discardQueue n s) :=
  endQueueOrder_sound (s := withdrawRequest n s) (by rw [StoreSound, withdrawRequest_store]; exact sound) n _

theorem discardQueue_line_same (n : LineNo) (s : State) :
    (discardQueue n s).line n = { s.line n with queue := .empty } := by
  rw [(discardQueue_keeps n s).1, State.setLine_line_same]

theorem discardQueue_line_other (s : State) (hm : m ≠ n) : (discardQueue n s).line m = s.line m := by
  rw [(discardQueue_keeps n s).1, State.setLine_line_other _ _ _ _ hm, withdrawRequest_line_other _ hm]

theorem discardQueue_ends (sound : StoreSound s) (targets : MarkTargetsSound s)
    (h : (s.line n).queue.order = some r) :
    SlotShows (discardQueue n s) r.slot slotDone .callEnded r.sent ∧
      (discardQueue n s).slotHeld r.slot = false := by
  obtain ⟨shows, held, -⟩ := endQueueOrder_ends (s := withdrawRequest n s) (n := n)
    (by rw [StoreSound, withdrawRequest_store]; exact sound)
    (by rw [MarkTargetsSound, withdrawRequest_board]; exact targets)
    ((withdrawRequest_order n s).trans h) .callEnded
  exact ⟨shows, held⟩

theorem discardQueue_of_none (h : (s.line n).queue.order = none) :
    (discardQueue n s).store = s.store ∧ (discardQueue n s).board = s.board := by
  unfold discardQueue
  rw [endQueueOrder_of_none ((withdrawRequest_order n s).trans h)]
  exact ⟨withdrawRequest_store n s, withdrawRequest_board n s⟩

/-- A line with neither flag nor request loses nothing of the pool with its queue. -/
theorem discardQueue_pool_of_calm (h : (s.line n).queue.waiting = false) :
    (discardQueue n s).senders = s.senders ∧ (discardQueue n s).waitList = s.waitList := by
  obtain ⟨-, senders, waitList⟩ := discardQueue_keeps n s
  refine ⟨senders.trans (withdrawRequest_senders n s), waitList.trans ?_⟩
  rw [withdrawRequest_waitList, h]
  rfl

/-! ### The line out of service -/

/-- The line taken out of service, before its image is cleared. -/
def takenOut (n : LineNo) (s : State) : State :=
  let discarded := discardQueue n (endLearn n .callEnded (fun _ => 0) s)
  releaseSender n (discarded.setLine n (Line.outOfService (discarded.line n).raw))

theorem takeOut_eq (n : LineNo) (s : State) : takeOut n s = clearImage n (takenOut n s) := rfl

theorem releaseSender_store (n : LineNo) (s : State) : (releaseSender n s).store = s.store :=
  (releaseSender_sends n s).keeps.2.2.2.2.2.2.2.2.2.2

theorem releaseSender_board (n : LineNo) (s : State) : (releaseSender n s).board = s.board :=
  (releaseSender_sends n s).keeps.2.2.2.2.2.2.1

theorem takenOut_store (n : LineNo) (s : State) :
    (takenOut n s).store = (discardQueue n (endLearn n .callEnded (fun _ => 0) s)).store :=
  releaseSender_store n _

theorem takenOut_board (n : LineNo) (s : State) :
    (takenOut n s).board = (discardQueue n (endLearn n .callEnded (fun _ => 0) s)).board :=
  releaseSender_board n _

theorem takenOut_ownerWork (n : LineNo) (s : State) : OwnerWork s (takenOut n s) :=
  (((endLearn_ownerWork n .callEnded _ s).trans (discardQueue_ownerWork n _)).trans
    (setLine_ownerWork _ n _)).trans (releaseSender_sends n _).ownerWork

theorem takenOut_sound (sound : StoreSound s) (n : LineNo) : StoreSound (takenOut n s) := by
  rw [StoreSound, takenOut_store]
  exact discardQueue_sound (endLearn_sound sound) n

theorem takenOut_poolSound (h : PoolSound s) (n : LineNo) : PoolSound (takenOut n s) :=
  (h.endLearn n .callEnded).goesOut n _

theorem Line.QueueOnly_out {raw : Bool} (h : QueueOnly (Line.outOfService raw) l)
    (empty : l.queue = .empty) : l = Line.outOfService raw := by
  unfold QueueOnly at h
  rw [h, empty]
  rfl

/-- A sound pool grants nothing to a line that is OUT. -/
theorem releaseSender_line_out {raw : Bool}
    (h : PoolSound (releaseSender n (v.setLine n (Line.outOfService raw)))) :
    (releaseSender n (v.setLine n (Line.outOfService raw))).line n = Line.outOfService raw := by
  have only := releaseSender_queueOnly n (v.setLine n (Line.outOfService raw)) n
  rw [State.setLine_line_same] at only
  have out : ((releaseSender n (v.setLine n (Line.outOfService raw))).line n).mode = .out :=
    only.sendOnly.mode
  exact Line.QueueOnly_out only ((h.laws n).inactive (by rw [out]; decide))

theorem takenOut_line_same (h : PoolSound s) (n : LineNo) :
    (takenOut n s).line n = Line.outOfService (s.line n).raw := by
  obtain ⟨⟨e, line⟩, -⟩ := endLearn_keeps n .callEnded (fun _ => 0) s
  have raw : ((discardQueue n (endLearn n .callEnded (fun _ => 0) s)).line n).raw = (s.line n).raw := by
    rw [discardQueue_line_same, line]
  have out := releaseSender_line_out (takenOut_poolSound h n)
  rw [raw] at out
  unfold takenOut
  dsimp only
  rw [raw]
  exact out

/-- A line that is not ACTIVE has neither a sender nor a request. -/
theorem PoolSound.unserved (h : PoolSound s) (inactive : (s.line n).mode ≠ .active) : Unserved n s := by
  obtain ⟨queues, bound, -, -, waits⟩ := h
  constructor
  · refine List.find?_eq_none.mpr fun k _ on => ?_
    cases sender : s.sender k with
    | none => simp [boundTo, sender] at on
    | some b =>
      obtain rfl : b.line = n := by simpa [boundTo, sender] using on
      exact inactive (bound k b sender).1
  · refine List.find?_eq_none.mpr fun r hr on => ?_
    have waiting := (waits n).mpr ⟨r, hr, by simpa using on⟩
    rw [(queues n).2.1 inactive] at waiting
    cases waiting

/-- A line that nobody serves does not wait. -/
theorem PoolSound.calm_of_unserved (h : PoolSound s) (unserved : Unserved n s) :
    (s.line n).queue.waiting = false := by
  obtain ⟨-, -, -, -, waits⟩ := h
  refine Bool.eq_false_iff.mpr fun waiting => ?_
  obtain ⟨r, hr, line⟩ := (waits n).mp waiting
  have absent := List.find?_eq_none.mp unserved.2 r hr
  exact absent (by simpa using line)

/-- A line without sender, request, order or LEARN goes out alone. -/
theorem takenOut_alone (h : PoolSound s) (unserved : Unserved n s) (order : (s.line n).queue.order = none)
    (noLearn : NoLearn n s) :
    (takenOut n s).senders = s.senders ∧ (takenOut n s).waitList = s.waitList ∧
      (∀ m, m ≠ n → (takenOut n s).line m = s.line m) ∧ (takenOut n s).store = s.store := by
  obtain ⟨senders, waitList⟩ := discardQueue_pool_of_calm (h.calm_of_unserved unserved)
  obtain ⟨store, -⟩ := discardQueue_of_none order
  have bound (k : SenderNo) (l : Line) : ((discardQueue n s).setLine n l).sender k = s.sender k :=
    State.sender_congr senders k
  have free : ((discardQueue n s).setLine n
      (Line.outOfService ((discardQueue n s).line n).raw)).boundSender n = none := by
    rw [State.boundSender_congr (s := s) (fun k => by rw [bound])]
    exact unserved.1
  have released : takenOut n s = (discardQueue n s).setLine n
      (Line.outOfService ((discardQueue n s).line n).raw) := by
    unfold takenOut
    rw [endLearn_of_none noLearn]
    dsimp only
    unfold releaseSender
    rw [free]
  rw [released]
  exact ⟨senders, waitList, fun m hm => by
    rw [State.setLine_line_other _ _ _ _ hm, discardQueue_line_other _ hm], store⟩

/-! ### The obligation -/

theorem clearImage_answers (n : LineNo) (s : State) : Answers s (clearImage n s) := rfl

theorem clearImage_ownerWork (n : LineNo) (s : State) : OwnerWork s (clearImage n s) := rfl

theorem finishNow_order (slot : SlotNo) (code : ResultCode) (detail : Nat) (s : State) :
    (finishNow slot code detail s).causes.order = true := rfl

theorem finishNow_slotHeld (slot : SlotNo) (code : ResultCode) (detail : Nat) (s : State) (k : SlotNo) :
    (finishNow slot code detail s).slotHeld k = s.slotHeld k := rfl

theorem clearImage_slotHeld (n : LineNo) (s : State) (k : SlotNo) :
    (clearImage n s).slotHeld k = s.slotHeld k := rfl

theorem finishNow_shows_other {slot' : SlotNo} {code' : ResultCode} {detail' : Nat} {w : Word}
    (shows : SlotShows s slot' w code' detail') (other : slot' ≠ slot) (code : ResultCode) (detail : Nat) :
    SlotShows (finishNow slot code detail s) slot' w code' detail' :=
  writeOutcome_shows_other shows other

theorem clearImage_sound (sound : StoreSound s) (n : LineNo) : StoreSound (clearImage n s) :=
  storeWf_writeWords _ _ sound

/-- The image of a line lies apart from every slot. -/
theorem clearImage_shows {slot' : SlotNo} {w : Word} (shows : SlotShows s slot' w code detail) (n : LineNo) :
    SlotShows (clearImage n s) slot' w code detail := by
  have := slot'.isLt
  exact ⟨(clearImage_peek_other (.inl (by unfold slotAddress imageAddress; omega))).trans shows.1,
    (clearImage_peek_other (.inl (by unfold slotAddress imageAddress; omega))).trans shows.2⟩

/-- What a CLOSE leaves, whatever its line held. -/
theorem close_leaves (sound : StoreSound s) (pool : PoolSound s) (count : Nat)
    (examined : Examined slot s (finishNow slot .ok count (clearImage n (takenOut n s))) t) :
    t.line n = Line.outOfService (s.line n).raw ∧ Unserved n t ∧
      (∀ i < 12, t.peek (imageAddress n + i) = 0) ∧ SlotShows t slot slotDone .ok count := by
  have lineOut := takenOut_line_same pool n
  have poolAfter := takenOut_poolSound pool n
  have cleared := fun i hi => clearImage_peek_same (takenOut_sound sound n) n (i := i) hi
  have soundCleared := clearImage_sound (takenOut_sound sound n) n
  have answers := (clearImage_answers n (takenOut n s)).trans (finishNow_answers slot .ok count _)
  have shows : SlotShows (finishNow slot .ok count (clearImage n (takenOut n s))) slot slotDone .ok count :=
    writeOutcome_shows soundCleared slot .ok count slotDone
  have apart (i : Nat) (hi : i < 12) :
      (finishNow slot .ok count (clearImage n (takenOut n s))).peek (imageAddress n + i) =
        (clearImage n (takenOut n s)).peek (imageAddress n + i) := by
    have := slot.isLt
    exact writeOutcome_peek_other (by unfold slotAddress imageAddress; omega)
      (by unfold slotAddress imageAddress; omega)
  have soundAfter : StoreSound (finishNow slot .ok count (clearImage n (takenOut n s))) :=
    storeWf_writeWords _ _ soundCleared
  generalize finishNow slot .ok count (clearImage n (takenOut n s)) = u at *
  generalize takenOut n s = w at *
  obtain ⟨-, -, -, -, -, -, senders, waitList, -⟩ := answers.keeps
  have lineAfter := (answers.line n).trans lineOut
  have inactive : (u.line n).mode ≠ .active := by rw [lineAfter]; exact nofun
  have out : (u.settleMutes.line n).mode = .out := by rw [settleMutes_line, lineAfter]; rfl
  have poolEnd : PoolSound t := poolAfter.of_same
    (fun m => by rw [examined.line, answers.line]; rfl)
    (examined.keeps.2.1.trans senders) (examined.keeps.2.2.1.trans waitList)
  have lineEnd : t.line n = Line.outOfService (s.line n).raw := by
    rw [examined.line, State.muteOn_of_inactive inactive, lineAfter]
    rfl
  refine ⟨lineEnd, poolEnd.unserved (by rw [lineEnd]; exact nofun), fun i hi => ?_, examined.shows shows⟩
  have value := ShownItem.value_image_of_out out ⟨i, hi⟩
  refine (examined.peek _).trans ((settle_shows (s := s) soundAfter (.image n ⟨i, hi⟩) fun _ => ?_).trans value)
  exact ((apart i hi).trans (cleared i hi)).trans value.symm

/-- Settles O24: the line goes out with all it holds, each order of its own ending CALL-ENDED before the CLOSE's
outcome. -/
theorem closeTakesOutOfService : Obligations.CloseTakesOutOfService := by
  unfold Obligations.CloseTakesOutOfService
  intro slot n s sound pool targets ⟨due, loss⟩ line inService
  have effect : closeOrder slot (s.orderCopy slot) s =
      finishNow slot .ok (s.line n).queue.discardCount (clearImage n (takenOut n s)) :=
    (withLine_of_line line).trans (if_neg inService)
  have work : OwnerWork s
      (finishNow slot .ok (s.line n).queue.discardCount (clearImage n (takenOut n s))) :=
    ((takenOut_ownerWork n s).trans (clearImage_ownerWork n _)).trans (finishNow_ownerWork ..)
  obtain ⟨t, row, examined⟩ := examination_examined slot due effect (by rw [work.keeps.2.1]; exact loss)
  have leaves := close_leaves sound pool _ examined
  have ended {k : SlotNo} {sent : Nat} (other : k ≠ slot)
      (shows : SlotShows (takenOut n s) k slotDone .callEnded sent)
      (held : (takenOut n s).slotHeld k = false) :
      SlotShows t k slotDone .callEnded sent ∧ t.slotHeld k = false :=
    ⟨examined.shows (finishNow_shows_other (clearImage_shows shows n) other _ _),
      (examined.slotHeld k).trans ((finishNow_slotHeld ..).trans ((clearImage_slotHeld ..).trans held))⟩
  have heldOf (k : SlotNo) : (takenOut n s).slotHeld k =
      (discardQueue n (endLearn n .callEnded (fun _ => 0) s)).slotHeld k := by
    unfold State.slotHeld
    rw [takenOut_board]
  have showsOf {k : SlotNo} {w : Word} {d : Nat}
      (h : SlotShows (discardQueue n (endLearn n .callEnded (fun _ => 0) s)) k w .callEnded d) :
      SlotShows (takenOut n s) k w .callEnded d :=
    ⟨(State.peek_congr (takenOut_store n s) _).trans h.1,
      (State.peek_congr (takenOut_store n s) _).trans h.2⟩
  obtain ⟨lineEnd, unserved, image, shows⟩ := leaves
  refine ⟨t, row, lineEnd, unserved, image, shows, examined.swept_of_owner work, ?_, ?_,
    fun r order other noLearn => ?_, fun x learning none other => ?_,
    fun mute none noLearn alone => ?_, examined.form_of_owner work⟩
  · rw [examined.keeps.2.2.2.2, finishNow_order]
  · rw [examined.keeps.2.2.2.1, work.keeps.2.1]
  · obtain ⟨shows, held⟩ := discardQueue_ends sound targets order
    rw [← endLearn_of_none (code := .callEnded) (detail := fun _ => 0) noLearn] at shows held
    exact ended other (showsOf shows) ((heldOf _).trans held)
  · have pending := endLearn_of_pending (code := .callEnded) (detail := fun _ => 0) learning
    have shows := completeOrder_shows (s := s.modEstimator n Estimator.dropLearn) sound targets x.slot
      .callEnded 0
    have held := completeOrder_slotHeld x.slot .callEnded 0 (s.modEstimator n Estimator.dropLearn)
    rw [← pending] at shows held
    obtain ⟨⟨e, same⟩, -⟩ := endLearn_keeps n .callEnded (fun _ => 0) s
    obtain ⟨store, board⟩ := discardQueue_of_none
      (s := endLearn n .callEnded (fun _ => 0) s) (n := n) (by rw [same]; exact none)
    refine ended other (showsOf ⟨?_, ?_⟩) ?_
    · exact (State.peek_congr store _).trans shows.1
    · exact (State.peek_congr store _).trans shows.2
    · rw [heldOf, State.slotHeld, board]
      exact held
  · obtain ⟨senders, waitList, lines, store⟩ := takenOut_alone pool alone none noLearn
    have answers := (clearImage_answers n (takenOut n s)).trans
      (finishNow_answers slot .ok (s.line n).queue.discardCount _)
    have frame : StoreFrame s
        (finishNow slot .ok (s.line n).queue.discardCount (clearImage n (takenOut n s)))
        (outcomeRegions slot n) := fun a outside => by
      simp only [outcomeRegions, List.mem_cons, List.not_mem_nil, or_false, forall_eq_or_imp,
        forall_eq] at outside
      obtain ⟨h0, h7, hi⟩ := outside
      exact (writeOutcome_peek_other (by omega) (by omega)).trans
        ((clearImage_peek_other hi).trans (State.peek_congr store a))
    generalize finishNow slot .ok (s.line n).queue.discardCount (clearImage n (takenOut n s)) = u at *
    obtain ⟨-, -, -, -, -, -, sendersAfter, waitListAfter, -⟩ := answers.keeps
    have beside : Beside n s u := ⟨fun m hm => (answers.line m).trans (lines m hm), work.keeps.1,
      fun k => by rw [State.sender_congr (sendersAfter.trans senders)], by rw [waitListAfter, waitList]⟩
    refine ⟨examined.keeps.2.1.trans (sendersAfter.trans senders),
      examined.keeps.2.2.1.trans (waitListAfter.trans waitList),
      fun m hm => examined.line_other mute beside hm, (examined.frame mute beside frame).mono fun x hx => ?_⟩
    simp only [outcomeRegions, List.mem_cons, List.not_mem_nil, or_false] at hx ⊢
    tauto

end Sys2Proof.Machine
end

section
/-! Where a record goes: the filling page, the next free page, or the pending loss. -/

namespace Sys2Proof.Machine

variable {s t u : State} {ws : List Word} {f : Filling}

theorem State.poke_peek_same (sound : StoreSound s) {a : Nat} (v : Word) (h : a < storeSize) :
    (s.poke a v).peek a = v :=
  readWord_writeWord_same _ a v sound h

theorem State.words_append (s : State) (base a b : Nat) :
    s.words base (a + b) = s.words base a ++ s.words (base + a) b := by
  unfold State.words
  rw [List.range_add, List.map_append, List.map_map]
  simp [Function.comp_def, Nat.add_assoc]

theorem State.words_poke_other {a base length : Nat} (v : Word)
    (h : a < base ∨ base + length ≤ a) : (s.poke a v).words base length = s.words base length :=
  State.words_congr fun i hi => State.poke_peek_other v (by omega)

theorem pageAddress_high (p : Fin 24) : 0xA00 ≤ pageAddress p ∧ pageAddress p + 64 ≤ storeSize := by
  unfold pageAddress storeSize
  omega

theorem pageAddress_apart {p q : Fin 24} (h : p ≠ q) {i j : Nat} (hi : i < 64) (hj : j < 64) :
    pageAddress p + i ≠ pageAddress q + j := by
  have : p.val ≠ q.val := fun same => h (Fin.ext same)
  unfold pageAddress
  omega

theorem next_page_ne (p : Fin 24) : p + 1 ≠ p := by
  revert p
  decide

/-! ### The steps of the placing -/

theorem captureWords_of_no_loss (h : s.capture.loss = 0) : captureWords ws s = placeRecord ws s := by
  unfold captureWords
  rw [recheckLoss_of_rechecked (.inl h)]
  exact if_pos h

theorem captureWords_of_taken (h : 0 < s.capture.loss) (taken : nextPageFree s = false) :
    captureWords ws s = loseRecord s := by
  unfold captureWords
  rw [recheckLoss_of_rechecked (.inr taken)]
  exact if_neg (by omega)

theorem nextPageFree_iff : nextPageFree s = true ↔ s.peek (pageAddress s.capture.nextPage) = 0 := by
  simp [nextPageFree]

theorem nextPageFree_false_iff :
    nextPageFree s = false ↔ s.peek (pageAddress s.capture.nextPage) ≠ 0 := by
  simp [nextPageFree]

theorem recordInNextPage_of_free (h : nextPageFree s = true) : recordInNextPage ws s = openPage ws s :=
  if_pos h

theorem recordInNextPage_of_taken (h : nextPageFree s = false) :
    recordInNextPage ws s = loseRecord s :=
  if_neg (by simp [h])

theorem placeRecord_of_none (h : s.capture.filling = none) :
    placeRecord ws s = recordInNextPage ws s := by
  unfold placeRecord
  rw [h]

theorem placeRecord_of_full (h : s.capture.filling = some f) (full : 64 < f.position + ws.length) :
    placeRecord ws s = recordInNextPage ws (closePage s) := by
  unfold placeRecord
  rw [h]
  exact if_neg (by omega)

/-- The next page becomes the filling page with a record at its word 2 (R168). -/
theorem openPage_eq (ws : List Word) (s : State) :
    openPage ws s =
      { s with
        store := writeWords s.store (runWrites (pageAddress s.capture.nextPage + 2) ws)
        capture :=
          { s.capture with filling := some { position := 2 + ws.length, count := 1, age := 0 } } } :=
  rfl

theorem openPage_words (sound : StoreSound s) (short : ws.length ≤ 62) :
    (openPage ws s).words (pageAddress s.capture.nextPage + 2) ws.length = ws :=
  runWrites_words sound (by have := (pageAddress_high s.capture.nextPage).2; omega)

theorem openPage_frame (ws : List Word) (s : State) :
    StoreFrame s (openPage ws s) [(pageAddress s.capture.nextPage + 2, ws.length)] :=
  runWrites_frame _ ws s

/-- A record lost raises the pending loss, and GAP-PENDING with it (R170). -/
theorem loseRecord_of_none (h : s.capture.loss = 0) :
    loseRecord s = (s.setCapture { s.capture with loss := 1 }).poke gapPendingAddress 1 := by
  unfold loseRecord
  rw [h]
  unfold setLoss
  rw [h]
  rfl

theorem loseRecord_capture (s : State) : (loseRecord s).capture =
    { s.capture with
      loss := if s.capture.loss < 65535 then s.capture.loss + 1 else 65535 } := by
  unfold loseRecord setLoss
  split <;> rfl

/-! ### Closing a full page -/

/-- What the closing of a page writes (R169). -/
def closingWords (f : Filling) (c : Capture) : List (Nat × Word) :=
  [(pageAddress c.nextPage + 1, asWord f.position),
    (pageAddress c.nextPage, asWord (c.sequence * 256 + f.count)),
    (lastSeqAddress, asWord c.sequence), (fillPageAddress, asWord (c.nextPage + 1).val)]

theorem closePage_of_filling (h : s.capture.filling = some f) :
    closePage s =
      ((s.pokes (closingWords f s.capture)).setCapture
        { s.capture with
          filling := none, nextPage := s.capture.nextPage + 1
          sequence := nextSequence s.capture.sequence }).raisePage := by
  unfold closePage
  rw [h]
  rfl

theorem closingWords_distinct (f : Filling) (c : Capture) :
    (closingWords f c).Pairwise fun p q => p.1 ≠ q.1 := by
  have high := (pageAddress_high c.nextPage).1
  simp [closingWords, lastSeqAddress, fillPageAddress]
  omega

theorem closePage_shows (sound : StoreSound s) (h : s.capture.filling = some f) :
    (closePage s).peek (pageAddress s.capture.nextPage) =
        asWord (s.capture.sequence * 256 + f.count) ∧
      (closePage s).peek (pageAddress s.capture.nextPage + 1) = asWord f.position := by
  have high := pageAddress_high s.capture.nextPage
  have reads {a : Nat} {v : Word} (near : a < storeSize)
      (written : (a, v) ∈ closingWords f s.capture) : (closePage s).peek a = v := by
    rw [closePage_of_filling h]
    exact readWord_writeWords_of_mem sound near (closingWords_distinct f s.capture) written
  exact ⟨reads (by omega) (by simp [closingWords]), reads (by omega) (by simp [closingWords])⟩

theorem closePage_peek_page {p : Fin 24} (h : p ≠ s.capture.nextPage) {i : Nat} (hi : i < 64) :
    (closePage s).peek (pageAddress p + i) = s.peek (pageAddress p + i) := by
  cases filling : s.capture.filling with
  | none => unfold closePage; rw [filling]
  | some f =>
    rw [closePage_of_filling filling]
    refine State.pokes_peek_other fun q hq => ?_
    have high := (pageAddress_high p).1
    simp only [closingWords, List.mem_cons, List.not_mem_nil, or_false] at hq
    obtain rfl | rfl | rfl | rfl := hq
    · exact pageAddress_apart h hi (by decide)
    · exact pageAddress_apart h hi (j := 0) (by decide)
    · unfold lastSeqAddress; omega
    · unfold fillPageAddress; omega

theorem recordInNextPage_peek_page {p : Fin 24} (h : p ≠ s.capture.nextPage) {i : Nat} (hi : i < 64)
    (short : ws.length ≤ 62) :
    (recordInNextPage ws s).peek (pageAddress p + i) = s.peek (pageAddress p + i) := by
  have high := (pageAddress_high p).1
  cases free : nextPageFree s with
  | true =>
    rw [recordInNextPage_of_free free]
    refine openPage_frame ws s _ ?_
    simp only [List.mem_singleton, forall_eq]
    have := fun j (hj : j < 64) => pageAddress_apart h hi hj
    by_contra inside
    exact this (pageAddress p + i - pageAddress s.capture.nextPage) (by omega) (by omega)
  | false =>
    rw [recordInNextPage_of_taken free]
    unfold loseRecord setLoss
    split
    · rfl
    · exact State.poke_peek_other _ (by unfold gapPendingAddress; omega)

theorem recordInNextPage_nextPage (ws : List Word) (s : State) :
    (recordInNextPage ws s).capture.nextPage = s.capture.nextPage := by
  unfold recordInNextPage
  split
  · rfl
  · rw [loseRecord_capture]

theorem recordInNextPage_causes (ws : List Word) (s : State) :
    (recordInNextPage ws s).causes = s.causes := by
  unfold recordInNextPage
  split
  · rfl
  · unfold loseRecord setLoss; split <;> rfl

/-! ### The GAP record -/

/-- A pending loss before a free page: the page is opened with a GAP record that counts the loss (R171). -/
theorem recordWords_gap (time : Tick) (w : Word) :
    recordWords .gap 0 time [w] = [0x8300, time, w] := by
  simp [recordWords, recordValue, asWord]

theorem setLoss_of_change {loss : Nat} (h : loss ≠ s.capture.loss) :
    setLoss loss s =
      (s.setCapture { s.capture with loss := loss }).poke gapPendingAddress (asWord loss) :=
  if_neg h

theorem openPage_capture (ws : List Word) (s : State) : (openPage ws s).capture =
    { s.capture with filling := some { position := 2 + ws.length, count := 1, age := 0 } } := rfl

theorem recheckLoss_of_free (h : 0 < s.capture.loss) (free : nextPageFree s = true) :
    recheckLoss s =
      (openPage [0x8300, s.clock, asWord s.capture.loss] s |>.setCapture
        { s.capture with
          filling := some { position := 5, count := 1, age := 0 }, loss := 0 }).poke
        gapPendingAddress 0 := by
  unfold recheckLoss
  rw [if_neg (by omega), if_pos free, recordWords_gap, setLoss_of_change, openPage_capture]
  · rfl
  · rw [openPage_capture]; exact Nat.ne_of_lt h

theorem recheckLoss_gap (sound : StoreSound s) (h : 0 < s.capture.loss) (free : nextPageFree s = true) :
    (recheckLoss s).words (pageAddress s.capture.nextPage + 2) 3 =
        [0x8300, s.clock, asWord s.capture.loss] ∧
      (recheckLoss s).peek gapPendingAddress = 0 ∧
      StoreFrame s (recheckLoss s)
        [(pageAddress s.capture.nextPage + 2, 3), (gapPendingAddress, 1)] ∧
      StoreSound (recheckLoss s) := by
  have high := (pageAddress_high s.capture.nextPage).1
  rw [recheckLoss_of_free h free]
  have written : StoreSound ((openPage [0x8300, s.clock, asWord s.capture.loss] s).setCapture
      { s.capture with filling := some { position := 5, count := 1, age := 0 }, loss := 0 }) :=
    storeWf_writeWords _ _ sound
  have opened := (openPage_frame [0x8300, s.clock, asWord s.capture.loss] s).trans
    (StoreFrame.of_poke _ gapPendingAddress 0)
  refine ⟨?_, State.poke_peek_same written 0 (by decide), opened,
    storeWf_writeWord _ gapPendingAddress 0 written⟩
  exact (State.words_poke_other (a := gapPendingAddress) 0 (by unfold gapPendingAddress; omega)).trans
    (openPage_words (ws := [0x8300, s.clock, asWord s.capture.loss]) sound (Nat.le_add_left 3 59))

theorem recheckLoss_form (h : 0 < s.capture.loss) (free : nextPageFree s = true) :
    recheckLoss s =
      { s with
        store := (recheckLoss s).store
        capture := { s.capture with
          filling := some { position := 5, count := 1, age := 0 }, loss := 0 } } := by
  rw [recheckLoss_of_free h free]
  rfl

/-- Settles O50, step by step of the placing: the filling page, the next page behind a closing or without one,
the loss, and the GAP record that ends it. -/
theorem recordIsPlacedOrLost : Obligations.RecordIsPlacedOrLost := by
  unfold Obligations.RecordIsPlacedOrLost
  refine ⟨fun ws s sound long short noLoss => ?_, fun ws s sound long short loss => ?_⟩
  · intro t
    refine ⟨fun f filling fits => ?_, fun none free => ?_, fun none taken => ?_, fun f filling full => ?_⟩
    · have goes : RecordGoesTo s ws.length (pageAddress s.capture.nextPage + f.position) :=
        ⟨noLoss, f, filling, fits, rfl⟩
      have placed := captureWords_fits ws s f noLoss filling fits
      refine ⟨captureWords_words sound goes, ?_, captureWords_frame goes, ?_⟩
      · exact (congrArg State.capture placed :)
      · exact (congrArg State.causes placed :)
    · have same : t = openPage ws s := by
        rw [show t = captureWords ws s from rfl, captureWords_of_no_loss noLoss, placeRecord_of_none none,
          recordInNextPage_of_free (nextPageFree_iff.mpr free)]
      rw [same]
      exact ⟨openPage_words sound (by omega), rfl, openPage_frame ws s, rfl⟩
    · have same : t = (s.setCapture { s.capture with loss := 1 }).poke gapPendingAddress 1 := by
        rw [show t = captureWords ws s from rfl, captureWords_of_no_loss noLoss, placeRecord_of_none none,
          recordInNextPage_of_taken (nextPageFree_false_iff.mpr taken), loseRecord_of_none noLoss]
      rw [same]
      exact ⟨rfl, State.poke_peek_same (s := s.setCapture { s.capture with loss := 1 }) sound 1 (by decide),
        StoreFrame.of_poke s _ _, rfl⟩
    · have same : t = recordInNextPage ws (closePage s) := by
        rw [show t = captureWords ws s from rfl, captureWords_of_no_loss noLoss,
          placeRecord_of_full filling full]
      have closed := closePage_of_filling filling
      have next : (closePage s).capture.nextPage = s.capture.nextPage + 1 := by rw [closed]; rfl
      have closedLoss : (closePage s).capture.loss = 0 := by rw [closed]; exact noLoss
      have closedSound : StoreSound (closePage s) := by rw [closed]; exact storeWf_writeWords _ _ sound
      have apart : s.capture.nextPage ≠ (closePage s).capture.nextPage := by
        rw [next]; exact (next_page_ne _).symm
      have free (h : s.peek (pageAddress (s.capture.nextPage + 1)) = 0) : nextPageFree (closePage s) = true := by
        rw [nextPageFree_iff, next, ← h]
        exact closePage_peek_page (i := 0) (next_page_ne _) (by decide)
      have taken (h : s.peek (pageAddress (s.capture.nextPage + 1)) ≠ 0) :
          nextPageFree (closePage s) = false := by
        rw [nextPageFree_false_iff, next]
        exact (closePage_peek_page (i := 0) (next_page_ne _) (by decide)).symm ▸ h
      obtain ⟨mark, used⟩ := closePage_shows sound filling
      rw [same]
      refine ⟨(recordInNextPage_nextPage ws _).trans next, ?_, ?_, ?_, fun h => ?_, fun h => ?_⟩
      · rw [recordInNextPage_causes, closed]; rfl
      · exact (recordInNextPage_peek_page apart (i := 0) (by decide) (by omega)).trans mark
      · exact (recordInNextPage_peek_page apart (by decide) (by omega)).trans used
      · rw [recordInNextPage_of_free (free h), ← next]
        exact ⟨openPage_words closedSound (by omega), rfl⟩
      · rw [recordInNextPage_of_taken (taken h), loseRecord_of_none closedLoss]
        exact ⟨closePage_filling s, rfl⟩
  · intro t
    refine ⟨fun h => ?_, fun h => ?_⟩
    · have free := nextPageFree_iff.mpr h
      obtain ⟨gap, pending, -, soundGap⟩ := recheckLoss_gap sound loss free
      have form := recheckLoss_form loss free
      have high := (pageAddress_high s.capture.nextPage).1
      have goes : RecordGoesTo (recheckLoss s) ws.length (pageAddress s.capture.nextPage + 5) := by
        rw [form]
        exact ⟨rfl, _, rfl, by dsimp only; omega, rfl⟩
      have same : t = captureWords ws (recheckLoss s) := by
        rw [captureWords_of_no_loss (by rw [form])]
        unfold t captureWords
        exact if_pos (by rw [form])
      rw [same]
      have frame := captureWords_frame goes
      refine ⟨?_, ?_, ?_⟩
      · have behind := captureWords_words soundGap goes
        have before := frame.words (base := pageAddress s.capture.nextPage + 2) (length := 3) (by simp)
        rw [State.words_append, before, gap]
        exact congrArg _ behind
      · exact (frame _ (by simp only [List.mem_singleton, forall_eq]; omega)).trans pending
      · rw [captureWords_goes goes, form]
        exact congrArg (fun p => { s.capture with
          filling := some { position := p, count := 2, age := 0 }, loss := 0 }) rfl
    · have same : t = loseRecord s := captureWords_of_taken loss (nextPageFree_false_iff.mpr h)
      rw [same]
      exact loseRecord_capture s

end Sys2Proof.Machine
end

section
/-! The sweep: slot after slot, and its end. -/

namespace Sys2Proof.Machine

variable {s t u v : State} {n m : LineNo} {slot j : SlotNo} {row : Instr} {f : State → State}

/-! ### The order of the slots -/

theorem slots_from (slot : SlotNo) :
    ((List.finRange 16).filter fun j => decide (slot.val ≤ j.val)) =
      slot :: (List.finRange 16).filter fun j => decide (slot.val + 1 ≤ j.val) := by
  revert slot
  decide

theorem sweepThrough_eq (k : Nat) (s : State) :
    sweepThrough k s =
      ((List.finRange 16).filter fun j => decide (k ≤ j.val)).foldl (fun s j => sweepOne j s) s := by
  rw [List.foldl_filter]
  simp only [decide_eq_true_eq]
  rfl

/-- A sweep takes its slot, and then goes on from the next (R156). -/
theorem sweepThrough_slot (slot : SlotNo) (s : State) :
    sweepThrough slot.val s = sweepThrough (slot.val + 1) (sweepOne slot s) := by
  rw [sweepThrough_eq, slots_from, List.foldl_cons, ← sweepThrough_eq]

theorem sweepThrough_end (s : State) : sweepThrough 16 s = s := by
  rw [sweepThrough_eq]
  rfl

theorem exec_sweep {k : Nat} (ready : s.ready = true) (at' : s.board.sweepAt = some k) :
    exec .sweep s = .next (sweepThrough k s) := by
  change execSweep s = _
  unfold execSweep occurs
  rw [at', ready]
  rfl

theorem sweepReaches_at (ready : s.ready = true) (at' : s.board.sweepAt = some slot.val) :
    sweepReaches slot s = true := by
  simp only [sweepReaches, at', ready, le_refl, decide_true, Bool.and_self, Bool.true_and,
    List.all_eq_true, Bool.not_eq_true', Bool.and_eq_false_iff, decide_eq_false_iff_not]
  intro j _
  exact .inl (by omega)

theorem sweepPast_before_last (h : slot.val < 15) :
    sweepPast slot s = s.setSweep (some (slot.val + 1)) s.board.sweepHeld := by
  unfold sweepPast
  rw [if_neg (by omega)]

/-- A row that does what the sweep does at its slot takes the slot. -/
theorem takesSlot_of_sweepOne (ready : s.ready = true) (at' : s.board.sweepAt = some slot.val)
    (hrow : exec row s = .next (sweepOne slot s)) : TakesSlot slot row s := by
  have sweep := exec_sweep ready at'
  rw [sweepThrough_slot] at sweep
  unfold TakesSlot
  split
  next last =>
    rw [sweep, hrow, last, sweepThrough_end]
  next before =>
    have past : slot.val < 15 := by omega
    have readyAfter : (sweepOne slot s).ready = s.ready := (sweepOne_work slot s).keeps.2.1
    have sweepAt : (sweepOne slot s).board.sweepAt = some (slot.val + 1) := by
      unfold sweepOne examined
      split <;> rw [sweepPast_before_last past] <;> rfl
    exact ⟨_, hrow, sweepAt, sweep.trans (exec_sweep (readyAfter.trans ready) sweepAt).symm⟩

theorem slotActs_of_posted (h : slotIsPosted slot s = true) : slotActs slot s = true := by
  simp [slotActs, h]

theorem slotActs_of_withdrawn (h : slotIsWithdrawn slot s = true) : slotActs slot s = true := by
  simp [slotActs, h]

/-- The row of what stands in a slot does what the sweep does there. -/
theorem examination_is_sweepOne {due : Bool} (acts : slotActs slot s = true) (hdue : due = true)
    (effect : f s = examineSlot slot s) : examination slot due f s = .next (sweepOne slot s) := by
  rw [examination_of_due hdue]
  unfold sweepOne examined event
  rw [acts, effect]
  rfl

theorem examineSlot_of_posted (h : slotIsPosted slot s = true) :
    examineSlot slot s = postedOrder slot s := by
  unfold examineSlot
  rw [if_pos h]

theorem examineSlot_of_withdrawn (h : slotIsWithdrawn slot s = true) :
    examineSlot slot s = withdrawOrder slot s := by
  have held : slotIsPosted slot s = false := by
    simp only [slotIsWithdrawn, Bool.and_eq_true] at h
    simp [slotIsPosted, h.1]
  unfold examineSlot
  rw [held, h]
  rfl

theorem postedOrder_unknown (h : (s.orderCopy slot).kind = 0 ∨ 9 < (s.orderCopy slot).kind) :
    postedOrder slot s = unknownOrder slot s := by
  unfold postedOrder
  dsimp only
  split
  case h_10 => rfl
  all_goals omega

/-- A slot in which nothing acts is passed by any order row at it (log 8). -/
theorem examination_passes {due : Bool} (reached : sweepReaches slot s = true)
    (still : slotActs slot s = false) (hdue : due = true → slotActs slot s = true) :
    examination slot due f s = .next (sweepOne slot s) := by
  cases due with
  | true => rw [hdue rfl] at still; cases still
  | false =>
    unfold examination occurs sweepOne
    rw [reached, still]
    rfl

theorem orderDue_acts {kind : Nat} (h : orderDue kind slot s = true) : slotActs slot s = true :=
  slotActs_of_posted ((orderDue_iff kind).mp h).2.1

/-! ### The rows of a sweep -/

/-- The sweep stands at the slot. -/
abbrev State.SweepsAt (s : State) (slot : SlotNo) : Prop :=
  s.ready = true ∧ s.board.sweepAt = some slot.val

/-- The row of the order posted in the slot takes it. -/
theorem orderRow_takes {kind : Nat} (at' : s.SweepsAt slot) (posted : slotIsPosted slot s = true)
    (isKind : (s.orderCopy slot).kind = kind)
    (hrow : exec row s = examination slot (orderDue kind slot s) f s)
    (effect : f s = postedOrder slot s) : TakesSlot slot row s :=
  takesSlot_of_sweepOne at'.1 at'.2 <| hrow.trans <|
    examination_is_sweepOne (slotActs_of_posted posted)
      ((orderDue_iff kind).mpr ⟨sweepReaches_at at'.1 at'.2, posted, isKind⟩)
      (effect.trans (examineSlot_of_posted posted).symm)

/-- Whatever order row is put to a slot in which nothing acts, the sweep passes the slot (log 8). -/
theorem idleRow_takes {due : Bool} (at' : s.SweepsAt slot) (still : slotActs slot s = false)
    (hrow : exec row s = examination slot due f s) (hdue : due = true → slotActs slot s = true) :
    TakesSlot slot row s ∧
      (slot.val < 15 →
        exec row s = .next { s with board := { s.board with sweepAt := some (slot.val + 1) } }) := by
  have passes := hrow.trans (examination_passes (sweepReaches_at at'.1 at'.2) still hdue)
  refine ⟨takesSlot_of_sweepOne at'.1 at'.2 passes, fun before => ?_⟩
  rw [passes]
  unfold sweepOne
  rw [still, if_neg Bool.false_ne_true, sweepPast_before_last before]
  rfl

theorem unknownDue_acts
    (h : (sweepReaches slot s && slotIsPosted slot s &&
      (decide ((s.orderCopy slot).kind = 0) || decide (9 < (s.orderCopy slot).kind))) = true) :
    slotActs slot s = true := by
  simp only [Bool.and_eq_true] at h
  exact slotActs_of_posted h.1.2

/-! ### The end of a sweep -/

/-- The order unit at the end of a sweep: a held request begins one further sweep (R156). -/
def sweptEnd (b : OrderBoard) : OrderBoard :=
  { b with sweepAt := if b.sweepHeld then some 0 else none, sweepHeld := false }

/-- The sweep passes the slots in which nothing acts (R156, R157). -/
theorem sweepThrough_pass (k : Nat) (slot : SlotNo) (s : State) (before : k ≤ slot.val)
    (sweepAt : s.board.sweepAt = some k)
    (still : ∀ j : SlotNo, k ≤ j.val → j.val < slot.val → slotActs j s = false) :
    sweepThrough k s = sweepThrough slot.val (s.setSweep (some slot.val) s.board.sweepHeld) := by
  obtain ⟨left, hleft⟩ := Nat.exists_eq_add_of_le before
  induction left generalizing k s with
  | zero =>
    have same : s.setSweep (some slot.val) s.board.sweepHeld = s := by
      rw [hleft, Nat.add_zero, ← sweepAt]; rfl
    rw [same, hleft, Nat.add_zero]
  | succ left ih =>
    have passes := sweepThrough_slot ⟨k, by omega⟩ s
    dsimp only at passes
    rw [passes]
    unfold sweepOne
    rw [still ⟨k, by omega⟩ le_rfl (by dsimp only; omega), if_neg Bool.false_ne_true,
      sweepPast_before_last (by dsimp only; omega)]
    exact ih (k + 1) _ (by omega) rfl (fun j later => still j (by omega)) (by omega)

theorem exec_sweep_still (ready : s.ready = true) (sweepAt : s.board.sweepAt = some slot.val)
    (still : ∀ j : SlotNo, slot.val ≤ j.val → slotActs j s = false) :
    exec .sweep s = .next (event endSweep (s.setSweep (some 15) s.board.sweepHeld)) := by
  rw [exec_sweep ready sweepAt,
    sweepThrough_pass slot.val 15 s (by omega) sweepAt fun j later _ => still j later,
    sweepThrough_slot, show (15 : SlotNo).val + 1 = 16 from rfl, sweepThrough_end]
  unfold sweepOne sweepPast
  rw [show slotActs 15 (s.setSweep (some (15 : SlotNo).val) s.board.sweepHeld) = false from
    still 15 (by omega)]
  rfl

theorem endSweep_still (mute : MuteSound s) (h : Rechecked s) :
    event endSweep (s.setSweep (some 15) s.board.sweepHeld) =
      { s with board := sweptEnd s.board } := by
  have rechecked : Rechecked (s.setSweep (some 15) s.board.sweepHeld) := h
  unfold event
  rw [endSweep_of_rechecked rechecked]
  exact settle_of_same mute rfl rfl (fun _ => rfl) rfl

/-- The loss that the end of the sweep re-checks, before a free page (R171). -/
theorem endSweep_gap (sound : StoreSound s) (mute : MuteSound s) (loss : 0 < s.capture.loss)
    (free : nextPageFree s = true) :
    ∃ t, event endSweep (s.setSweep (some 15) s.board.sweepHeld) = t ∧
      t.words (pageAddress s.capture.nextPage + 2) 3 = [0x8300, s.clock, asWord s.capture.loss] ∧
      t.peek gapPendingAddress = 0 ∧
      StoreFrame s t [(pageAddress s.capture.nextPage + 2, 3), (gapPendingAddress, 1)] ∧
      t = { s with
        board := sweptEnd s.board, store := t.store
        capture := { s.capture with
          filling := some { position := 5, count := 1, age := 0 }, loss := 0 } } := by
  have form := recheckLoss_form (s := s.setSweep (some 15) s.board.sweepHeld) loss free
  obtain ⟨gap, pending, frame, -⟩ :=
    recheckLoss_gap (s := s.setSweep (some 15) s.board.sweepHeld) sound loss free
  have ended : endSweep (s.setSweep (some 15) s.board.sweepHeld) =
      { s with
        board := sweptEnd s.board
        store := (recheckLoss (s.setSweep (some 15) s.board.sweepHeld)).store
        capture := { s.capture with
          filling := some { position := 5, count := 1, age := 0 }, loss := 0 } } := by
    unfold endSweep
    rw [form]
    rfl
  have settled : event endSweep (s.setSweep (some 15) s.board.sweepHeld) =
      endSweep (s.setSweep (some 15) s.board.sweepHeld) := by
    unfold event
    rw [ended]
    exact settle_of_same mute rfl rfl (fun _ => rfl) rfl
  refine ⟨_, rfl, ?_⟩
  rw [settled, ended]
  exact ⟨gap, pending, frame, rfl⟩

/-! ### An unknown kind, and the end behind it -/

theorem slotActs_congr {j : SlotNo} (held : s.board.accepted = t.board.accepted)
    (word : t.peek (slotAddress j) = s.peek (slotAddress j)) : slotActs j t = slotActs j s := by
  unfold slotActs slotIsPosted slotIsWithdrawn State.slotHeld State.slotState
  rw [held, word]

theorem sweepReaches_iff : sweepReaches slot s = true ↔
    ∃ k, s.ready = true ∧ s.board.sweepAt = some k ∧ k ≤ slot.val ∧
      ∀ j : SlotNo, k ≤ j.val → j.val < slot.val → slotActs j s = false := by
  unfold sweepReaches
  cases h : s.board.sweepAt with
  | none => simp
  | some k => simp [and_assoc, or_iff_not_imp_left]

/-- Behind a refused order the sweep passes to its end. -/
theorem behind_refusal (mute : MuteSound s) (loss : s.capture.loss = 0) (ready : s.ready = true)
    (still : ∀ j : SlotNo, slot.val < j.val → slotActs j s = false)
    (swept : SweptPast slot (s.setSweep (some slot.val) s.board.sweepHeld) t)
    (accepted : t.board.accepted = s.board.accepted)
    (frame : StoreFrame s t [(slotAddress slot, 1), (slotAddress slot + 7, 1)])
    (form : t = { s with
      store := t.store, board := t.board, causes := { s.causes with order := true } }) :
    sweepThrough (slot.val + 1) t = { t with board := sweptEnd s.board } := by
  have muteAfter : MuteSound t := mute.of_lines (by rw [form]) fun k => by rw [form]; rfl
  unfold SweptPast at swept
  split at swept
  next last =>
    obtain ⟨sweepAt, held⟩ := swept
    have board : t.board = sweptEnd s.board := by
      unfold sweptEnd
      rw [← accepted]
      exact congrArg₂ (OrderBoard.mk _) sweepAt held
    rw [last, sweepThrough_end, ← board]
  next before =>
    obtain ⟨sweepAt, held⟩ := swept
    have board : sweptEnd t.board = sweptEnd s.board := by
      unfold sweptEnd
      rw [← accepted, held]
      rfl
    have readyAfter : t.ready = true := by rw [form]; exact ready
    have stillAfter (j : SlotNo) (later : slot.val + 1 ≤ j.val) : slotActs j t = false := by
      have apart := slotAddress_apart (j := j) (k := slot) (Fin.ne_of_val_ne (by omega))
      have word : t.peek (slotAddress j) = s.peek (slotAddress j) := frame _ <| by
        simp only [List.mem_cons, List.not_mem_nil, or_false, forall_eq_or_imp, forall_eq]
        omega
      rw [slotActs_congr accepted.symm word]
      exact still j later
    have ends := exec_sweep readyAfter sweepAt
    rw [exec_sweep_still (slot := ⟨slot.val + 1, by omega⟩) readyAfter sweepAt stillAfter,
      endSweep_still muteAfter (.inl (by rw [form]; exact loss)), board] at ends
    exact (Host.Outcome.next.inj ends).symm

/-- Settles O22: each row does what the sweep does at its slot; behind the last slot that acts the sweep passes
to its end, which re-checks the loss. -/
theorem sweepExaminesAndEnds : Obligations.SweepExaminesAndEnds := by
  unfold Obligations.SweepExaminesAndEnds
  refine ⟨fun s slot ready sweepAt => ⟨fun posted => ⟨?_, fun unknown => ?_⟩, fun withdrawn => ?_,
    fun still => ?_⟩, ?_, ?_⟩
  · have takes {kind : Nat} {row : Instr} {f : State → State} := orderRow_takes (kind := kind) (row := row)
      (f := f) ⟨ready, sweepAt⟩ posted
    simp only [List.mem_cons, List.not_mem_nil, or_false, forall_eq_or_imp, forall_eq]
    refine ⟨?_, ?_, ?_, ?_, ?_, ?_, ?_, ?_, ?_⟩ <;>
      exact fun h => takes h rfl (by simp only [postedOrder, h])
  · refine takesSlot_of_sweepOne ready sweepAt <|
      examination_is_sweepOne (slotActs_of_posted posted) ?_
        ((postedOrder_unknown unknown).symm.trans (examineSlot_of_posted posted).symm)
    simpa [sweepReaches_at ready sweepAt, posted] using unknown
  · refine takesSlot_of_sweepOne ready sweepAt <|
      examination_is_sweepOne (slotActs_of_withdrawn withdrawn) ?_
        (examineSlot_of_withdrawn withdrawn).symm
    rw [sweepReaches_at ready sweepAt, withdrawn, Bool.and_self]
  · have idle {row : Instr} {due : Bool} {f : State → State} := idleRow_takes (row := row) (due := due)
      (f := f) ⟨ready, sweepAt⟩ still
    simp only [List.mem_cons, List.not_mem_nil, or_false, forall_eq_or_imp, forall_eq]
    exact ⟨idle rfl orderDue_acts, idle rfl orderDue_acts, idle rfl orderDue_acts, idle rfl orderDue_acts,
      idle rfl orderDue_acts, idle rfl orderDue_acts, idle rfl orderDue_acts, idle rfl orderDue_acts,
      idle rfl orderDue_acts, idle rfl unknownDue_acts,
      idle rfl fun due => slotActs_of_withdrawn (Bool.and_eq_true _ _ ▸ due).2⟩
  · intro s k sound mute ready sweepAt still
    have ends := exec_sweep_still ready sweepAt still
    refine ⟨fun h => ?_, fun loss h => ?_⟩
    · rw [ends, endSweep_still mute (h.imp_right nextPageFree_false_iff.mpr)]
      rfl
    · obtain ⟨t, ended, shows⟩ := endSweep_gap sound mute loss (nextPageFree_iff.mpr h)
      exact ⟨t, ends.trans (congrArg _ ended), shows⟩
  · intro s slot sound mute ⟨due, loss⟩ still
    obtain ⟨k, ready, sweepAt, before, passed⟩ := sweepReaches_iff.mp (orderDue_iff 0 |>.mp due).1
    obtain ⟨-, posted, isKind⟩ := (orderDue_iff 0).mp due
    have acts : slotActs slot (s.setSweep (some slot.val) s.board.sweepHeld) = true :=
      slotActs_of_posted posted
    have effect : examineSlot slot (s.setSweep (some slot.val) s.board.sweepHeld) =
        refuse slot .unknownKind 0 (s.setSweep (some slot.val) s.board.sweepHeld) :=
      (examineSlot_of_posted (s := s.setSweep (some slot.val) s.board.sweepHeld) posted).trans
        (postedOrder_unknown (.inl isKind))
    obtain ⟨shows, swept, accepted, frame, form⟩ :=
      examined_refuses (s := s.setSweep (some slot.val) s.board.sweepHeld) sound mute loss effect
    have one : sweepOne slot (s.setSweep (some slot.val) s.board.sweepHeld) =
        examined slot (examineSlot slot) (s.setSweep (some slot.val) s.board.sweepHeld) := by
      unfold sweepOne
      rw [acts, if_pos rfl]
    have runs : exec .sweep s = .next (sweepThrough (slot.val + 1)
        (examined slot (examineSlot slot) (s.setSweep (some slot.val) s.board.sweepHeld))) := by
      rw [exec_sweep ready sweepAt, sweepThrough_pass k slot s before sweepAt passed, sweepThrough_slot, one]
    generalize examined slot (examineSlot slot) (s.setSweep (some slot.val) s.board.sweepHeld) = t
      at shows swept accepted frame form runs
    have same : t = { s with
        store := t.store, board := t.board, causes := { s.causes with order := true } } := form
    have settled := behind_refusal (s := s) mute loss ready still swept accepted frame same
    exact ⟨_, runs.trans (congrArg _ settled), shows, rfl, frame,
      congrArg (fun x : State => { x with board := sweptEnd s.board }) same⟩

end Sys2Proof.Machine
end

section
/-! The host port: what its writes do, and how the registers read (R177 to R180). -/

namespace Sys2Proof.Machine

variable {s : State}

/-! ### The bits of a register -/

/-- A word given by its bits 0 to 4 and bit 15, as STATUS and CONTROL are laid out (R179). -/
def flagsWord (b0 b1 b2 b3 b4 b15 : Bool) : Word :=
  asWord (b0.toNat + (b1.toNat * 2 + b2.toNat * 4 + b3.toNat * 8 + b4.toNat * 16) + b15.toNat * 32768)

/-- The bits of such a word, from bit 0 on. -/
def flagsBits (b0 b1 b2 b3 b4 b15 : Bool) : List Bool :=
  [b0, b1, b2, b3, b4] ++ List.replicate 10 false ++ [b15]

theorem flagsWord_getLsbD (b0 b1 b2 b3 b4 b15 : Bool) (i : Nat) :
    (flagsWord b0 b1 b2 b3 b4 b15).getLsbD i = (flagsBits b0 b1 b2 b3 b4 b15).getD i false := by
  by_cases small : i < 16
  · exact (by decide +kernel : ∀ (b0 b1 b2 b3 b4 b15 : Bool) (i : Fin 16),
      (flagsWord b0 b1 b2 b3 b4 b15).getLsbD i = (flagsBits b0 b1 b2 b3 b4 b15).getD i false)
      b0 b1 b2 b3 b4 b15 ⟨i, small⟩
  · rw [BitVec.getLsbD_of_ge _ _ (by omega)]
    exact (List.getD_eq_default _ _ (by simp [flagsBits]; omega)).symm

theorem statusWord_eq (s : State) : s.statusWord =
    flagsWord false s.causes.page s.causes.fault s.causes.mark s.causes.order s.ready := by
  simp [State.statusWord, flagsWord, causeBits]

theorem controlWord_eq (s : State) : s.controlWord =
    flagsWord s.control.sendHold s.control.mask.page s.control.mask.fault s.control.mask.mark
      s.control.mask.order false := by
  simp [State.controlWord, flagsWord, causeBits]

/-! ### Reads and writes of an address -/

theorem hostRead_register {a : Nat} (ready : s.ready = true) (register : 0x1000 < a) :
    hostRead a s =
      if a = 0x1001 then s.controlWord else if a = 0x1002 then s.statusWord
      else if a = 0x1004 then s.clock else 0 := by
  unfold hostRead
  rw [if_neg (by omega), ready, if_neg (by simp), if_neg (by omega)]

theorem hostRead_store {a : Nat} (ready : s.ready = true) (store : a < 0x1000) :
    hostRead a s = s.peek a := by
  unfold hostRead
  rw [if_neg (by omega), ready, if_neg (by simp), if_pos store]

theorem hostWrite_store {a : Nat} (v : Word) (ready : s.ready = true) (store : a < 0x1000) :
    hostWrite a v s = s.poke a v := by
  unfold hostWrite
  rw [ready, if_neg (by simp), if_pos store]

theorem hostWrite_register {a : Nat} (v : Word) (ready : s.ready = true) (register : 0x1000 ≤ a) :
    hostWrite a v s =
      if a = 0x1001 then writeControl v s else if a = 0x1002 then writeStatus v s
      else if a = 0x1003 then requestSweep s else s := by
  unfold hostWrite
  rw [ready, if_neg (by simp), if_neg (by omega)]

/-- Settles O37: a write by the address it goes to, a read by the bits of the register. -/
theorem hostWritesAndRegistersAsLaidOut : Obligations.HostWritesAndRegistersAsLaidOut := by
  unfold Obligations.HostWritesAndRegistersAsLaidOut
  refine ⟨fun a v s sound ready => ?_, fun a v s wf => ?_, fun v s ready => ?_, fun v s ready => ?_,
    fun s ready => ?_, fun s => ?_⟩
  · have store : a.toNat < 0x1000 := a.isLt
    have written := State.poke_peek_same sound v store
    exact ⟨_, congrArg Host.Outcome.next (hostWrite_store v ready store), written,
      (hostRead_store (s := s.poke a.toNat v) ready store).trans written,
      fun b other => State.poke_peek_other v other, rfl⟩
  · refine congrArg Host.Outcome.next ?_
    have register : a.toNat = 0x1000 ∨ 0x1004 ≤ a.toNat := by
      simp only [Instr.wellFormed, ignoredAddress, Bool.or_eq_true, beq_iff_eq, decide_eq_true_eq] at wf
      obtain (rfl | rfl) | far := wf
      · exact .inl rfl
      · exact .inr le_rfl
      · exact .inr (by omega)
    cases ready : s.ready with
    | false => unfold hostWrite; rw [ready]; rfl
    | true =>
      rw [hostWrite_register v ready (by omega), if_neg (by omega), if_neg (by omega), if_neg (by omega)]
  · exact congrArg Host.Outcome.next (hostWrite_register v ready (by decide))
  · refine congrArg Host.Outcome.next ((hostWrite_register v ready (by decide)).trans ?_)
    change requestSweep s = _
    unfold requestSweep
    cases h : s.board.sweepAt <;> simp [State.setSweep, h]
  · refine ⟨rfl, hostRead_register ready (by decide), hostRead_register ready (by decide),
      fun a far => ?_, fun i => ?_, fun i => ?_⟩
    · rw [hostRead_register ready (by omega), if_neg (by omega), if_neg (by omega), if_neg (by omega)]
    · rw [show hostRead 0x1002 s = s.statusWord from hostRead_register ready (by decide), statusWord_eq,
        flagsWord_getLsbD, ready]
      by_cases small : i < 16
      · interval_cases i <;> rfl
      · obtain ⟨j, rfl⟩ := Nat.exists_eq_add_of_le (Nat.le_of_not_lt small)
        rw [Nat.add_comm]
        rfl
    · rw [show hostRead 0x1001 s = s.controlWord from hostRead_register ready (by decide), controlWord_eq,
        flagsWord_getLsbD]
      by_cases small : i < 16
      · interval_cases i <;> rfl
      · obtain ⟨j, rfl⟩ := Nat.exists_eq_add_of_le (Nat.le_of_not_lt small)
        rw [Nat.add_comm]
        rfl
  · simp [State.attn, or_assoc]

end Sys2Proof.Machine
end

section
/-! CONTROL writes, and the sending that the clearing of SEND-HOLD starts (R134, R135, R179). -/

namespace Sys2Proof.Machine

variable {s t u : State} {n m : LineNo} {k : SenderNo} {e : Entry} {rest : List Entry}

/-! ### Sending under the pool's laws -/

/-- No FREE sender stands while a request waits. -/
def State.Saturated (s : State) : Prop := s.freeSender = none ∨ s.waitList = []

/-- Grants and head examinations from one state to another: the laws and SEND-HOLD stand, a bound sender plays on,
and a request leaves the list to a sender alone. -/
structure SendsOn (s t : State) : Prop where
  sends : Sends s t
  pool : PoolSound s → PoolSound t
  bound : ∀ k, (s.sender k).isSome = true → t.sender k = s.sender k
  asks : PoolSound s → ∀ r ∈ s.waitList, r ∈ t.waitList ∨ ∃ k, ∃ b ∈ t.sender k, b.line = r.line
  saturated : PoolSound s → s.sendHold = false → s.Saturated → t.Saturated

theorem SendsOn.sendHold (h : SendsOn s t) : t.sendHold = s.sendHold := by
  obtain ⟨-, -, -, -, -, -, -, -, control, -⟩ := h.sends.keeps
  unfold State.sendHold
  rw [control]

theorem SendsOn.refl (s : State) : SendsOn s s :=
  ⟨.refl s, id, fun _ _ => rfl, fun _ _ => .inl, fun _ _ => id⟩

theorem SendsOn.trans (h : SendsOn s t) (g : SendsOn t u) : SendsOn s u where
  sends := h.sends.trans g.sends
  pool := g.pool ∘ h.pool
  bound k some := (g.bound k (by rw [h.bound k some]; exact some)).trans (h.bound k some)
  asks sound r listed := by
    obtain waits | ⟨k, b, bound, line⟩ := h.asks sound r listed
    · exact g.asks (h.pool sound) r waits
    · exact .inr ⟨k, b, (g.bound k (by rw [bound]; rfl)).trans bound, line⟩
  saturated sound clear full :=
    g.saturated (h.pool sound) (h.sendHold.trans clear) (h.saturated sound clear full)

/-- Only the lines differ. -/
theorem SendsOn.of_lines (sends : Sends s t) (pool : PoolSound s → PoolSound t)
    (senders : t.senders = s.senders) (waitList : t.waitList = s.waitList) : SendsOn s t where
  sends := sends
  pool := pool
  bound k _ := State.sender_congr senders k
  asks _ r listed := .inl (waitList ▸ listed)
  saturated _ _ full := full.imp (fun none => by
    simpa only [State.freeSender, State.sender_congr senders] using none) waitList.trans

theorem State.freeSender_free (h : s.freeSender = some k) : s.sender k = none := by
  simpa using List.find?_some h

theorem bestRequest_eq_none {l : List Request} (h : bestRequest l = none) : l = [] := by
  unfold bestRequest at h
  split at h
  · cases h
  · exact List.head?_eq_none_iff.mp h

/-- What a grant comes to: nothing, under SEND-HOLD or where no FREE sender or no request stands, or a binding. -/
inductive Granted (s : State) : State → Prop
  | held (h : s.sendHold = true) : Granted s s
  | full (h : s.Saturated) : Granted s s
  | binds (k : SenderNo) (r : Request) (clear : s.sendHold = false) (free : s.freeSender = some k)
      (best : bestRequest s.waitList = some r) :
      Granted s (bindSender k r.line (s.setWaitList (withoutRequest r.line s.waitList)))

theorem grantOnce_granted (s : State) : Granted s (grantOnce s) := by
  cases clear : s.sendHold with
  | true => rw [grantOnce_of_held clear]; exact .held clear
  | false =>
    cases free : s.freeSender with
    | none => rw [grantOnce_of_no_sender free]; exact .full (.inl free)
    | some k =>
      cases best : bestRequest s.waitList with
      | none =>
        have empty := bestRequest_eq_none best
        rw [grantOnce_of_no_request empty]
        exact .full (.inr empty)
      | some r =>
        rw [grantOnce_of_choice clear free best]
        exact .binds k r clear free best

/-- A request that is not the one granted stays in its place. -/
theorem grantOnce_asks (ready : ∀ r ∈ s.waitList, (s.line r.line).toneReady = true) {q : Request}
    (listed : q ∈ s.waitList) :
    q ∈ (grantOnce s).waitList ∨ ∃ k, ∃ b ∈ (grantOnce s).sender k, b.line = q.line := by
  generalize grant : grantOnce s = t
  cases grant ▸ grantOnce_granted s with
  | held => exact .inl listed
  | full => exact .inl listed
  | binds k r clear free best =>
    by_cases same : q.line = r.line
    · obtain ⟨b, bound, line, -⟩ := bindSender_sender_same
        (s := s.setWaitList (withoutRequest r.line s.waitList)) (k := k)
        (ready r (bestRequest_mem best))
      exact .inr ⟨k, b, bound, line.trans same.symm⟩
    · refine .inl ?_
      rw [bindSender_waitList]
      exact List.mem_filter.mpr ⟨listed, by simpa using same⟩

theorem grantOnce_bound (some : (s.sender k).isSome = true) : (grantOnce s).sender k = s.sender k := by
  generalize grant : grantOnce s = t
  cases grant ▸ grantOnce_granted s with
  | held => rfl
  | full => rfl
  | binds j r clear free best =>
    refine bindSender_sender_other _ _ fun same => ?_
    rw [same, State.freeSender_free free] at some
    cases some

theorem grantOnce_of_saturated (full : s.Saturated) : grantOnce s = s :=
  full.elim grantOnce_of_no_sender grantOnce_of_no_request

theorem grantOnce_sendsOn (s : State) : SendsOn s (grantOnce s) where
  sends := grantOnce_sends s
  pool h := h.grantOnce
  bound _ some := grantOnce_bound some
  asks sound _ listed := grantOnce_asks (fun _ listed => sound.toneReady_of_mem listed) listed
  saturated _ _ full := by rw [grantOnce_of_saturated full]; exact full

/-- A line asks, before the grant that its request is an occasion for. -/
def asking (n : LineNo) (s : State) : State :=
  (s.setWaitList (s.waitList ++ [newRequest n (s.line n)])).modQueue n fun q => { q with waiting := true }

theorem postRequest_eq (n : LineNo) (s : State) : postRequest n s = grantOnce (asking n s) := rfl

theorem asking_line (n m : LineNo) (s : State) : (asking n s).line m =
    if m = n then { s.line n with queue := { (s.line n).queue with waiting := true } } else s.line m :=
  State.modLine_line (s.setWaitList _) n m _

theorem asking_toneReady (n m : LineNo) (s : State) :
    ((asking n s).line m).toneReady = (s.line m).toneReady := by
  rw [asking_line]
  split
  next same => rw [same]; rfl
  next => rfl

theorem asking_waitList (n : LineNo) (s : State) :
    (asking n s).waitList = s.waitList ++ [newRequest n (s.line n)] := rfl

theorem asking_saturated (clear : s.sendHold = false) (full : s.Saturated) :
    (grantOnce (asking n s)).Saturated := by
  have freeSame : (asking n s).freeSender = s.freeSender := rfl
  generalize grant : grantOnce (asking n s) = t
  cases grant ▸ grantOnce_granted (asking n s) with
  | held held => rw [show (asking n s).sendHold = s.sendHold from rfl, clear] at held; cases held
  | full full => exact full
  | binds k r _ free best =>
    obtain none | empty := full
    · rw [freeSame, none] at free; cases free
    · rw [asking_waitList, empty, List.nil_append] at best
      obtain rfl : r = newRequest n (s.line n) := by simpa using bestRequest_mem best
      refine .inr ?_
      rw [bindSender_waitList, State.setWaitList_waitList, asking_waitList, empty]
      simp [withoutRequest]

theorem postRequest_sendsOn (ready : (s.line n).toneReady = true)
    (calm : (s.line n).queue.waiting = false) : SendsOn s (postRequest n s) where
  sends := Sends.trans (t := asking n s) rfl (grantOnce_sends _)
  pool h := h.postRequest ready calm
  bound k some := grantOnce_bound (s := asking n s) some
  asks sound r listed := by
    refine grantOnce_asks (s := asking n s) (fun q listed => ?_) (List.mem_append_left _ listed)
    rw [asking_toneReady]
    rw [asking_waitList, List.mem_append, List.mem_singleton] at listed
    obtain old | rfl := listed
    · exact sound.toneReady_of_mem old
    · exact ready
  saturated _ clear full := asking_saturated clear full

/-! ### Head examinations under the pool's laws -/

theorem withdrawRequest_of_calm (calm : (s.line n).queue.waiting = false) : withdrawRequest n s = s := by
  unfold withdrawRequest
  rw [calm]
  rfl

/-- A line without a TONE to send does not wait. -/
theorem PoolSound.calm_of_not_ready (h : PoolSound s) (not : (s.line n).toneReady = false) :
    (s.line n).queue.waiting = false := by
  cases waiting : (s.line n).queue.waiting with
  | false => rfl
  | true =>
    have := h.ready n waiting
    rw [not] at this
    cases this

theorem Line.not_toneReady_of_flight {l : Line} (h : l.queue.flight.isSome = true) :
    l.toneReady = false := by
  rw [← Bool.not_eq_true, Line.toneReady_iff]
  rintro ⟨-, none, -⟩
  rw [none] at h
  cases h

theorem Line.not_toneReady_of_rest {l : Line} (head : l.queue.entries = e :: rest)
    (kind : e.kind = .recall ∨ ∃ ms, e.kind = .pause ms) : l.toneReady = false := by
  obtain kind | ⟨ms, kind⟩ := kind <;> simp [Line.toneReady, head, kind]

/-- Under the pool's laws a head that cannot be a TONE withdraws nothing. -/
theorem PoolSound.examineHead_cases (h : PoolSound s) (n : LineNo) :
    Machine.examineHead n s = s ∨
    ((s.line n).toneReady = true ∧ (s.line n).queue.waiting = false ∧
      Machine.examineHead n s = Machine.postRequest n s) ∨
    (s.line n).toneReady = false ∧ (s.line n).queue.flight = none ∧
      (Machine.examineHead n s = startRecall n s ∨ Machine.examineHead n s = startPause n s) := by
  have rests (not : (s.line n).toneReady = false) := withdrawRequest_of_calm (h.calm_of_not_ready not)
  generalize outcome : Machine.examineHead n s = t
  cases outcome ▸ examineHead_examination n s with
  | stands => exact .inl rfl
  | waits => exact .inl rfl
  | posts ready calm => exact .inr (.inl ⟨ready, calm, rfl⟩)
  | withdraws active flight not => exact .inl (rests not)
  | recalls e rest active flight head kind =>
    have not := Line.not_toneReady_of_rest head (.inl kind)
    rw [rests not]
    exact .inr (.inr ⟨not, flight, .inl rfl⟩)
  | pauses e rest ms active flight head kind =>
    have not := Line.not_toneReady_of_rest head (.inr ⟨ms, kind⟩)
    rw [rests not]
    exact .inr (.inr ⟨not, flight, .inr rfl⟩)

theorem PoolSound.examineHead_sendsOn (h : PoolSound s) (n : LineNo) : SendsOn s (Machine.examineHead n s) := by
  have pool := h.examineHead n
  have sends := examineHead_sends n s
  obtain same | ⟨ready, calm, same⟩ | ⟨-, -, same | same⟩ := h.examineHead_cases n
  · rw [same]; exact .refl s
  · rw [same]; exact Machine.postRequest_sendsOn ready calm
  all_goals
    rw [same] at pool sends ⊢
    exact .of_lines sends (fun _ => pool) rfl rfl

/-- Neither a grant nor the examination of another line touches a line without a TONE to send. -/
theorem PoolSound.grantOnce_line (h : PoolSound s) (not : (s.line m).toneReady = false) :
    (Machine.grantOnce s).line m = s.line m := by
  generalize grant : Machine.grantOnce s = t
  cases grant ▸ grantOnce_granted s with
  | held => rfl
  | full => rfl
  | binds k r clear free best =>
    refine bindSender_line_other _ _ fun same => ?_
    have ready := h.toneReady_of_mem (bestRequest_mem best)
    rw [← same, not] at ready
    cases ready

theorem PoolSound.examineHead_line (h : PoolSound s) (not : (s.line m).toneReady = false) (other : m ≠ n) :
    (Machine.examineHead n s).line m = s.line m := by
  obtain same | ⟨ready, calm, same⟩ | ⟨-, -, same | same⟩ := h.examineHead_cases n
  · rw [same]
  · rw [same, postRequest_eq]
    have before : (asking n s).line m = s.line m := by rw [asking_line, if_neg other]
    rw [← before]
    generalize grant : Machine.grantOnce (asking n s) = t
    cases grant ▸ grantOnce_granted (asking n s) with
    | held => rfl
    | full => rfl
    | binds k r clear free best =>
      refine bindSender_line_other _ _ fun same => ?_
      have listed := bestRequest_mem best
      rw [asking_waitList, List.mem_append, List.mem_singleton] at listed
      obtain old | rfl := listed
      · have ready := h.toneReady_of_mem old
        rw [← same, not] at ready
        cases ready
      · exact other same
  all_goals
    rw [same]
    exact (State.modLine_line_other _ _ _ _ other).trans (State.modLine_line_other _ _ _ _ other)

theorem PoolSound.examineHead_line_of_flight (h : PoolSound s)
    (flight : (s.line m).queue.flight.isSome = true) :
    (Machine.examineHead n s).line m = s.line m := by
  by_cases same : m = n
  · rw [← same, examineHead_of_flight flight]
  · exact h.examineHead_line (Line.not_toneReady_of_flight flight) same

/-! ### The whole of the pool, and every line -/

theorem foldl_sendsOn {α : Type} (f : State → α → State) (l : List α) (s : State)
    (step : ∀ s x, PoolSound s → SendsOn s (f s x)) (sound : PoolSound s) :
    SendsOn s (l.foldl f s) := by
  induction l generalizing s with
  | nil => exact .refl s
  | cons x l ih => exact (step s x sound).trans (ih (f s x) ((step s x sound).pool sound))

theorem PoolSound.grantAll_sendsOn (h : PoolSound s) : SendsOn s (Machine.grantAll s) :=
  foldl_sendsOn _ _ s (fun s _ _ => grantOnce_sendsOn s) h

theorem PoolSound.examineAll_sendsOn (h : PoolSound s) : SendsOn s (examineAll s) :=
  foldl_sendsOn _ _ s (fun _ n h => h.examineHead_sendsOn n) h

/-- The senders that are FREE. -/
def State.freeSenders (s : State) : Finset SenderNo := Finset.univ.filter fun k => s.sender k = none

theorem State.saturated_of_no_free (h : s.freeSenders.card = 0) : s.Saturated := by
  refine .inl (Option.eq_none_iff_forall_ne_some.mpr fun k free => ?_)
  have mem : k ∈ s.freeSenders := Finset.mem_filter.mpr ⟨Finset.mem_univ k, State.freeSender_free free⟩
  rw [Finset.card_eq_zero.mp h] at mem
  cases mem

/-- A grant that finds a sender and a request leaves one FREE sender less. -/
theorem PoolSound.grantOnce_free (h : PoolSound s) (clear : s.sendHold = false) :
    s.Saturated ∨ (Machine.grantOnce s).freeSenders.card < s.freeSenders.card := by
  generalize grant : Machine.grantOnce s = t
  cases grant ▸ grantOnce_granted s with
  | held held => rw [clear] at held; cases held
  | full full => exact .inl full
  | binds k r clear free best =>
    obtain ⟨b, bound, -⟩ := bindSender_sender_same
      (s := s.setWaitList (Machine.withoutRequest r.line s.waitList)) (k := k)
      (h.toneReady_of_mem (bestRequest_mem best))
    refine .inr (Finset.card_lt_card ⟨fun j free' => ?_, fun all => ?_⟩)
    · have free' := (Finset.mem_filter.mp free').2
      refine Finset.mem_filter.mpr ⟨Finset.mem_univ j, ?_⟩
      by_cases same : j = k
      · rw [same]; exact State.freeSender_free free
      · rw [bindSender_sender_other _ _ same] at free'; exact free'
    · have mem := all (Finset.mem_filter.mpr ⟨Finset.mem_univ k, State.freeSender_free free⟩)
      have := (Finset.mem_filter.mp mem).2
      rw [bound] at this
      cases this

/-- As many grants as there are senders leave no FREE sender to a request (R126, R135). -/
theorem PoolSound.grants_saturate {α : Type} (l : List α) (h : PoolSound s) (clear : s.sendHold = false)
    (few : s.freeSenders.card ≤ l.length) : (l.foldl (fun s _ => Machine.grantOnce s) s).Saturated := by
  induction l generalizing s with
  | nil => exact State.saturated_of_no_free (Nat.le_zero.mp few)
  | cons x l ih =>
    have on := grantOnce_sendsOn s
    obtain full | fewer := h.grantOnce_free clear
    · have same := grantOnce_of_saturated full
      rw [List.foldl_cons, same]
      exact (foldl_sendsOn _ l s (fun s _ _ => grantOnce_sendsOn s) h).saturated h clear full
    · exact ih (on.pool h) (on.sendHold.trans clear) (Nat.le_of_lt_succ (Nat.lt_of_lt_of_le fewer few))

theorem PoolSound.grantAll_saturated (h : PoolSound s) (clear : s.sendHold = false) :
    (Machine.grantAll s).Saturated :=
  h.grants_saturate _ clear ((Finset.card_filter_le _ _).trans (by simp))

theorem PoolSound.grantAll_line (h : PoolSound s) (not : (s.line m).toneReady = false) :
    (Machine.grantAll s).line m = s.line m := by
  unfold Machine.grantAll
  generalize List.range 12 = l
  induction l generalizing s with
  | nil => rfl
  | cons _ l ih =>
    have line := h.grantOnce_line not
    exact (ih h.grantOnce (by rw [line]; exact not)).trans line

/-- The examination of every line, at one line that has no TONE to send: its own examination is all that touches it. -/
theorem PoolSound.examineAll_line (h : PoolSound s) (not : (s.line m).toneReady = false)
    (starts : ∀ v, PoolSound v → v.sendHold = s.sendHold → v.clock = s.clock → v.line m = s.line m →
      ((Machine.examineHead m v).line m).queue.flight.isSome = true) :
    ∃ v, PoolSound v ∧ v.sendHold = s.sendHold ∧ v.clock = s.clock ∧ v.line m = s.line m ∧
      (examineAll s).line m = (Machine.examineHead m v).line m := by
  obtain ⟨before, after, all, absent⟩ := List.eq_append_cons_of_mem (List.mem_finRange m)
  unfold examineAll
  rw [all, List.foldl_append, List.foldl_cons]
  have first (l : List LineNo) (s : State) (h : PoolSound s) (not : (s.line m).toneReady = false)
      (absent : m ∉ l) : (l.foldl (fun s n => Machine.examineHead n s) s).line m = s.line m := by
    induction l generalizing s with
    | nil => rfl
    | cons n l ih =>
      obtain ⟨other, absent⟩ := not_or.mp (List.mem_cons.not.mp absent)
      have line := h.examineHead_line not other
      exact (ih _ (h.examineHead n) (by rw [line]; exact not) absent).trans line
  have last (l : List LineNo) (s : State) (h : PoolSound s)
      (flight : (s.line m).queue.flight.isSome = true) :
      (l.foldl (fun s n => Machine.examineHead n s) s).line m = s.line m := by
    induction l generalizing s with
    | nil => rfl
    | cons n l ih =>
      have line := h.examineHead_line_of_flight (n := n) flight
      exact (ih _ (h.examineHead n) (by rw [line]; exact flight)).trans line
  have on := foldl_sendsOn (fun s n => Machine.examineHead n s) before s
    (fun _ n h => h.examineHead_sendsOn n) h
  have line := first before s h not absent
  have clock : (before.foldl (fun s n => Machine.examineHead n s) s).clock = s.clock := by
    obtain ⟨-, -, timeBase, -⟩ := on.sends.keeps
    unfold State.clock
    rw [timeBase]
  have flies := starts _ (on.pool h) on.sendHold clock line
  exact ⟨_, on.pool h, on.sendHold, clock, line, last after _ ((on.pool h).examineHead m) flies⟩

/-! ### A CONTROL write -/

theorem takeControl_eq (v : Word) (s : State) :
    takeControl v s =
      { s with
        control :=
          { sendHold := v.getLsbD 0
            mask := { page := v.getLsbD 1, fault := v.getLsbD 2, mark := v.getLsbD 3, order := v.getLsbD 4 } } } :=
  rfl

theorem hostRead_control (ready : s.ready = true) : hostRead 0x1001 s = s.controlWord :=
  hostRead_register ready (by decide)

theorem takeControl_word (v : Word) (s : State) : (takeControl v s).controlWord = v &&& 0x001F := by
  rw [controlWord_eq]
  refine BitVec.eq_of_getLsbD_eq fun i hi => ?_
  rw [flagsWord_getLsbD, BitVec.getLsbD_and]
  interval_cases i <;> simp [takeControl, flagsBits, causesOf]

theorem writeControl_takes {v : Word} (stays : v.getLsbD 15 = false)
    (calm : s.sendHold = false ∨ v.getLsbD 0 = true) : writeControl v s = takeControl v s := by
  unfold writeControl
  rw [stays, if_neg Bool.false_ne_true, if_neg]
  obtain clear | held := calm
  · simp [clear]
  · simp only [held, Bool.not_true, Bool.and_false, Bool.false_eq_true, not_false_eq_true]

theorem writeControl_resumes {v : Word} (stays : v.getLsbD 15 = false) (held : s.sendHold = true)
    (clears : v.getLsbD 0 = false) : writeControl v s = settle s (resumeSending (takeControl v s)) := by
  unfold writeControl
  rw [stays, if_neg Bool.false_ne_true, held, clears]
  rfl

/-- A line that rests at a sendable RECALL or PAUSE starts it, once SEND-HOLD is clear (R135). -/
theorem examineHead_starts (h : PoolSound s) (clear : s.sendHold = false)
    (active : (s.line n).mode = .active) (flight : (s.line n).queue.flight = none)
    (head : (s.line n).queue.entries = e :: rest) (sendable : (s.line n).sendable e = true)
    (kind : e.kind = .recall ∨ ∃ ms, e.kind = .pause ms) :
    (examineHead n s).line n =
      { (s.line n).leaveHead with
        queue := { (s.line n).leaveHead.queue with
          execution := if e.kind = .recall then .recallBreak s.clock else .pause s.clock }
        hold := if e.kind = .recall then false else (s.line n).hold } := by
  have rests := withdrawRequest_of_calm (h.calm_of_not_ready (Line.not_toneReady_of_rest head kind))
  have hold : (s.line n).leaveHead.hold = (s.line n).hold := by
    rw [show (s.line n).leaveHead = _ from Line.leaveHead_queueOnly _]
  unfold examineHead
  dsimp only
  rw [if_neg (by simp [active, flight]), head]
  obtain kind | ⟨ms, kind⟩ := kind
  · simp only [kind, rests, sendable, clear, Bool.not_false, Bool.and_true, if_true]
    unfold startRecall
    rw [State.modLine_line_same, State.modLine_line_same]
  · simp only [kind, rests, sendable, clear, reduceCtorEq, if_false, ← hold, Bool.not_false, Bool.and_true, if_true]
    unfold startPause
    rw [State.modQueue_line_same, State.modLine_line_same]

theorem settle_settlesAs (s u : State) : SettlesAs u (settle s u) := by
  obtain ⟨senders, waitList, -, -⟩ := settle_keeps s u
  refine ⟨fun m => ?_, senders, waitList⟩
  rw [settle_muteOn]
  exact settle_line s u m

/-- What a clearing of SEND-HOLD starts on a line that rests at a sendable RECALL or PAUSE (R135). -/
theorem resumeSending_starts (h : PoolSound s) (clear : s.sendHold = false)
    (active : (s.line n).mode = .active) (flight : (s.line n).queue.flight = none)
    (head : (s.line n).queue.entries = e :: rest) (sendable : (s.line n).sendable e = true)
    (kind : e.kind = .recall ∨ ∃ ms, e.kind = .pause ms) :
    (resumeSending s).line n =
      { (s.line n).leaveHead with
        queue := { (s.line n).leaveHead.queue with
          execution := if e.kind = .recall then .recallBreak s.clock else .pause s.clock }
        hold := if e.kind = .recall then false else (s.line n).hold } := by
  have not := Line.not_toneReady_of_rest head kind
  have line := h.grantAll_line not
  have grants := h.grantAll_sendsOn
  have clock : (grantAll s).clock = s.clock := by
    obtain ⟨-, -, timeBase, -⟩ := grants.sends.keeps
    unfold State.clock
    rw [timeBase]
  have started (v : State) (pool : PoolSound v) (hold : v.sendHold = (grantAll s).sendHold)
      (sameClock : v.clock = (grantAll s).clock) (same : v.line n = (grantAll s).line n) :
      (examineHead n v).line n =
        { (s.line n).leaveHead with
          queue := { (s.line n).leaveHead.queue with
            execution := if e.kind = .recall then .recallBreak s.clock else .pause s.clock }
          hold := if e.kind = .recall then false else (s.line n).hold } := by
    have same := same.trans line
    have starts := examineHead_starts (s := v) (n := n) (e := e) (rest := rest) pool
      (hold.trans (grants.sendHold.trans clear)) (by rw [same]; exact active) (by rw [same]; exact flight)
      (by rw [same]; exact head) (by rw [same]; exact sendable) kind
    rw [starts, same, sameClock, clock]
  obtain ⟨v, pool, hold, sameClock, same, outcome⟩ :=
    h.grantAll.examineAll_line (m := n) (by rw [line]; exact not) fun v pool hold sameClock same => by
      rw [started v pool hold sameClock same]
      exact (Line.leaveHead_queue head).2.1
  exact outcome.trans (started v pool hold sameClock same)

/-- The sender and the request that the first grant chooses (R125, R126). -/
theorem PoolSound.grantAll_first {r : Request} {before after : List Request} (h : PoolSound s)
    (clear : s.sendHold = false) (free : s.sender k = none)
    (lower : ∀ j : SenderNo, j < k → s.sender j ≠ none) (list : s.waitList = before ++ r :: after)
    (oldest : (r.cls = .a ∧ ∀ q ∈ before, q.cls = .b) ∨
      (r.cls = .b ∧ before = [] ∧ ∀ q ∈ after, q.cls = .b)) :
    ∃ b : Binding, (Machine.grantAll s).sender k = some b ∧ b.line = r.line := by
  have ready : (s.line r.line).toneReady = true := h.toneReady_of_mem (by simp [list])
  obtain ⟨b, bound, line, -⟩ := bindSender_sender_same
    (s := s.setWaitList (Machine.withoutRequest r.line s.waitList)) (k := k) ready
  rw [← grantOnce_of_choice clear (freeSender_of_lowest free lower)
    (list ▸ bestRequest_of_oldest oldest)] at bound
  have rest := foldl_sendsOn (fun s _ => Machine.grantOnce s) (List.range' 1 11) _
    (fun s _ _ => grantOnce_sendsOn s) h.grantOnce
  refine ⟨b, ?_, line⟩
  rw [← bound]
  exact rest.bound k (by rw [bound]; rfl)

/-- Settles O38: without a clearing the write is all there is; a clearing grants until no sender or no request is
left, and then examines every line's head. -/
theorem controlWriteTakesBits : Obligations.ControlWriteTakesBits := by
  unfold Obligations.ControlWriteTakesBits
  refine ⟨fun v s ready stays calm => ?_, fun v s sound ready held stays clears => ?_⟩
  · intro taken
    have write : hostWrite 0x1001 v s = taken :=
      (hostWrite_register v ready (by decide)).trans (writeControl_takes stays calm)
    exact ⟨congrArg Host.Outcome.next write, congrArg Host.Outcome.next write,
      congrArg Host.Outcome.next write, (hostRead_control (s := taken) ready).trans (takeControl_word v s)⟩
  · have write : hostWrite 0x1001 v s = settle s (resumeSending (takeControl v s)) :=
      (hostWrite_register v ready (by decide)).trans (writeControl_resumes stays held clears)
    have start : PoolSound (takeControl v s) := sound
    have clear : (takeControl v s).sendHold = false := clears
    have grants := start.grantAll_sendsOn
    have soundMid : PoolSound (grantAll (takeControl v s)) := start.grantAll
    have on := grants.trans soundMid.examineAll_sendsOn
    have full := soundMid.examineAll_sendsOn.saturated soundMid (grants.sendHold.trans clear)
      (start.grantAll_saturated clear)
    have settles := settle_settlesAs s (resumeSending (takeControl v s))
    have starts (m : LineNo) {e : Entry} {rest : List Entry} := resumeSending_starts (n := m) (e := e)
      (rest := rest) start clear
    have first {k : SenderNo} {r : Request} {before after : List Request} := start.grantAll_first (k := k)
      (r := r) (before := before) (after := after) clear
    have bound := on.bound
    have asks := on.asks start
    have late := soundMid.examineAll_sendsOn.bound
    have keeps : Sends (takeControl v s) (resumeSending (takeControl v s)) := on.sends
    have form := settle_eq s (resumeSending (takeControl v s))
    change (resumeSending (takeControl v s)).Saturated at full
    change ∀ k, ((takeControl v s).sender k).isSome = true →
      (resumeSending (takeControl v s)).sender k = (takeControl v s).sender k at bound
    change ∀ r ∈ (takeControl v s).waitList, r ∈ (resumeSending (takeControl v s)).waitList ∨
      ∃ k, ∃ b ∈ (resumeSending (takeControl v s)).sender k, b.line = r.line at asks
    change ∀ k, ((grantAll (takeControl v s)).sender k).isSome = true →
      (resumeSending (takeControl v s)).sender k = (grantAll (takeControl v s)).sender k at late
    have resumed (t : State) (control : t.control = (takeControl v s).control) :
        examineAll (grantAll { s with control := t.control }) = resumeSending (takeControl v s) := by
      rw [control]
      rfl
    generalize resumeSending (takeControl v s) = u at *
    generalize settle s u = t at *
    obtain ⟨lines, senders, waitList⟩ := settles
    have senderSame (k : SenderNo) : t.sender k = u.sender k := State.sender_congr senders k
    have whole : t = { takeControl v s with
        lines := t.lines, senders := t.senders, waitList := t.waitList, store := t.store } := by
      rw [senders, waitList]
      unfold Sends at keeps
      rw [keeps] at form
      exact form
    have control : t.control = (takeControl v s).control := by rw [whole]
    refine ⟨t, congrArg Host.Outcome.next write, congrArg Host.Outcome.next write, ?_, ?_, ?_, ?_, ?_, ?_,
      ?_, ?_, ?_⟩
    · unfold State.sendHold
      rw [control]
      exact clears
    · have ready : t.ready = true := by rw [whole]; exact ready
      have word : t.controlWord = (takeControl v s).controlWord := by
        unfold State.controlWord
        rw [control]
      exact (hostRead_control ready).trans (word.trans (takeControl_word v s))
    · refine full.imp (fun none => ?_) waitList.trans
      simpa only [State.freeSender, senderSame] using none
    · rw [resumed t control]
      exact ⟨lines, senders, waitList⟩
    · exact fun k some => (senderSame k).trans (bound k some)
    · intro r listed
      rw [waitList]
      simp only [senderSame]
      exact asks r listed
    · rintro k r free lower ⟨before, after, list, oldest⟩
      obtain ⟨b, granted, line⟩ := first (k := k) free lower list oldest
      exact ⟨b, ((senderSame k).trans (late k (by rw [granted]; rfl))).trans granted, line⟩
    · intro m e rest active flight head sendable kind
      have started := starts m active flight head sendable kind
      obtain ⟨entries, -⟩ := Line.leaveHead_queue head
      have flies : ((takeControl v s).line m).leaveHead.queue.flight.map (·.entry) = some e := by
        unfold Line.leaveHead
        rw [show ((takeControl v s).line m).queue.entries = e :: rest from head]
        rfl
      rw [lines, started]
      exact ⟨flies, entries, rfl, rfl⟩
    · rw [whole]
      rfl

end Sys2Proof.Machine
end

section
/-! Soft reset: what each of its parts leaves and writes (R15, R36, R94, R120, R140, R164, R173, R182). -/

namespace Sys2Proof.Machine

variable {s t u : State} {n m : LineNo} {slot : SlotNo} {f : Filling}

/-! ### Frames of the end of an event -/

/-- The words of the header and of the line images that show the part (R178). -/
def shownRegions : List (Nat × Nat) :=
  [(0x008, 13)] ++ (List.finRange 96).map fun n => (imageAddress n, 12)

/-- The end of an event writes shown words alone. -/
theorem settle_frame (b u : State) : StoreFrame u (settle b u) shownRegions := by
  intro a outside
  have header := outside (0x008, 13) (by simp [shownRegions])
  have image (n : LineNo) : a < imageAddress n ∨ imageAddress n + 12 ≤ a :=
    outside (imageAddress n, 12) (by simp [shownRegions])
  dsimp only at header
  have waits (m : List (Nat × Word)) : readWord (writeWaitCount b u.settleMutes m) a = readWord m a := by
    unfold writeWaitCount
    split
    · rfl
    · exact readWord_writeWord_other m _ _ _ (by unfold waitCountAddress; omega)
  have status (m : List (Nat × Word)) (k : SenderNo) :
      readWord (writeSenderStatus b u.settleMutes m k) a = readWord m a := by
    unfold writeSenderStatus
    split
    · rfl
    · exact readWord_writeWord_other m _ _ _ (by have := k.isLt; unfold senderStatusAddress; omega)
  unfold settle shownStore
  rw [State.setStore_peek', waits, readWord_foldl_other _ _ _ _ status,
    readWord_foldl_other _ _ _ _ fun m n => readWord_writeImage_other b u.settleMutes m n a (image n),
    (settleMutes_keeps u).1]
  rfl

/-- A run of writes, each within its own region. -/
theorem StoreFrame.foldl {α : Type} {f : State → α → State} {region : α → List (Nat × Nat)} (l : List α)
    (step : ∀ u, ∀ x ∈ l, StoreFrame u (f u x) (region x)) (s : State) :
    StoreFrame s (l.foldl f s) (l.flatMap region) := by
  induction l generalizing s with
  | nil => exact fun _ _ => rfl
  | cons x rest ih =>
    rw [List.foldl_cons, List.flatMap_cons]
    exact (step s x List.mem_cons_self).trans (ih (fun u y hy => step u y (List.mem_cons_of_mem _ hy)) _)

/-! ### The held orders -/

/-- Every held order refused RESET (R164). -/
theorem foldl_refuse_form (l : List HeldOrder) (s : State) :
    l.foldl (fun s o => refuse o.slot .reset 0 s) s =
      { s with
        store := (l.foldl (fun s o => refuse o.slot .reset 0 s) s).store
        causes := { s.causes with order := s.causes.order || !l.isEmpty } } := by
  induction l generalizing s with
  | nil => simp
  | cons o rest ih =>
    rw [List.foldl_cons, ih]
    simp [refuse, writeOutcome, State.raiseOrder, State.pokes, State.setStore]

theorem foldl_refuse_shows {l : List HeldOrder} {w : Word} {code : ResultCode} {detail : Nat}
    (shows : SlotShows s slot w code detail) (others : ∀ o ∈ l, o.slot ≠ slot) :
    SlotShows (l.foldl (fun s o => refuse o.slot .reset 0 s) s) slot w code detail := by
  induction l generalizing s with
  | nil => exact shows
  | cons o rest ih =>
    exact ih (writeOutcome_shows_other shows (others o List.mem_cons_self).symm)
      fun x hx => others x (List.mem_cons_of_mem _ hx)

theorem foldl_refuse_refused {l : List HeldOrder} (sound : StoreSound s)
    (distinct : l.Pairwise fun a b => a.slot ≠ b.slot) {o : HeldOrder} (mem : o ∈ l) :
    SlotShows (l.foldl (fun s o => refuse o.slot .reset 0 s) s) o.slot slotRefused .reset 0 := by
  induction l generalizing s with
  | nil => cases mem
  | cons x rest ih =>
    obtain ⟨first, later⟩ := List.pairwise_cons.mp distinct
    obtain rfl | mem := List.mem_cons.mp mem
    · exact foldl_refuse_shows (s := refuse o.slot .reset 0 s) (writeOutcome_shows sound _ _ _ _)
        fun y hy => (first y hy).symm
    · exact ih (storeWf_writeWords _ _ sound) later mem

/-- The result words of the orders held. -/
def heldRegions (l : List HeldOrder) : List (Nat × Nat) :=
  l.flatMap fun o => [(slotAddress o.slot, 1), (slotAddress o.slot + 7, 1)]

theorem refuseHeld_frame (s : State) : StoreFrame s (refuseHeld s) (heldRegions s.board.accepted) :=
  StoreFrame.foldl s.board.accepted (fun u o _ => writeOutcome_frame o.slot .reset 0 slotRefused u) s

theorem refuseHeld_form (s : State) :
    refuseHeld s =
      { s with
        store := (refuseHeld s).store, board := { s.board with accepted := [] }
        causes := { s.causes with order := s.causes.order || !s.board.accepted.isEmpty } } := by
  unfold refuseHeld
  rw [foldl_refuse_form]
  rfl

/-! ### The pool, the images and the profiles -/

theorem freePool_frame (s : State) : StoreFrame s (freePool s) [(0x008, 13)] := by
  intro a outside
  have apart : a < 0x008 ∨ 0x015 ≤ a := outside (0x008, 13) (by simp)
  refine (State.poke_peek_other _ (by unfold waitCountAddress; omega)).trans ?_
  refine State.pokes_peek_other (s := { s with senders := Vector.replicate 12 none, waitList := [] })
    fun p hp => ?_
  obtain ⟨k, hk, rfl⟩ := List.mem_map.mp hp
  have := List.mem_range.mp hk
  unfold senderStatusAddress
  omega

theorem clearImages_frame (s : State) :
    StoreFrame s (clearImages s) ((List.finRange 96).map fun n => (imageAddress n, 12)) := fun _ outside =>
  clearImages_peek_other fun n => outside (imageAddress n, 12) (by simp)

/-- The status words of the profiles. -/
def statusRegions : List (Nat × Nat) := (List.finRange 8).map fun p => (profileAddress p + 28, 1)

theorem dropProfiles_frame (s : State) : StoreFrame s (dropProfiles s) statusRegions := by
  refine StoreFrame.of_pokes (s := { s with profiles := s.profiles.map fun x => { x with adopted := none } })
    fun q hq => ?_
  obtain ⟨p, -, rfl⟩ := List.mem_map.mp hq
  exact ⟨_, List.mem_map.mpr ⟨p, List.mem_finRange p, rfl⟩, le_rfl, Nat.lt_succ_self _⟩

theorem dropProfiles_peek (sound : StoreSound s) (p : ProfileNo) :
    (dropProfiles s).peek (profileAddress p + 28) = 0 := by
  refine readWord_writeWords_of_mem sound (by unfold profileAddress storeSize; omega) ?_
    (List.mem_map.mpr ⟨p, List.mem_finRange p, rfl⟩)
  refine List.pairwise_map.mpr ((List.nodup_finRange 8).imp fun {a b} other => ?_)
  have : a.val ≠ b.val := Fin.val_ne_of_ne other
  unfold profileAddress
  omega

/-- The words that the closing of a page writes (R169). -/
def closingRegions (c : Capture) : List (Nat × Nat) :=
  if c.filling.isSome then [(0x003, 2), (pageAddress c.nextPage, 2)] else []

theorem closePage_frame (s : State) : StoreFrame s (closePage s) (closingRegions s.capture) := by
  unfold closingRegions
  cases filling : s.capture.filling with
  | none => unfold closePage; rw [filling]; exact fun _ _ => rfl
  | some f =>
    rw [closePage_of_filling filling]
    intro a outside
    have header : a < 0x003 ∨ 0x005 ≤ a := outside (0x003, 2) (by simp)
    have page := outside (pageAddress s.capture.nextPage, 2) (by simp)
    refine State.pokes_peek_other (s := s) fun q hq => ?_
    simp only [closingWords, List.mem_cons, List.not_mem_nil, or_false] at hq
    unfold lastSeqAddress fillPageAddress at hq
    dsimp only at page
    obtain rfl | rfl | rfl | rfl := hq <;> dsimp only <;> omega

theorem clearImages_form (s : State) : clearImages s = { s with store := (clearImages s).store } := by
  unfold clearImages
  generalize List.finRange 96 = l
  induction l generalizing s with
  | nil => rfl
  | cons n rest ih => rw [List.foldl_cons, ih]; rfl

/-! ### The whole -/

/-- The part at a soft reset, before the filling page is closed (R182). -/
def resetParts (s : State) : State := dropProfiles (clearImages (freePool (linesOut (refuseHeld s))))

theorem softReset_eq (s : State) :
    softReset s =
      (closePage (resetParts s)).setTimeBase { (closePage (resetParts s)).timeBase with clock := 0 } := rfl

theorem resetParts_form (s : State) :
    resetParts s =
      { s with
        lines := (resetParts s).lines, profiles := (resetParts s).profiles
        senders := Vector.replicate 12 none, waitList := [], store := (resetParts s).store
        board := { s.board with accepted := [] }
        causes := { s.causes with order := s.causes.order || !s.board.accepted.isEmpty } } := by
  have held := refuseHeld_form s
  have cleared := clearImages_form (freePool (linesOut (refuseHeld s)))
  unfold resetParts dropProfiles
  rw [cleared]
  generalize (clearImages (freePool (linesOut (refuseHeld s)))).store = m
  rw [held]
  rfl

theorem resetParts_frame (s : State) :
    StoreFrame s (resetParts s)
      (heldRegions s.board.accepted ++ [] ++ [(0x008, 13)] ++
        ((List.finRange 96).map fun n => (imageAddress n, 12)) ++ statusRegions) :=
  ((((refuseHeld_frame s).trans (u := linesOut (refuseHeld s)) (r' := []) fun _ _ => rfl).trans
    (freePool_frame _)).trans (clearImages_frame _)).trans (dropProfiles_frame _)

theorem resetParts_capture (s : State) : (resetParts s).capture = s.capture := by rw [resetParts_form]

theorem profileAddress_not_shown (p : ProfileNo) (i : Nat) (hi : i < 32) :
    shownAddress (profileAddress p + i) = false := by
  refine Bool.eq_false_iff.mpr fun shown => ?_
  have := (shownAddress_iff _).mp shown
  unfold profileAddress at this
  omega

theorem closePage_peek_low (s : State) {a : Nat} (low : 0x005 ≤ a) (high : a < 0xA00) :
    (closePage s).peek a = s.peek a := by
  refine closePage_frame s a ?_
  have := (pageAddress_high s.capture.nextPage).1
  unfold closingRegions
  split
  · simp only [List.mem_cons, List.not_mem_nil, or_false, forall_eq_or_imp, forall_eq]
    omega
  · exact nofun

/-- What the closing of the page at a soft reset leaves in a slot is what the refusals left there. -/
theorem softReset_peek_slot (s : State) (slot : SlotNo) (i : Nat) (hi : i < 8) :
    (softReset s).peek (slotAddress slot + i) = (refuseHeld s).peek (slotAddress slot + i) := by
  have where' : 0x020 ≤ slotAddress slot + i ∧ slotAddress slot + i < 0x0A0 := by
    unfold slotAddress; omega
  refine (closePage_peek_low (resetParts s) (by omega) (by omega)).trans ?_
  refine (dropProfiles_frame _ _ fun r hr => ?_).trans ((clearImages_frame _ _ fun r hr => ?_).trans
    (freePool_frame _ _ fun r hr => ?_))
  · obtain ⟨p, -, rfl⟩ := List.mem_map.mp hr
    unfold profileAddress
    dsimp only
    omega
  · obtain ⟨n, -, rfl⟩ := List.mem_map.mp hr
    unfold imageAddress
    dsimp only
    omega
  · obtain rfl := List.mem_singleton.mp hr
    dsimp only
    omega

theorem softReset_lines (s : State) : (softReset s).lines = (linesOut (refuseHeld s)).lines := by
  obtain ⟨-, -, -, -, lines, -⟩ := (closePage_reports (resetParts s)).keeps
  have cleared := (clearImages_keeps (freePool (linesOut (refuseHeld s)))).1
  have dropped (v : State) : (dropProfiles v).lines = v.lines := rfl
  have freed (v : State) : (freePool v).lines = v.lines := rfl
  rw [resetParts, dropped, cleared, freed] at lines
  exact lines

theorem softReset_line (s : State) (n : LineNo) :
    (softReset s).line n = Line.outOfService (s.line n).raw := by
  have held : (refuseHeld s).line n = s.line n :=
    State.line_congr (congrArg State.lines (refuseHeld_form s) :) n
  rw [State.line_congr (softReset_lines s), linesOut_line, held]

theorem dropProfiles_profile (s : State) (p : ProfileNo) :
    (dropProfiles s).profile p = { s.profile p with adopted := none } := by
  simp [dropProfiles, State.profile]

theorem softReset_profile (s : State) (p : ProfileNo) :
    (softReset s).profile p = { s.profile p with adopted := none } := by
  obtain ⟨-, -, -, -, -, profiles, -⟩ := (closePage_reports (resetParts s)).keeps
  have cleared := clearImages_form (freePool (linesOut (refuseHeld s)))
  have held : (refuseHeld s).profile p = s.profile p :=
    State.profile_congr (congrArg State.profiles (refuseHeld_form s) :) p
  have same : (clearImages (freePool (linesOut (refuseHeld s)))).profile p = s.profile p := by
    rw [cleared]
    exact held
  rw [softReset_eq]
  refine (State.profile_congr profiles p).trans ?_
  rw [resetParts, dropProfiles_profile, same]

theorem refuseHeld_sound (sound : StoreSound s) : StoreSound (linesOut (refuseHeld s)) :=
  (Moves.keeps (fun _ _ => StoreSound.of_move) (refuseHeld_moves s) sound :)

theorem dropProfiles_sound (sound : StoreSound s) : StoreSound (dropProfiles s) :=
  storeWf_writeWords _ _ sound

theorem resetParts_sound (sound : StoreSound s) : StoreSound (resetParts s) :=
  dropProfiles_sound (clearImages_store (freePool_store (refuseHeld_sound sound)))

theorem closePage_sound (sound : StoreSound s) : StoreSound (closePage s) :=
  Moves.keeps (fun _ _ => StoreSound.of_move) (closePage_moves s) sound

theorem softReset_sound (sound : StoreSound s) : StoreSound (softReset s) :=
  closePage_sound (resetParts_sound sound)

/-- Behind a soft reset every word shown reads as a part at rest reads (R182). -/
theorem settle_softReset_shown (sound : StoreSound s) (x : ShownItem) :
    (settle s (softReset s)).peek x.address = x.value (softReset s).settleMutes :=
  settle_shows (softReset_sound sound) x fun _ => softReset_shown (refuseHeld_sound sound) x

theorem closePage_shows_header (sound : StoreSound s) (h : s.capture.filling = some f) :
    (closePage s).peek 0x004 = asWord s.capture.sequence ∧
      (closePage s).peek 0x003 = asWord (s.capture.nextPage + 1).val := by
  have reads {a : Nat} {v : Word} (near : a < storeSize)
      (written : (a, v) ∈ closingWords f s.capture) : (closePage s).peek a = v := by
    rw [closePage_of_filling h]
    exact readWord_writeWords_of_mem sound near (closingWords_distinct f s.capture) written
  exact ⟨reads (by decide) (by simp [closingWords, lastSeqAddress]),
    reads (by decide) (by simp [closingWords, fillPageAddress])⟩

theorem next_page_val (p : Fin 24) : (p + 1).val = (p.val + 1) % 24 := by
  revert p
  decide

/-- A word of a page, or of the header up to LAST-SEQ, behind a soft reset. -/
theorem settle_softReset_peek (b s : State) {a : Nat} (h : a < 0x008 ∨ 0xA00 ≤ a) :
    (settle b (softReset s)).peek a = (closePage (resetParts s)).peek a :=
  settle_peek_other _ _ _ <| Bool.eq_false_iff.mpr fun shown => by
    have := (shownAddress_iff _).mp shown
    omega

/-- Everything that a soft reset leaves as it is (R15, R153, R164). -/
theorem softReset_form (s : State) :
    softReset s =
      { s with
        timeBase := { s.timeBase with clock := 0 }, lines := (softReset s).lines
        profiles := (softReset s).profiles, senders := Vector.replicate 12 none, waitList := []
        board := { s.board with accepted := [] }, capture := (closePage (resetParts s)).capture
        causes := (closePage (resetParts s)).causes, store := (softReset s).store } := by
  have form := resetParts_form s
  have reports := closePage_reports (resetParts s)
  rw [softReset_eq]
  generalize resetParts s = p at *
  unfold Reports at reports
  generalize closePage p = q at *
  rw [reports, form]
  rfl

theorem softReset_frame (s : State) :
    StoreFrame s (softReset s)
      (heldRegions s.board.accepted ++ [] ++ [(0x008, 13)] ++
        ((List.finRange 96).map fun n => (imageAddress n, 12)) ++ statusRegions ++
          closingRegions s.capture) := by
  have closed := closePage_frame (resetParts s)
  rw [resetParts_capture] at closed
  exact (resetParts_frame s).trans closed

/-- A page closed sets STATUS.PAGE (R169). -/
theorem closePage_causes (s : State) :
    (closePage s).causes =
      { s.causes with page := s.causes.page || s.capture.filling.isSome } := by
  cases filling : s.capture.filling with
  | none => unfold closePage; rw [filling]; simp
  | some f => rw [closePage_of_filling filling]; simp [State.raisePage]

theorem closePage_of_none (h : s.capture.filling = none) : closePage s = s := by
  unfold closePage
  rw [h]

/-- Settles O39, part by part of the reset, each with its own words of the store. -/
theorem softResetResets : Obligations.SoftResetResets := by
  unfold Obligations.SoftResetResets
  intro v s sound distinct ready resets
  have write : hostWrite 0x1001 v s = settle s (softReset s) := by
    refine (hostWrite_register v ready (by decide)).trans ?_
    change writeControl v s = _
    unfold writeControl
    rw [resets]
    rfl
  have form := softReset_form s
  have parts := resetParts_form s
  have settled := settle_eq s (softReset s)
  have soundParts := resetParts_sound sound
  have captureParts := resetParts_capture s
  have line (n : LineNo) : (settle s (softReset s)).line n = Line.outOfService (s.line n).raw := by
    have out : ((softReset s).line n).mode ≠ .active := by rw [softReset_line]; exact nofun
    rw [settle_line, State.muteOn_of_inactive out, softReset_line]
    rfl
  have still := softReset_still s
  have shown := settle_softReset_shown sound
  have outside {a : Nat} := settle_softReset_peek s s (a := a)
  have capture : (settle s (softReset s)).capture = (closePage (resetParts s)).capture := by
    rw [settle_capture, form]
  have causes : (settle s (softReset s)).causes = (closePage (resetParts s)).causes := by
    rw [settled, form]
  refine ⟨settle s (softReset s), congrArg Host.Outcome.next write, line, ?_, ?_, ?_, ?_, ?_, ?_, ?_, ?_, ?_,
    ?_, ?_, ?_, ?_, ?_, ?_, ?_, ?_, ?_⟩
  · intro k
    rw [State.sender_congr (settle_keeps s _).1]
    exact still.senders k
  · rw [(settle_keeps s _).2.1]
    exact still.waitList
  · intro p
    rw [State.profile_congr (settle_profiles s _), softReset_profile]
    exact ⟨rfl, rfl⟩
  · rw [settle_board, form]
  · intro o held
    have refused : SlotShows (refuseHeld s) o.slot slotRefused .reset 0 :=
      foldl_refuse_refused sound distinct held
    have same (i : Nat) (hi : i < 8) : (settle s (softReset s)).peek (slotAddress o.slot + i) =
        (refuseHeld s).peek (slotAddress o.slot + i) :=
      (settle_peek_other _ _ _ (slotAddress_not_shown o.slot hi)).trans (softReset_peek_slot s o.slot i hi)
    exact ⟨(same 0 (by decide)).trans refused.1, (same 7 (by decide)).trans refused.2⟩
  · intro k hk
    have free : (softReset s).settleMutes.sender ⟨k, hk⟩ = none := by
      rw [State.sender_congr (settleMutes_keeps _).2.1]
      exact still.senders _
    have word := shown (.sender ⟨k, hk⟩)
    rw [ShownItem.value, free] at word
    exact word
  · have word := shown .count
    rw [ShownItem.value, (settleMutes_keeps _).2.2.1, still.waitList] at word
    exact word
  · intro p
    have here : 0x005 ≤ profileAddress p + 28 ∧ profileAddress p + 28 < 0xA00 := by
      unfold profileAddress; omega
    refine (settle_peek_other _ _ _ (profileAddress_not_shown p 28 (by decide))).trans
      ((closePage_peek_low (resetParts s) here.1 here.2).trans ?_)
    exact dropProfiles_peek (clearImages_store (freePool_store (refuseHeld_sound sound))) p
  · intro n i hi
    have word := shown (.image n ⟨i, hi⟩)
    rw [ShownItem.value_image_of_out (by rw [settleMutes_line, softReset_line]; rfl)] at word
    exact word
  · rw [capture]
    exact closePage_filling _
  · rw [capture, closePage_loss, captureParts]
  · intro none
    have closed := closePage_of_none (s := resetParts s) (by rw [captureParts]; exact none)
    rw [capture, causes, closed, captureParts, parts]
    exact ⟨rfl, rfl⟩
  · intro f filling
    have filling' : (resetParts s).capture.filling = some f := by rw [captureParts]; exact filling
    obtain ⟨mark, used⟩ := closePage_shows soundParts filling'
    obtain ⟨last, fill⟩ := closePage_shows_header soundParts filling'
    have high := (pageAddress_high s.capture.nextPage).1
    rw [captureParts] at mark used last fill
    refine ⟨(outside (.inr high)).trans mark, (outside (.inr (by omega))).trans used,
      (outside (.inl (by decide))).trans last, ?_, ?_, ?_⟩
    · rw [outside (.inl (by decide)), fill, next_page_val]
    · rw [causes, closePage_of_filling filling']
      rfl
    · have closed : (closePage (resetParts s)).capture =
          { (resetParts s).capture with
            filling := none, nextPage := (resetParts s).capture.nextPage + 1
            sequence := nextSequence (resetParts s).capture.sequence } := by
        rw [closePage_of_filling filling']
        rfl
      rw [capture, closed, captureParts]
      rfl
  · refine ((softReset_frame s).trans (settle_frame s _)).mono fun r hr => ?_
    simp only [shownRegions, List.mem_append, List.not_mem_nil, or_false] at hr ⊢
    obtain ((((held | header) | image) | status) | closed) | header | image := hr
    · exact .inl (.inl (.inl (.inr held)))
    · exact .inl (.inl (.inl (.inl header)))
    · exact .inl (.inr image)
    · exact .inl (.inl (.inr status))
    · exact .inr closed
    · exact .inl (.inl (.inl (.inl header)))
    · exact .inl (.inr image)
  · rw [causes, closePage_causes, parts]
  · rw [causes, closePage_causes, parts]
  · rw [causes, closePage_causes, parts]
  · clear outside shown line captureParts soundParts capture causes write
    generalize settle s (softReset s) = t at *
    generalize softReset s = r at *
    rw [form] at settled
    have profiles : t.profiles = r.profiles := (congrArg State.profiles settled :)
    have senders : t.senders = Vector.replicate 12 none := (congrArg State.senders settled :)
    have waitList : t.waitList = [] := (congrArg State.waitList settled :)
    have board : t.board = { s.board with accepted := [] } := (congrArg State.board settled :)
    have capture : t.capture = (closePage (resetParts s)).capture := (congrArg State.capture settled :)
    have causes : t.causes = (closePage (resetParts s)).causes := (congrArg State.causes settled :)
    rw [profiles, senders, waitList, board, capture, causes]
    exact settled

end Sys2Proof.Machine
end

section
/-! The tick part of a boundary, the age of the filling page, and the frames of the senders (R1, R2, R127 to R131,
R152, R169). -/

namespace Sys2Proof.Machine

variable {s t u : State} {n m : LineNo} {k j : SenderNo} {b : Binding} {f : Filling}

/-! ### The tick part -/

theorem clamp_eq_max_min {low high : Nat} (h : low ≤ high) (v : Nat) :
    clamp low high v = max low (min high v) := by
  unfold clamp
  split
  · omega
  · split <;> omega

theorem closeAge_eq (s : State) : closeAge s = max 2 (min 1000 (s.peek 0x002).toNat) :=
  clamp_eq_max_min (by decide) _

/-- The order unit when a sweep is requested: one begins, or the request is held (R156). -/
def OrderBoard.requested (b : OrderBoard) : OrderBoard :=
  if b.sweepAt.isSome then { b with sweepHeld := true } else { b with sweepAt := some 0 }

theorem requestSweep_eq (s : State) : requestSweep s = { s with board := s.board.requested } := by
  unfold requestSweep OrderBoard.requested
  cases s.board.sweepAt <;> simp [State.setSweep]

/-- A filling page one tick older (R169). -/
def Capture.aged (c : Capture) : Capture :=
  { c with filling := c.filling.map fun f => { f with age := f.age + 1 } }

/-- The clock at a tick boundary (R2). -/
def ticked (s : State) : State :=
  s.setTimeBase
    { s.timeBase with clock := s.timeBase.clock + 1, begun := true, tickTaken := true, ageDue := true }

/-- The tick part of a boundary: the clock, the sweep at an even tick, the page's age (R2, R156, R169). -/
theorem takeTick_eq (s : State) :
    takeTick s = { s with
      timeBase :=
        { s.timeBase with clock := s.clock + 1, begun := true, tickTaken := true, ageDue := true }
      board := if (s.clock + 1).toNat % 2 = 0 then s.board.requested else s.board
      capture := s.capture.aged } := by
  have parts : takeTick s =
      raisePageAge (if (s.clock + 1).toNat % 2 = 0 then requestSweep (ticked s) else ticked s) := rfl
  rw [parts, requestSweep_eq]
  split <;> rfl

/-! ### The page's age -/

theorem ageCloseDue_of_aged (due : s.timeBase.ageDue = true) (h : s.capture.filling = some f)
    (aged : closeAge s ≤ f.age) : ageCloseDue s = true := by
  simp [ageCloseDue, due, h, aged]

theorem takeAgeClose_of_due (h : ageCloseDue s = true) :
    takeAgeClose s = (closePage s).setTimeBase { (closePage s).timeBase with ageDue := false } := by
  unfold takeAgeClose
  rw [h]
  rfl

/-- The closing of a page shows nothing of the part, and no word of the store but those of R169. -/
theorem event_takeAgeClose (mute : MuteSound s) (due : ageCloseDue s = true)
    (h : s.capture.filling = some f) :
    event takeAgeClose s =
      { s with
        store := (closePage s).store, timeBase := { s.timeBase with ageDue := false }
        capture := { s.capture with
          filling := none, nextPage := s.capture.nextPage + 1
          sequence := nextSequence s.capture.sequence }
        causes := { s.causes with page := true } } := by
  have closed : takeAgeClose s =
      { s with
        store := (closePage s).store, timeBase := { s.timeBase with ageDue := false }
        capture := { s.capture with
          filling := none, nextPage := s.capture.nextPage + 1
          sequence := nextSequence s.capture.sequence }
        causes := { s.causes with page := true } } := by
    rw [takeAgeClose_of_due due, closePage_of_filling h]
    rfl
  unfold event
  rw [closed]
  exact settle_of_same mute rfl rfl (fun _ => rfl) rfl

/-- Settles O5: the tick part, and the closing of a page that has reached its age. -/
theorem tickAdvancesClockAndAgedPageCloses : Obligations.TickAdvancesClockAndAgedPageCloses := by
  unfold Obligations.TickAdvancesClockAndAgedPageCloses
  refine ⟨fun s ready last taken => ?_, fun s f sound mute ready due filling aged => ?_⟩
  · have tick : exec .tickBoundary s = .next (takeTick s) := by
      change occurs (s.ready && tickDue s) (takeTick s) s = _
      unfold occurs tickDue
      rw [ready, last, taken]
      rfl
    exact ⟨_, tick, by rw [takeTick_eq]; rfl, by rw [takeTick_eq]; rfl⟩
  · have isDue := ageCloseDue_of_aged due filling ((closeAge_eq s).trans_le aged)
    have closes : exec .pageCloseAge s = .next (event takeAgeClose s) := by
      change occurs (s.ready && ageCloseDue s) (event takeAgeClose s) s = _
      unfold occurs
      rw [ready, isDue]
      rfl
    obtain ⟨mark, used⟩ := closePage_shows sound filling
    obtain ⟨last, fill⟩ := closePage_shows_header sound filling
    have frame := closePage_frame s
    unfold closingRegions at frame
    rw [filling] at frame
    refine ⟨_, closes, ?_⟩
    rw [event_takeAgeClose mute isDue filling]
    exact ⟨mark, used, last, fill.trans (by rw [next_page_val]), frame, rfl⟩

/-! ### The end of a TONE -/

theorem recordWords_eq (kind : RecordKind) (n : LineNo) (time : Tick) (body : List Word) :
    recordWords kind n.val time body =
      asWord (recordValue kind * 4096 + (body.length + 2) * 256 + n.val) :: time :: body := by
  unfold recordWords
  rw [Nat.mod_eq_of_lt (by omega)]

theorem sentWords (n : LineNo) (time : Tick) (w : Word) :
    recordWords .sent n.val time [w] = [asWord (0x6300 + n.val), time, w] := by
  rw [recordWords_eq]
  simp only [recordValue, List.length_cons, List.length_nil]

theorem sentBody_eq (code : Nat) (origin : Origin) (k : SenderNo) (h : code < 16) :
    sentBody code origin k.val =
      [asWord (code + (if origin = .ordered then 16 else 0) + 256 * k.val)] := by
  have bit : originBit origin * 16 = if origin = .ordered then 16 else 0 := by cases origin <;> rfl
  unfold sentBody
  rw [Nat.mod_eq_of_lt h, bit, Nat.mod_eq_of_lt (by omega), Nat.mul_comm]

theorem LastFrame.ends {p : SendPhase} (h : LastFrame k b p s) : phaseEnds b = true := by
  obtain ⟨-, -, -, started, last⟩ := h
  simp [phaseEnds, started, last]

theorem LastFrame.due {p : SendPhase} (h : LastFrame k b p s) : senderEndDue k p s = true := by
  have ends := LastFrame.ends h
  obtain ⟨ready, bound, phase, -⟩ := h
  simp [senderEndDue, ready, bound, phase, ends]

/-- A sender at the end of its TONE: in GAP for its pause, from its first frame on (R129). -/
def Binding.gap (b : Binding) : Binding :=
  { b with phase := .gap, countdown := b.tone.offMs * 8, started := false }

theorem toneEnds_of_silent (bound : s.sender k = some b)
    (silent : ((s.line b.line).call.map (·.reportSent)).getD false = false) :
    toneEnds k s = s.setSender k (some b.gap) := by
  unfold toneEnds
  rw [bound]
  exact if_neg (by rw [silent]; exact Bool.false_ne_true)

theorem toneEnds_of_reporting (bound : s.sender k = some b)
    (reports : ((s.line b.line).call.map (·.reportSent)).getD false = true) :
    toneEnds k s = capture .sent b.line (sentBody b.code b.origin k.val) (s.setSender k (some b.gap)) := by
  unfold toneEnds
  rw [bound]
  exact if_pos reports

/-- Whether it is recorded or not, the end of a TONE changes the one sender, and the capture unit. -/
theorem toneEnds_reports (bound : s.sender k = some b) :
    Reports (s.setSender k (some b.gap)) (toneEnds k s) := by
  cases reports : ((s.line b.line).call.map (·.reportSent)).getD false with
  | false => rw [toneEnds_of_silent bound reports]; exact .refl _
  | true => rw [toneEnds_of_reporting bound reports]; exact capture_reports ..

theorem event_toneEnds (mute : MuteSound s) (bound : s.sender k = some b) :
    event (toneEnds k) s = toneEnds k s := by
  obtain ⟨-, -, -, -, lines, profiles, senders, waitList, -⟩ := (toneEnds_reports bound).keeps
  refine settle_of_same mute lines profiles (fun j => ?_) (congrArg List.length waitList)
  rw [State.sender_congr senders]
  exact setSender_line_of_same_line (c := b.gap) bound rfl j

/-- Settles O20: the sender is in GAP, and a SENT record goes to the capture unit where the call asks for one. -/
theorem toneEndsInGap : Obligations.ToneEndsInGap := by
  unfold Obligations.ToneEndsInGap
  intro k b c s sound mute last code call
  have due := LastFrame.due last
  obtain ⟨ready, bound, -⟩ := last
  have reports := toneEnds_reports bound
  obtain ⟨-, -, timeBase, -, -, -, senders, -⟩ := reports.keeps
  have row : exec (.toneEnd k) s = .next (beginBoundary (toneEnds k s)) := by
    change occurs (senderEndDue k .tone s) (beginBoundary (event (toneEnds k) s)) s = _
    unfold occurs
    rw [due, event_toneEnds mute bound]
    rfl
  have asks : ((s.line b.line).call.map (·.reportSent)).getD false = c.reportSent := by rw [call]; rfl
  refine ⟨_, row, ?_, fun j other => ?_, ?_, fun silent => ?_, fun addr reporting goes => ?_⟩
  · exact (State.sender_congr senders k).trans (State.setSender_sender_same _ _ _)
  · exact (State.sender_congr senders j).trans (State.setSender_sender_other _ _ _ _ other)
  · unfold Reports at reports
    generalize toneEnds k s = u at *
    rw [reports]
    rfl
  · rw [toneEnds_of_silent bound (asks.trans silent)]
    exact ⟨rfl, rfl, rfl⟩
  · have goes' : RecordGoesTo (s.setSender k (some b.gap)) 3 addr := goes
    rw [toneEnds_of_reporting bound (asks.trans reporting), sentBody_eq _ _ _ code]
    have words := capture_words (s := s.setSender k (some b.gap)) .sent b.line
      [asWord (b.code + (if b.origin = .ordered then 16 else 0) + 256 * k.val)] sound goes'
    have frame := capture_frame (s := s.setSender k (some b.gap)) .sent b.line
      [asWord (b.code + (if b.origin = .ordered then 16 else 0) + 256 * k.val)] goes'
    rw [sentWords] at words
    refine ⟨words, frame, ?_⟩
    · rw [capture_goes .sent b.line _ goes']
      rfl

end Sys2Proof.Machine
end

section
/-! The entry in flight finishes, and a sender at the end of its GAP takes the next head or becomes FREE (R109, R113,
R115, R131). -/

namespace Sys2Proof.Machine

variable {s t u : State} {n m : LineNo} {k j : SenderNo} {b : Binding} {f : Flight} {r : OrderRecord}
  {slot : SlotNo} {sent : Nat}

/-! ### The finish -/

theorem orderLeft_eq (r : OrderRecord) : orderLeft r = r.finish.1 := by
  cases r with
  | release slot sent last => cases last <;> rfl
  | inject slot sent remaining =>
    unfold orderLeft OrderRecord.finish
    dsimp only
    split <;> rfl

/-- A line whose entry in flight has finished: nothing in flight, and the order record it belonged to taken into
account (R109, R113, R115). -/
def Line.done (f : Flight) (l : Line) : Line :=
  { l with
    queue :=
      { l.queue with
        flight := none, order := if f.owned then l.queue.order.bind orderLeft else l.queue.order } }

/-- What the finish of an entry comes to beside its own line: nothing, or the completion of its order. -/
inductive Finishes (n : LineNo) (f : Flight) (s : State) : State → Prop
  | alone (h : ∀ r, f.owned = true → (s.line n).queue.order = some r → r.finish.2 = none) :
    Finishes n f s (s.setLine n ((s.line n).done f))
  | completes (r : OrderRecord) (slot : SlotNo) (sent : Nat) (owned : f.owned = true)
      (order : (s.line n).queue.order = some r) (ends : r.finish.2 = some (slot, sent)) :
    Finishes n f s (completeOrder slot .ok sent (s.setLine n ((s.line n).done f)))

theorem finishFlight_finishes (flight : (s.line n).queue.flight = some f) :
    Finishes n f s (finishFlight n s) := by
  obtain ⟨e, owned⟩ := f
  unfold finishFlight
  dsimp only
  rw [flight]
  cases owned with
  | false => exact .alone nofun
  | true =>
    cases order : (s.line n).queue.order with
    | none =>
      have same : s.modQueue n (fun q => { q with flight := none }) =
          s.setLine n ((s.line n).done { entry := e, owned := true }) := by
        unfold State.modQueue State.modLine Line.done
        dsimp only
        rw [order]
        rfl
      dsimp only
      rw [same]
      exact .alone fun r _ some => by rw [order] at some; cases some
    | some r =>
      have same : (s.modQueue n fun q => { q with flight := none }).modQueue n
          (fun q => { q with order := r.finish.1 }) =
            s.setLine n ((s.line n).done { entry := e, owned := true }) := by
        unfold State.modQueue
        rw [State.modLine_modLine]
        unfold State.modLine Line.done
        dsimp only
        rw [order, ← orderLeft_eq]
        rfl
      dsimp only
      rw [same]
      cases ends : r.finish.2 with
      | none => exact .alone fun r' _ some => by rw [order] at some; cases some; exact ends
      | some done => exact .completes r done.1 done.2 rfl order ends

theorem Finishes.answers (h : Finishes n f s t) : Answers (s.setLine n ((s.line n).done f)) t := by
  cases h with
  | alone => exact .refl _
  | completes => exact completeOrder_answers ..

theorem Finishes.sound (h : Finishes n f s t) (sound : StoreSound s) : StoreSound t := by
  cases h with
  | alone => exact sound
  | completes r slot sent => exact completeOrder_sound (s := s.setLine n ((s.line n).done f)) sound slot .ok sent

theorem Finishes.readTone (h : Finishes n f s t) (targets : MarkTargetsSound s) {code : Nat} (small : code < 16) :
    Machine.readTone t.store code = Machine.readTone s.store code := by
  cases h with
  | alone => rfl
  | completes r slot sent =>
    exact completeOrder_readTone (s := s.setLine n ((s.line n).done f)) targets slot .ok sent small

/-- Behind a finish the line sends as it would without the completion of its order. -/
theorem Finishes.sendsAlike (h : Finishes n f s t) (targets : MarkTargetsSound s) (entries : EntriesSound s) :
    SendsAlike (s.setLine n ((s.line n).done f)) t := by
  have tones := fun {code} => h.readTone targets (code := code)
  obtain ⟨-, -, timeBase, -, lines, -, senders, waitList, -, -, control⟩ := h.answers.keeps
  refine ⟨fun m => ?_, senders, waitList, ?_, ?_, fun m e he code kind => ?_⟩
  · rw [State.line_congr lines]
    exact .refl _
  · unfold State.sendHold
    rw [control]
  · unfold State.clock
    rw [timeBase]
  · refine tones (Entry.inRange_tone (e := e) ?_ kind)
    rw [State.setLine_line] at he
    split at he
    next same => exact (entries n).1 e he
    next => exact (entries m).1 e he

/-- At the last entry of a RELEASE or INJECT the order is DONE with its sent count (R113, R115). -/
theorem Finishes.shows (h : Finishes n f s t) (sound : StoreSound s) (targets : MarkTargetsSound s)
    (owned : f.owned = true)
    (order : (s.line n).queue.order = some (.inject slot sent 1) ∨
      (s.line n).queue.order = some (.release slot sent true)) :
    SlotShows t slot slotDone .ok sent ∧ t.slotHeld slot = false ∧ t.causes.order = true := by
  have finish : ∃ r, (s.line n).queue.order = some r ∧ r.finish.2 = some (slot, sent) := by
    obtain order | order := order
    · exact ⟨_, order, rfl⟩
    · exact ⟨_, order, rfl⟩
  obtain ⟨r, order, ends⟩ := finish
  cases h with
  | alone h =>
    have := h r owned order
    rw [ends] at this
    cases this
  | completes r' slot' sent' _ order' ends' =>
    rw [order] at order'
    cases order'
    rw [ends] at ends'
    cases ends'
    exact ⟨completeOrder_shows (s := s.setLine n ((s.line n).done f)) sound targets slot .ok sent,
      completeOrder_slotHeld .., completeOrder_order ..⟩

theorem Finishes.line_same (h : Finishes n f s t) : t.line n = (s.line n).done f := by
  rw [h.answers.line, State.setLine_line_same]

theorem Finishes.line_other (h : Finishes n f s t) (other : m ≠ n) : t.line m = s.line m := by
  rw [h.answers.line, State.setLine_line_other _ _ _ _ other]

theorem Finishes.pool (h : Finishes n f s t) :
    t.senders = s.senders ∧ t.waitList = s.waitList ∧ t.sendHold = s.sendHold := by
  obtain ⟨-, -, -, -, -, -, senders, waitList, -, -, control⟩ := h.answers.keeps
  refine ⟨senders, waitList, ?_⟩
  unfold State.sendHold
  rw [control]
  rfl

/-! ### The end of a GAP -/

/-- A line with a sender bound to it is mute (R32). -/
theorem State.muteOn_of_bound (active : (s.line n).mode = .active) (bound : s.sender k = some b)
    (line : b.line = n) : s.muteOn n = true := by
  have some : (s.boundSender n).isSome = true :=
    List.find?_isSome.mpr ⟨k, List.mem_finRange k, by simp [boundTo, bound, line]⟩
  unfold State.muteOn
  rw [active]
  simp [some]

theorem gapEnds_continues (bound : s.sender k = some b) (flight : (s.line b.line).queue.flight = some f)
    (ready : ((s.line b.line).done f).toneReady = true) (clear : s.sendHold = false) :
    gapEnds k s = bindSender k b.line (finishFlight b.line s) := by
  have fin := finishFlight_finishes flight
  unfold gapEnds
  rw [bound]
  dsimp only
  rw [fin.line_same, ready, fin.pool.2.2, clear]
  rfl

theorem gapEnds_frees (bound : s.sender k = some b) (flight : (s.line b.line).queue.flight = some f)
    (rests : s.sendHold = true ∨ ((s.line b.line).done f).toneReady = false) :
    gapEnds k s =
      grantOnce (examineHead b.line ((finishFlight b.line s).setSender k none)) := by
  have fin := finishFlight_finishes flight
  unfold gapEnds
  rw [bound]
  dsimp only
  rw [fin.line_same, fin.pool.2.2]
  refine if_neg ?_
  obtain held | not := rests
  · simp [held]
  · simp [not]

/-- What the end of a GAP does beside the finish is sending. -/
theorem gapEnds_sends (bound : s.sender k = some b) :
    Sends (finishFlight b.line s) (gapEnds k s) := by
  unfold gapEnds
  rw [bound]
  dsimp only
  split
  · exact bindSender_sends k b.line _
  · exact Sends.trans (t := (finishFlight b.line s).setSender k none) rfl
      ((examineHead_sends _ _).trans (grantOnce_sends _))

theorem Line.done_sendable (l : Line) (f : Flight) (e : Entry) : (l.done f).sendable e = l.sendable e := rfl

theorem Line.toneReady_of_tone {l : Line} {e : Entry} {rest : List Entry} {code : Nat}
    (active : l.mode = .active) (flight : l.queue.flight = none) (head : l.queue.entries = e :: rest)
    (kind : e.kind = .tone code) (sendable : l.sendable e = true) : l.toneReady = true := by
  rw [Line.toneReady_of_head active flight head, kind]
  exact sendable

/-- A sender that takes a line's head itself: the new binding, and the line behind its head. -/
theorem bindSender_takes {l : Line} {e : Entry} {rest : List Entry} {code : Nat} (line : s.line n = l)
    (head : l.queue.entries = e :: rest) (kind : e.kind = .tone code) :
    bindSender k n s =
      (s.setLine n l.leaveHead).setSender k (some (newBinding n code e.origin (readTone s.store code))) := by
  obtain ⟨ekind, origin, owner⟩ := e
  obtain rfl : ekind = .tone code := kind
  have entries : (s.line n).queue.entries = { kind := .tone code, origin := origin, owner := owner } :: rest := by
    rw [line]; exact head
  rw [bindSender_of_tone entries]
  unfold State.modLine
  rw [line]

/-- An empty queue without a request has nothing to examine. -/
theorem examineHead_of_empty (empty : (s.line n).queue.entries = [])
    (calm : (s.line n).queue.waiting = false) : examineHead n s = s := by
  unfold examineHead
  dsimp only
  split
  · rfl
  · rw [empty]
    exact withdrawRequest_of_calm calm

/-- The status word of a bound sender is not that of a FREE one (R138). -/
theorem senderStatusWord_bound (b : Binding) : senderStatusWord (some b) ≠ senderStatusWord none := by
  intro same
  have := asWord_inj (a := b.line.val) (b := 0xFFFF) (by omega) (by decide) same
  omega

/-- A sendable TONE at the head goes to the sender itself, without a request (R109, R131). -/
theorem gapEnds_takes {e : Entry} {rest : List Entry} {code : Nat} (targets : MarkTargetsSound s)
    (entries : EntriesSound s) (bound : s.sender k = some b)
    (flight : (s.line b.line).queue.flight = some f) (active : (s.line b.line).mode = .active)
    (head : (s.line b.line).queue.entries = e :: rest) (kind : e.kind = .tone code)
    (sendable : (s.line b.line).sendable e = true) (clear : s.sendHold = false) :
    gapEnds k s =
      ((finishFlight b.line s).setLine b.line ((s.line b.line).done f).leaveHead).setSender k
        (some (newBinding b.line code e.origin (readTone s.store code))) := by
  have fin := finishFlight_finishes flight
  have toneReady : ((s.line b.line).done f).toneReady = true :=
    Line.toneReady_of_tone active rfl head kind sendable
  have small : code < 16 := Entry.inRange_tone ((entries b.line).1 e (by rw [head]; simp)) kind
  rw [gapEnds_continues bound flight toneReady clear,
    bindSender_takes (l := (s.line b.line).done f) fin.line_same head kind, fin.readTone targets small]

/-- With nothing queued and nobody waiting the sender is FREE (R131). -/
theorem gapEnds_rests (bound : s.sender k = some b) (flight : (s.line b.line).queue.flight = some f)
    (empty : (s.line b.line).queue.entries = []) (calm : (s.line b.line).queue.waiting = false)
    (nobody : s.waitList = []) :
    gapEnds k s = (finishFlight b.line s).setSender k none := by
  have fin := finishFlight_finishes flight
  have notReady : ((s.line b.line).done f).toneReady = false := Line.toneReady_of_empty empty
  have line : ((finishFlight b.line s).setSender k none).line b.line = (s.line b.line).done f :=
    fin.line_same
  rw [gapEnds_frees bound flight (.inr notReady),
    examineHead_of_empty (s := (finishFlight b.line s).setSender k none) (by rw [line]; exact empty)
      (by rw [line]; exact calm)]
  exact grantOnce_of_no_request (fin.pool.2.1.trans nobody)

/-- Settles O21: the finish of the entry, and then the binding of the next head or the FREE sender. -/
theorem gapEndContinuesOrFrees : Obligations.GapEndContinuesOrFrees := by
  unfold Obligations.GapEndContinuesOrFrees
  intro k b f s sound targets entries last flight q ended
  have due := LastFrame.due last
  obtain ⟨ready, bound, -⟩ := last
  have row : exec (.gapEnd k) s = .next (beginBoundary (settle s (gapEnds k s))) := by
    change occurs (senderEndDue k .gap s) (beginBoundary (event (gapEnds k) s)) s = _
    unfold occurs event
    rw [due]
    rfl
  have fin := finishFlight_finishes flight
  obtain ⟨senders, waitList, -⟩ := fin.pool
  have sends := gapEnds_sends bound
  have settles := settle_settlesAs s (gapEnds k s)
  have takes {e : Entry} {rest : List Entry} {code : Nat} := gapEnds_takes (e := e) (rest := rest)
    (code := code) targets entries bound flight
  have rests := gapEnds_rests bound flight
  have frees := gapEnds_frees bound flight (b := b) (f := f)
  have lineEnded : (finishFlight b.line s).line b.line = ended := fin.line_same
  have soundEnd := fin.sound sound
  generalize finishFlight b.line s = v at *
  have senderEnded (j : SenderNo) : v.sender j = s.sender j := State.sender_congr senders j
  refine ⟨_, row, fun slot sent owned order => ?_, fun e rest code active head kind sendable clear => ?_,
    fun holds => ?_, fun empty calm nobody => ?_⟩
  · obtain ⟨shows, held, raised⟩ := fin.shows sound targets owned order
    obtain ⟨-, -, -, -, -, -, board, -, -, causes, store⟩ := sends.keeps
    have word (i : Nat) (hi : i < 8) : (settle s (gapEnds k s)).peek (slotAddress slot + i) =
        v.peek (slotAddress slot + i) :=
      (settle_peek_other _ _ _ (slotAddress_not_shown slot hi)).trans (State.peek_congr store _)
    have boardKept : (settle s (gapEnds k s)).board = v.board := (settle_board s _).trans board
    have causesKept : (settle s (gapEnds k s)).causes = v.causes :=
      (congrArg State.causes (settle_eq s (gapEnds k s)) :).trans causes
    clear settles
    generalize settle s (gapEnds k s) = w at *
    refine ⟨⟨(word 0 (by decide)).trans shows.1, (word 7 (by decide)).trans shows.2⟩, ?_, ?_⟩
    · exact (congrArg (fun d : OrderBoard => d.accepted.any fun o => o.slot == slot) boardKept).trans held
    · exact (congrArg Causes.order causesKept).trans raised
  · have takes : gapEnds k s = (v.setLine b.line ended.leaveHead).setSender k
        (some (newBinding b.line code e.origin (readTone s.store code))) :=
      takes active head kind sendable clear
    obtain ⟨lines, sendersKept, waitListKept⟩ := settles
    have senderNow (j : SenderNo) : (settle s (gapEnds k s)).sender j = (gapEnds k s).sender j :=
      State.sender_congr sendersKept j
    have binding : (gapEnds k s).sender k =
        some (newBinding b.line code e.origin (readTone s.store code)) := by
      rw [takes, State.setSender_sender_same]
    have behind : (gapEnds k s).line b.line = ended.leaveHead := by
      rw [takes, State.setSender_line, State.setLine_line_same]
    have stillActive : ended.leaveHead.mode = .active :=
      (Line.leaveHead_queueOnly ended).sendOnly.mode.trans active
    have mute : (settle s (gapEnds k s)).muteOn b.line = true := by
      rw [settle_muteOn]
      exact State.muteOn_of_bound (by rw [behind]; exact stillActive) binding rfl
    obtain ⟨left, -, waits, -, credit⟩ := Line.leaveHead_queue (l := ended) head
    have lineNow : (settle s (gapEnds k s)).line b.line = { ended.leaveHead with mute := true } := by
      rw [lines, mute, behind]
    generalize settle s (gapEnds k s) = w at *
    refine ⟨(senderNow k).trans binding, fun j other => ?_, ?_, lineNow, ?_, ?_, ?_, ?_, fun m other => ?_⟩
    · refine (senderNow j).trans ?_
      rw [takes, State.setSender_sender_other _ _ _ _ other]
      exact senderEnded j
    · exact waitListKept.trans (by rw [takes]; exact waitList)
    · exact (congrArg (fun l : Line => l.queue.entries) lineNow).trans left
    · exact (congrArg (fun l : Line => l.queue.waiting) lineNow).trans waits
    · refine (congrArg (fun l : Line => l.queue.flight.map (·.entry)) lineNow).trans ?_
      unfold Line.leaveHead
      rw [show ended.queue.entries = e :: rest from head]
      rfl
    · refine (congrArg (fun l : Line => l.queue.credit) lineNow).trans (credit.trans ?_)
      change (if ended.usesCredit e = true then q.credit - 1 else q.credit) = _
      unfold Line.usesCredit
      simp only [Bool.and_eq_true, decide_eq_true_eq]
      rfl
    · refine (lines m).trans ?_
      rw [takes, State.setSender_line, State.setLine_line_other _ _ _ _ other, fin.line_other other]
      rfl
  · have freed := frees holds
    have alike := (((fin.sendsAlike targets entries).setSender k none).examineHead b.line).grantOnce
    have sendOnly (x : State) (m : LineNo) :
        SendOnly (x.line m) ((grantOnce (examineHead b.line (x.setSender k none))).line m) :=
      (examineHead_sendOnly b.line (x.setSender k none) m).trans (grantOnce_queueOnly _ m).sendOnly
    have same : v.lines = (s.setLine b.line ((s.line b.line).done f)).lines := by
      obtain ⟨-, -, -, -, lines, -⟩ := fin.answers.keeps
      exact lines
    have equal := alike.lines_eq same (sendOnly _) (sendOnly _)
    rw [freed] at settles ⊢
    obtain ⟨lines, sendersKept, waitListKept⟩ := settles
    generalize settle s (grantOnce (examineHead b.line (v.setSender k none))) = w at *
    refine ⟨fun m => ?_, sendersKept.trans alike.senders, waitListKept.trans alike.waitList⟩
    refine (lines m).trans ?_
    rw [equal m]
    rfl
  · have freed : gapEnds k s = v.setSender k none := rests empty calm nobody
    obtain ⟨lines, sendersKept, -⟩ := settles
    have senderNow (j : SenderNo) : (settle s (gapEnds k s)).sender j = (v.setSender k none).sender j :=
      (State.sender_congr sendersKept j).trans (by rw [freed])
    have lineNow : ((settle s (gapEnds k s)).line b.line).queue = ended.queue := by
      rw [lines, freed, State.setSender_line, lineEnded]
    have free : (gapEnds k s).settleMutes.sender k = none := by
      rw [State.sender_congr (settleMutes_keeps _).2.1, freed, State.setSender_sender_same]
    have word : (settle s (gapEnds k s)).peek (senderStatusAddress k.val) = 0xFFFF := by
      have soundFreed : StoreSound (gapEnds k s) := by rw [freed]; exact soundEnd
      have shown := settle_shows (s := s) soundFreed (.sender k) fun same => by
        rw [ShownItem.value, ShownItem.value, free, bound] at same
        exact absurd same (senderStatusWord_bound b)
      rw [ShownItem.value, free] at shown
      exact shown
    generalize settle s (gapEnds k s) = w at *
    refine ⟨(senderNow k).trans (State.setSender_sender_same _ _ _), fun j other => ?_, word, lineNow⟩
    exact (senderNow j).trans ((State.setSender_sender_other _ _ _ _ other).trans (senderEnded j))

end Sys2Proof.Machine
end

section
/-! A frame boundary: the senders one after another, the strobe and the next phase, and the content of the frame that
begins (R1 to R4, R13, R148, R152). -/

namespace Sys2Proof.Machine

variable {s t u : State} {n m : LineNo} {k j : SenderNo} {b : Binding} {f : Flight}

/-! ### What sending may bind -/

/-- Senders that were FREE may be bound, to begin their TONE with the next frame; the others stand. -/
def BindsFree (s t : State) : Prop :=
  ∀ j, t.sender j = s.sender j ∨ s.sender j = none ∧ ∃ c, t.sender j = some c ∧ c.started = false

theorem BindsFree.refl (s : State) : BindsFree s s := fun _ => .inl rfl

theorem BindsFree.of_senders (h : t.senders = s.senders) : BindsFree s t := fun j =>
  .inl (State.sender_congr h j)

theorem BindsFree.trans (h : BindsFree s t) (g : BindsFree t u) : BindsFree s u := fun j => by
  obtain same | ⟨free, c, bound, fresh⟩ := g j
  · rw [same]
    exact h j
  · obtain same | ⟨-, c', bound', -⟩ := h j
    · exact .inr ⟨same ▸ free, c, bound, fresh⟩
    · rw [bound'] at free
      cases free

theorem bindSender_binds (n : LineNo) (free : s.sender k = none) : BindsFree s (bindSender k n s) := by
  unfold bindSender
  split
  next code origin _ _ _ =>
    intro j
    by_cases same : j = k
    · subst same
      exact .inr ⟨free, _, State.setSender_sender_same _ _ _, rfl⟩
    · exact .inl (State.setSender_sender_other _ _ _ _ same)
  next => exact .refl s

theorem grantOnce_binds (s : State) : BindsFree s (grantOnce s) := by
  generalize grant : grantOnce s = t
  cases grant ▸ grantOnce_granted s with
  | held => exact .refl s
  | full => exact .refl s
  | binds k r clear free best =>
    exact bindSender_binds (s := s.setWaitList (withoutRequest r.line s.waitList)) r.line
      (State.freeSender_free free)

theorem examineHead_binds (n : LineNo) (s : State) : BindsFree s (examineHead n s) := by
  generalize outcome : examineHead n s = t
  cases outcome ▸ examineHead_examination n s with
  | stands => exact .refl s
  | waits => exact .refl s
  | posts => exact grantOnce_binds (asking n s)
  | withdraws => exact .of_senders (withdrawRequest_senders n s)
  | recalls => exact .of_senders (withdrawRequest_senders n s)
  | pauses => exact .of_senders (withdrawRequest_senders n s)

theorem settle_binds (h : BindsFree s t) (b : State) : BindsFree s (settle b t) :=
  h.trans (.of_senders (settle_keeps b t).1)

/-! ### One sender's part of a boundary -/

/-- A sender whose TONE or GAP does not end: its countdown one frame on, once it has begun (R129, R131). -/
def Binding.counted (b : Binding) : Binding :=
  if b.started then { b with countdown := b.countdown - 1 } else b

theorem Binding.nextFrame_eq (b : Binding) : b.nextFrame = afterSample b.counted := by
  obtain ⟨phase, line, code, origin, tone, low, high, countdown, started⟩ := b
  cases phase <;> cases started <;> rfl

theorem State.setSender_self (s : State) (k : SenderNo) : s.setSender k (s.sender k) = s := by
  unfold State.setSender State.sender
  simp

theorem senderBoundary_counts (h : ∀ b ∈ s.sender k, phaseEnds b = false) :
    senderBoundary k s = s.setSender k ((s.sender k).map Binding.counted) := by
  unfold senderBoundary
  split
  next free => rw [free, Option.map_none, ← free, State.setSender_self]
  next b bound =>
    rw [bound, Option.map_some]
    unfold Binding.counted
    cases started : b.started with
    | false =>
      rw [if_neg Bool.false_ne_true, ← bound, State.setSender_self]
      rfl
    | true =>
      rw [h b bound]
      rfl

theorem senderBoundary_tone (bound : s.sender k = some b) (ends : phaseEnds b = true) (phase : b.phase = .tone) :
    senderBoundary k s = event (toneEnds k) s := by
  have started : b.started = true := by
    unfold phaseEnds at ends
    exact (Bool.and_eq_true _ _ ▸ ends).1
  unfold senderBoundary
  rw [bound]
  dsimp only
  rw [started, ends, phase]
  rfl

theorem senderBoundary_gap (bound : s.sender k = some b) (ends : phaseEnds b = true) (phase : b.phase = .gap) :
    senderBoundary k s = event (gapEnds k) s := by
  have started : b.started = true := by
    unfold phaseEnds at ends
    exact (Bool.and_eq_true _ _ ▸ ends).1
  unfold senderBoundary
  rw [bound]
  dsimp only
  rw [started, ends, phase]
  rfl

theorem toneEnds_sender_other (other : j ≠ k) : (toneEnds k s).sender j = s.sender j := by
  cases bound : s.sender k with
  | none => unfold toneEnds; rw [bound]
  | some b =>
    obtain ⟨-, -, -, -, -, -, senders, -⟩ := (toneEnds_reports bound).keeps
    exact (State.sender_congr senders j).trans (State.setSender_sender_other _ _ _ _ other)

theorem finishFlight_senders (n : LineNo) (s : State) : (finishFlight n s).senders = s.senders := by
  obtain ⟨order, -, aside⟩ := finishFlight_aside n s
  exact aside.senders

/-- At the end of a GAP the other senders stand, or are bound as sending binds them. -/
theorem gapEnds_binds_other (other : j ≠ k) :
    (gapEnds k s).sender j = s.sender j ∨
      s.sender j = none ∧ ∃ c, (gapEnds k s).sender j = some c ∧ c.started = false := by
  unfold gapEnds
  split
  next => exact .inl rfl
  next b bound =>
    have finished : (finishFlight b.line s).sender j = s.sender j :=
      State.sender_congr (finishFlight_senders b.line s) j
    dsimp only
    split
    next => exact .inl ((bindSender_sender_other _ _ other).trans finished)
    next =>
      have freed : ((finishFlight b.line s).setSender k none).sender j = s.sender j :=
        (State.setSender_sender_other _ _ _ _ other).trans finished
      have sent := (examineHead_binds b.line ((finishFlight b.line s).setSender k none)).trans
        (grantOnce_binds _) j
      rw [freed] at sent
      exact sent

/-- Whatever becomes of one sender at a boundary, the others stand, or were FREE and are bound. -/
theorem senderBoundary_binds_other (other : j ≠ k) :
    (senderBoundary k s).sender j = s.sender j ∨
      s.sender j = none ∧ ∃ c, (senderBoundary k s).sender j = some c ∧ c.started = false := by
  have settled (t : State) : (settle s t).sender j = t.sender j :=
    State.sender_congr (settle_keeps s t).1 j
  cases bound : s.sender k with
  | none =>
    rw [senderBoundary_counts (by rw [bound]; exact nofun)]
    exact .inl (State.setSender_sender_other _ _ _ _ other)
  | some b =>
    cases ends : phaseEnds b with
    | false =>
      rw [senderBoundary_counts (by rw [bound]; rintro c ⟨⟩; exact ends)]
      exact .inl (State.setSender_sender_other _ _ _ _ other)
    | true =>
      cases phase : b.phase with
      | tone =>
        rw [senderBoundary_tone bound ends phase, event, settled]
        exact .inl (toneEnds_sender_other other)
      | gap =>
        rw [senderBoundary_gap bound ends phase, event, settled]
        exact gapEnds_binds_other other

theorem senderBoundary_lineWork (k : SenderNo) (s : State) : LineWork s (senderBoundary k s) := by
  unfold senderBoundary
  split
  · exact .refl s
  · split
    · exact .refl s
    · split
      · split
        · exact (toneEnds_work k s).trans (settle_work s _)
        · exact (gapEnds_work k s).trans (settle_work s _)
      · rfl

/-! ### All the senders -/

theorem foldl_senderBoundary_lineWork (l : List SenderNo) (s : State) :
    LineWork s (l.foldl (fun s k => senderBoundary k s) s) := by
  induction l generalizing s with
  | nil => exact .refl s
  | cons k l ih => exact (senderBoundary_lineWork k s).trans (ih _)

/-- A bound sender stands while the boundary is taken for others. -/
theorem foldl_senderBoundary_sender (l : List SenderNo) (absent : k ∉ l) (bound : s.sender k = some b) :
    (l.foldl (fun s k => senderBoundary k s) s).sender k = some b := by
  induction l generalizing s with
  | nil => exact bound
  | cons j l ih =>
    obtain ⟨other, absent⟩ := not_or.mp (List.mem_cons.not.mp absent)
    refine ih absent ?_
    obtain same | ⟨free, -⟩ := senderBoundary_binds_other (s := s) other
    · exact same.trans bound
    · rw [bound] at free; cases free

/-- Where no TONE or GAP ends, the boundary counts every sender down and does nothing else. -/
theorem foldl_senderBoundary_counts (l : List SenderNo) (distinct : l.Nodup)
    (h : ∀ j ∈ l, ∀ b ∈ s.sender j, phaseEnds b = false) :
    (∃ v, l.foldl (fun s k => senderBoundary k s) s = { s with senders := v }) ∧
      ∀ j, (l.foldl (fun s k => senderBoundary k s) s).sender j =
        if j ∈ l then (s.sender j).map Binding.counted else s.sender j := by
  induction l generalizing s with
  | nil => exact ⟨⟨_, rfl⟩, fun j => by simp⟩
  | cons k l ih =>
    obtain ⟨absent, distinct⟩ := List.nodup_cons.mp distinct
    have step := senderBoundary_counts (h k List.mem_cons_self)
    have others (j : SenderNo) (other : j ≠ k) : (senderBoundary k s).sender j = s.sender j := by
      rw [step, State.setSender_sender_other _ _ _ _ other]
    obtain ⟨⟨v, form⟩, counts⟩ := ih (s := senderBoundary k s) distinct fun j hj b hb =>
      h j (List.mem_cons_of_mem _ hj) b (by
        rwa [others j fun same => absent (same ▸ hj)] at hb)
    refine ⟨⟨v, ?_⟩, fun j => ?_⟩
    · rw [List.foldl_cons, form, step]
      rfl
    · rw [List.foldl_cons, counts]
      by_cases same : j = k
      · subst same
        rw [if_neg absent, if_pos List.mem_cons_self, step, State.setSender_sender_same]
      · rw [others j same]
        simp [same]

theorem split_senders (k : SenderNo) : ∃ before after : List SenderNo,
    List.finRange 12 = before ++ k :: after ∧ k ∉ before ∧ k ∉ after ∧ before.Nodup ∧ after.Nodup := by
  obtain ⟨before, after, all, absent⟩ := List.eq_append_cons_of_mem (List.mem_finRange k)
  have distinct := all ▸ List.nodup_finRange 12
  obtain ⟨first, second, -⟩ := List.nodup_append.mp distinct
  exact ⟨before, after, all, absent, (List.nodup_cons.mp second).1, first, (List.nodup_cons.mp second).2⟩

theorem sendersBoundary_split {before after : List SenderNo} (all : List.finRange 12 = before ++ k :: after) :
    sendersBoundary s = after.foldl (fun s k => senderBoundary k s)
      (senderBoundary k (before.foldl (fun s k => senderBoundary k s) s)) := by
  unfold sendersBoundary
  rw [all, List.foldl_append, List.foldl_cons]

theorem sendersBoundary_lineWork (s : State) : LineWork s (sendersBoundary s) :=
  foldl_senderBoundary_lineWork _ s

/-- A sender that stays bound at a boundary, whatever becomes of the others. -/
theorem sendersBoundary_sender {b' : Binding} (bound : s.sender k = some b)
    (own : ∀ u, u.sender k = some b → (senderBoundary k u).sender k = some b') :
    (sendersBoundary s).sender k = some b' := by
  obtain ⟨before, after, all, first, last, -⟩ := split_senders k
  rw [sendersBoundary_split all]
  exact foldl_senderBoundary_sender after last (own _ (foldl_senderBoundary_sender before first bound))

theorem sendersBoundary_counted (bound : s.sender k = some b) (runs : phaseEnds b = false) :
    (sendersBoundary s).sender k = some b.counted :=
  sendersBoundary_sender bound fun u bound => by
    rw [senderBoundary_counts (by rw [bound]; rintro c ⟨⟩; exact runs), State.setSender_sender_same, bound]
    rfl

theorem sendersBoundary_tone (bound : s.sender k = some b) (ends : phaseEnds b = true) (phase : b.phase = .tone) :
    (sendersBoundary s).sender k = some b.gap :=
  sendersBoundary_sender bound fun u bound => by
    obtain ⟨-, -, -, -, -, -, senders, -⟩ := (toneEnds_reports bound).keeps
    rw [senderBoundary_tone bound ends phase, event, State.sender_congr (settle_keeps u _).1,
      State.sender_congr senders, State.setSender_sender_same]

/-! ### The parts of a frame boundary -/

/-- The boundary before the senders' part: the tick part and the page's age (log 6). -/
def boundaryStart (s : State) : State :=
  let s1 := if tickDue s then takeTick s else s
  if ageCloseDue s1 then event takeAgeClose s1 else s1

/-- The frame that begins, behind the senders' part. -/
def nextPhase (s : State) : State := startPhase (s.timeBase.frameIndex + 1) (strobe s)

theorem frameBoundary_eq (s : State) :
    frameBoundary s = settleFrame (nextPhase (sendersBoundary (boundaryStart s))) := by
  unfold frameBoundary nextPhase boundaryStart
  dsimp only

theorem takeAgeClose_senders (s : State) : (event takeAgeClose s).senders = s.senders := by
  refine (settle_keeps s _).1.trans ?_
  unfold takeAgeClose
  dsimp only
  split
  · obtain ⟨-, -, -, -, -, -, senders, -⟩ := (closePage_reports s).keeps
    exact senders
  · rfl

theorem takeAgeClose_base (s : State) :
    (event takeAgeClose s).timeBase = { s.timeBase with ageDue := false } ∧
      (event takeAgeClose s).scanBus = s.scanBus := by
  obtain ⟨-, -, timeBase, scanBus, -⟩ := (settle_work s (takeAgeClose s)).keeps
  obtain ⟨-, -, timeBase', scanBus', -⟩ := (closePage_reports s).keeps
  have own : (takeAgeClose s).timeBase = { s.timeBase with ageDue := false } ∧
      (takeAgeClose s).scanBus = s.scanBus := by
    unfold takeAgeClose
    dsimp only
    split
    · exact ⟨congrArg (fun b : TimeBase => { b with ageDue := false }) timeBase', scanBus'⟩
    · exact ⟨rfl, rfl⟩
  unfold event
  rw [timeBase, scanBus]
  exact own

/-- What the boundary's start leaves: the senders, the frame index and the scan bus; and the clock behind its tick. -/
theorem boundaryStart_keeps (s : State) :
    (boundaryStart s).senders = s.senders ∧
      (boundaryStart s).timeBase.frameIndex = s.timeBase.frameIndex ∧
      (boundaryStart s).timeBase.clock = (if tickDue s then s.clock + 1 else s.clock) ∧
      (boundaryStart s).scanBus = s.scanBus := by
  have ticks : (if tickDue s then takeTick s else s).senders = s.senders ∧
      (if tickDue s then takeTick s else s).timeBase.frameIndex = s.timeBase.frameIndex ∧
      (if tickDue s then takeTick s else s).timeBase.clock = (if tickDue s then s.clock + 1 else s.clock) ∧
      (if tickDue s then takeTick s else s).scanBus = s.scanBus := by
    rw [takeTick_eq]
    split <;> exact ⟨rfl, rfl, rfl, rfl⟩
  unfold boundaryStart
  dsimp only
  generalize (if tickDue s then takeTick s else s) = u at *
  split
  · rw [takeAgeClose_senders, (takeAgeClose_base u).1, (takeAgeClose_base u).2]
    exact ticks
  · exact ticks

theorem exec_frameBoundary (ready : s.ready = true) : exec .frameBoundary s = .next (frameBoundary s) := by
  change occurs s.ready (frameBoundary s) s = _
  rw [ready]
  rfl

theorem phaseLine_group {p : Fin 8} (h : n.val % 8 = p.val) : phaseLine (lineGroup n) p = n := by
  refine Fin.ext ?_
  unfold phaseLine lineGroup
  dsimp only
  omega

theorem frameSample_afterSample (b : Binding) (tone : (afterSample b).phase = .tone) :
    frameSample b =
      BitVec.ofInt 16
        (sampleValue ((afterSample b).accLow - (afterSample b).tone.incLow)
          ((afterSample b).accHigh - (afterSample b).tone.incHigh) (afterSample b).tone.levelLow
          (afterSample b).tone.levelHigh) := by
  have phase : b.phase = .tone := by
    unfold afterSample at tone
    split at tone
    next h => exact h
    next h => exact tone
  unfold frameSample afterSample
  rw [phase]
  simp

theorem frameSample_gap (b : Binding) (gap : (afterSample b).phase = .gap) : frameSample b = 0 := by
  have phase : b.phase = .gap := by
    unfold afterSample at gap
    split at gap
    next h => rw [h] at gap; cases gap
    next h => exact h
  unfold frameSample
  rw [phase]

/-! ### The frame that begins -/

/-- The frame behind the senders' part of a boundary: the next phase, and its content. -/
def newFrame (p : State) : State := settleFrame (nextPhase p)

theorem newFrame_timeBase (p : State) :
    (newFrame p).timeBase =
      { clock := p.clock, frameIndex := p.timeBase.frameIndex + 1, begun := false, tickTaken := false
        ageDue := false } := by
  simp [newFrame, nextPhase, startPhase, strobe, settleFrame, State.line, State.clock]

theorem newFrame_form (p : State) :
    newFrame p = { p with
      timeBase := (newFrame p).timeBase, scanBus := (newFrame p).scanBus
      senders := (newFrame p).senders, highway := (newFrame p).highway } := by
  simp [newFrame, nextPhase, startPhase, strobe, settleFrame, State.setTimeBase, State.setScanBus]

theorem newFrame_line (p : State) (n : LineNo) : (newFrame p).line n = p.line n := by
  simp [newFrame, nextPhase, startPhase, strobe, settleFrame, State.line]

theorem newFrame_sender (p : State) (k : SenderNo) :
    (newFrame p).sender k = (p.sender k).map afterSample := by
  have same : (nextPhase p).sender k = p.sender k := by simp [nextPhase, startPhase, strobe]
  rw [newFrame, settleFrame_sender, same]

theorem newFrame_strobes (p : State) (n : LineNo) :
    (newFrame p).scanBus.strobedHold[n] =
        (if n.val % 8 = p.timeBase.frameIndex.val then p.scanBus.hldOut[lineGroup n]
          else p.scanBus.strobedHold[n]) ∧
      (newFrame p).scanBus.strobedMute[n] =
        (if n.val % 8 = p.timeBase.frameIndex.val then p.scanBus.mutOut[lineGroup n]
          else p.scanBus.strobedMute[n]) := by
  simp [newFrame, settleFrame, nextPhase, startPhase, strobe, linePhase, Fin.ext_iff]

theorem newFrame_presents (p : State) (h : n.val % 8 = (newFrame p).timeBase.frameIndex.val) :
    (newFrame p).scanBus.hldOut[lineGroup n] = ((newFrame p).line n).hold ∧
      (newFrame p).scanBus.mutOut[lineGroup n] = ((newFrame p).line n).mute := by
  have same := phaseLine_group h
  rw [newFrame_timeBase] at same
  have line : (strobe p).line n = p.line n := by simp [strobe]
  simp only [newFrame_line]
  simp [newFrame, settleFrame, nextPhase, startPhase, same, line]

theorem newFrame_sampled (p : State) (g : Fin 12) : (newFrame p).scanBus.sampled[g] = false := by
  simp [newFrame, settleFrame, nextPhase, startPhase]

theorem newFrame_boundSender (p : State) (n : LineNo) :
    (newFrame p).boundSender n = p.boundSender n :=
  State.boundSender_congr (fun k => by
    rw [newFrame_sender, Option.map_map]
    refine congrArg (fun f => Option.map f (p.sender k)) (funext fun b => ?_)
    dsimp only [Function.comp]
    unfold afterSample
    split <;> rfl) n

theorem newFrame_highway (p : State) (n : LineNo) : (newFrame p).highway[n.val] = slotSample p n := by
  have same : slotSample (nextPhase p) n = slotSample p n := by
    have line : (nextPhase p).line n = p.line n := by simp [nextPhase, startPhase, strobe]
    have senders : (nextPhase p).sender = p.sender := funext fun k => by
      simp [nextPhase, startPhase, strobe]
    have bound : (nextPhase p).boundSender n = p.boundSender n :=
      State.boundSender_congr (fun k => by rw [senders]) n
    unfold slotSample
    rw [line, senders, bound]
  rw [← same]
  simp [newFrame, settleFrame]

theorem newFrame_highway_high (p : State) (i : Fin 128) (h : 96 ≤ i.val) : (newFrame p).highway[i] = 0 := by
  have high : ¬i.val < 96 := by omega
  simp [newFrame, settleFrame, high]

/-- The slot of a line in the frame that begins, by what the line and its sender are then (R152). -/
theorem newFrame_slot (p : State) (n : LineNo) :
    (∀ (k : SenderNo) (b : Binding), ((newFrame p).line n).mode = .active →
        (newFrame p).boundSender n = some k → (newFrame p).sender k = some b → b.phase = .tone →
        (newFrame p).highway[n.val] =
          BitVec.ofInt 16
            (sampleValue (b.accLow - b.tone.incLow) (b.accHigh - b.tone.incHigh)
              b.tone.levelLow b.tone.levelHigh)) ∧
      ((((newFrame p).line n).mode ≠ .active ∨ (newFrame p).boundSender n = none ∨
          ∃ (k : SenderNo) (b : Binding),
            (newFrame p).boundSender n = some k ∧ (newFrame p).sender k = some b ∧ b.phase = .gap) →
        (newFrame p).highway[n.val] = 0) := by
  rw [newFrame_highway, newFrame_line, newFrame_boundSender]
  have active (h : (p.line n).mode = .active) :
      slotSample p n = ((p.boundSender n).bind p.sender).elim 0 frameSample := by
    unfold slotSample
    rw [h]
  refine ⟨fun k b act bound playing tone => ?_, fun silent => ?_⟩
  · rw [newFrame_sender, Option.map_eq_some_iff] at playing
    obtain ⟨c, plays, rfl⟩ := playing
    rw [active act, bound, Option.bind_some, plays]
    exact frameSample_afterSample c tone
  · by_cases act : (p.line n).mode = .active
    · rw [active act]
      obtain inactive | free | ⟨k, b, bound, playing, gap⟩ := silent
      · exact absurd act inactive
      · rw [free]
        rfl
      · rw [newFrame_sender, Option.map_eq_some_iff] at playing
        obtain ⟨c, plays, rfl⟩ := playing
        rw [bound, Option.bind_some, plays]
        exact frameSample_gap c gap
    · unfold slotSample
      cases mode : (p.line n).mode with
      | active => exact absurd mode act
      | out => rfl
      | idle => rfl
      | seizing => rfl
      | lockout => rfl

/-! ### The whole boundary -/

/-- The part behind the senders' part of a boundary. -/
def atNewFrame (s : State) : State := sendersBoundary (boundaryStart s)

theorem frameBoundary_newFrame (s : State) : frameBoundary s = newFrame (atNewFrame s) := frameBoundary_eq s

theorem atNewFrame_keeps (s : State) :
    (atNewFrame s).timeBase.frameIndex = s.timeBase.frameIndex ∧
      (atNewFrame s).clock = (if tickDue s then s.clock + 1 else s.clock) ∧
      (atNewFrame s).scanBus = s.scanBus := by
  obtain ⟨-, frameIndex, clock, scanBus⟩ := boundaryStart_keeps s
  obtain ⟨-, -, timeBase, bus, -⟩ := (sendersBoundary_lineWork (boundaryStart s)).keeps
  unfold atNewFrame State.clock
  rw [timeBase, bus]
  exact ⟨frameIndex, clock, scanBus⟩

theorem closeAge_congr (h : t.store = s.store) : closeAge t = closeAge s := by
  unfold closeAge
  rw [State.peek_congr h]

/-- No page's age ends at the boundary, so its start is the tick part alone. -/
theorem boundaryStart_of_stays (open' : PageStaysOpen s) :
    boundaryStart s = if tickDue s then takeTick s else s := by
  have young : ageCloseDue (if tickDue s then takeTick s else s) = false := by
    unfold ageCloseDue
    split
    next due =>
      have store : (takeTick s).store = s.store := by rw [takeTick_eq]
      have filling : (takeTick s).capture.filling =
          s.capture.filling.map fun f => { f with age := f.age + 1 } := by rw [takeTick_eq]; rfl
      rw [closeAge_congr store, filling, closeAge_eq]
      cases h : s.capture.filling with
      | none => exact Bool.and_false _
      | some f =>
        have later := (open' f h).1 due
        simp only [Option.map_some, Bool.and_eq_false_iff, decide_eq_false_iff_not]
        exact .inr (Nat.not_le.mpr later)
    next notDue =>
      rw [closeAge_eq]
      cases h : s.capture.filling with
      | none => exact Bool.and_false _
      | some f =>
        cases age : s.timeBase.ageDue with
        | false => rfl
        | true =>
          have later := (open' f h).2 (by simpa using notDue) age
          simp only [Bool.true_and, decide_eq_false_iff_not]
          exact Nat.not_le.mpr later
  unfold boundaryStart
  dsimp only
  rw [young]
  rfl

theorem phaseEnds_of_fresh {c : Binding} (fresh : c.started = false) : phaseEnds c = false := by
  unfold phaseEnds
  rw [fresh]
  rfl

/-- A boundary at which one sender's GAP ends and no other TONE or GAP: that end, among senders counted down. -/
theorem sendersBoundary_gap (bound : s.sender k = some b) (ends : phaseEnds b = true) (gap : b.phase = .gap)
    (others : ∀ j, j ≠ k → ∀ c ∈ s.sender j, phaseEnds c = false) :
    ∃ v w, ({ s with senders := v } : State).sender k = some b ∧
      sendersBoundary s =
        { settle { s with senders := v } (gapEnds k { s with senders := v }) with senders := w } ∧
      (sendersBoundary s).sender k = (gapEnds k { s with senders := v }).sender k := by
  obtain ⟨before, after, all, first, last, distinct, distinct'⟩ := split_senders k
  obtain ⟨⟨v, formBefore⟩, counts⟩ := foldl_senderBoundary_counts (s := s) before distinct fun j hj =>
    others j fun same => first (same ▸ hj)
  have boundMid : ({ s with senders := v } : State).sender k = some b := by
    rw [← formBefore, counts, if_neg first]
    exact bound
  have step := senderBoundary_gap boundMid ends gap
  have quiet (j : SenderNo) (hj : j ∈ after) :
      ∀ c ∈ (senderBoundary k { s with senders := v }).sender j, phaseEnds c = false := by
    have other : j ≠ k := fun same => last (same ▸ hj)
    have absent : j ∉ before := by
      have distinct := all ▸ List.nodup_finRange 12
      obtain ⟨-, -, apart⟩ := List.nodup_append.mp distinct
      exact fun here => apart j here j (List.mem_cons_of_mem _ hj) rfl
    have same : ({ s with senders := v } : State).sender j = s.sender j := by
      rw [← formBefore, counts, if_neg absent]
    obtain stands | ⟨-, c, bound, fresh⟩ := senderBoundary_binds_other (s := { s with senders := v }) other
    · rw [stands, same]
      exact others j other
    · rw [bound]
      rintro c' ⟨⟩
      exact phaseEnds_of_fresh fresh
  obtain ⟨⟨w, formAfter⟩, counts'⟩ := foldl_senderBoundary_counts after distinct' quiet
  refine ⟨v, w, boundMid, ?_, ?_⟩
  · rw [sendersBoundary_split all, formBefore, formAfter, step]
    rfl
  · rw [sendersBoundary_split all, formBefore, counts', if_neg last, step, event]
    exact State.sender_congr (settle_keeps _ _).1 k

/-- Where no TONE or GAP ends, the boundary counts every sender down and does nothing else. -/
theorem sendersBoundary_counts (h : ∀ j, ∀ b ∈ s.sender j, phaseEnds b = false) :
    (∃ v, sendersBoundary s = { s with senders := v }) ∧
      ∀ j, (sendersBoundary s).sender j = (s.sender j).map Binding.counted := by
  obtain ⟨form, counts⟩ := foldl_senderBoundary_counts (s := s) (List.finRange 12) (List.nodup_finRange 12)
    fun j _ => h j
  exact ⟨form, fun j => (counts j).trans (if_pos (List.mem_finRange j))⟩

theorem Binding.nextFrame_fresh {c : Binding} (fresh : c.started = false) : c.nextFrame = afterSample c := by
  rw [Binding.nextFrame_eq, Binding.counted, fresh]
  rfl

/-- What the boundary's start leaves where no page's age ends: all that the senders' part reads. -/
theorem boundaryStart_sending (open' : PageStaysOpen s) :
    (boundaryStart s).lines = s.lines ∧ (boundaryStart s).senders = s.senders ∧
      (boundaryStart s).waitList = s.waitList ∧ (boundaryStart s).control = s.control ∧
      (boundaryStart s).store = s.store ∧ (boundaryStart s).board.accepted = s.board.accepted := by
  rw [boundaryStart_of_stays open', takeTick_eq]
  split
  · refine ⟨rfl, rfl, rfl, rfl, rfl, ?_⟩
    dsimp only
    unfold OrderBoard.requested
    split
    · split <;> rfl
    · rfl
  · exact ⟨rfl, rfl, rfl, rfl, rfl, rfl⟩

/-- The end of one sender's GAP at a boundary where nothing else ends (R131, R152). -/
theorem frameBoundary_gap (targets : MarkTargetsSound s) (entries : EntriesSound s) (last : LastFrame k b .gap s)
    (flight : (s.line b.line).queue.flight = some f)
    (others : ∀ j, j ≠ k → ∀ c ∈ s.sender j, phaseEnds c = false) (open' : PageStaysOpen s) :
    (∀ (e : Entry) (rest : List Entry) (code : Nat), (s.line b.line).mode = .active →
        (s.line b.line).queue.entries = e :: rest → e.kind = .tone code →
        (s.line b.line).sendable e = true → s.sendHold = false →
        (frameBoundary s).sender k =
            some (Binding.nextFrame (newBinding b.line code e.origin (readTone s.store code))) ∧
          ((frameBoundary s).line b.line).queue.entries = rest) ∧
      ((s.line b.line).queue.entries = [] → (s.line b.line).queue.waiting = false →
        s.waitList = [] →
        (frameBoundary s).sender k = none ∧ ((frameBoundary s).line b.line).queue.flight = none) := by
  have ends := LastFrame.ends last
  obtain ⟨-, bound, gap, -⟩ := last
  obtain ⟨lines, senders, waitList, control, store, accepted⟩ := boundaryStart_sending open'
  have frame := frameBoundary_newFrame s
  unfold atNewFrame at frame
  generalize boundaryStart s = p at *
  have line (m : LineNo) : p.line m = s.line m := State.line_congr lines m
  have senderSame (j : SenderNo) : p.sender j = s.sender j := State.sender_congr senders j
  obtain ⟨v, w, boundMid, form, own⟩ := sendersBoundary_gap (s := p) (by rw [senderSame]; exact bound) ends gap
    fun j other => by rw [senderSame]; exact others j other
  generalize hx : ({ p with senders := v } : State) = x at *
  have lineX (m : LineNo) : x.line m = s.line m := by rw [← hx]; exact line m
  have storeX : x.store = s.store := by rw [← hx]; exact store
  have targetsX : MarkTargetsSound x := by
    have same : x.board.accepted = s.board.accepted := by rw [← hx]; exact accepted
    unfold MarkTargetsSound
    rw [same]
    exact targets
  have entriesX : EntriesSound x := fun m => by rw [lineX]; exact entries m
  have flightX : (x.line b.line).queue.flight = some f := by rw [lineX]; exact flight
  have lineNow : (frameBoundary s).line b.line =
      { (gapEnds k x).line b.line with mute := (gapEnds k x).muteOn b.line } := by
    have lined := settle_line x (gapEnds k x) b.line
    rw [frame, newFrame_line, form]
    generalize settle x (gapEnds k x) = z at lined ⊢
    exact lined
  have senderNow : (frameBoundary s).sender k = ((gapEnds k x).sender k).map afterSample := by
    rw [frame, newFrame_sender, own]
  refine ⟨fun e rest code active head kind sendable clear => ?_, fun empty calm nobody => ?_⟩
  · have clearX : x.sendHold = false := by
      rw [← hx]
      exact (congrArg Control.sendHold control).trans clear
    have takes := gapEnds_takes (e := e) (rest := rest) (code := code) targetsX entriesX boundMid flightX
      (by rw [lineX]; exact active) (by rw [lineX]; exact head) kind (by rw [lineX]; exact sendable) clearX
    rw [senderNow, lineNow, takes, storeX, lineX, State.setSender_sender_same, State.setSender_line,
      State.setLine_line_same, Binding.nextFrame_fresh rfl]
    exact ⟨Option.map_some _ _, (Line.leaveHead_queue (l := (s.line b.line).done f) head).1⟩
  · have rests := gapEnds_rests (s := x) boundMid flightX (by rw [lineX]; exact empty)
      (by rw [lineX]; exact calm) (by rw [← hx]; exact waitList.trans nobody)
    rw [senderNow, lineNow, rests, State.setSender_sender_same, State.setSender_line,
      (finishFlight_finishes flightX).line_same]
    exact ⟨rfl, rfl⟩

/-- The boundary's start where no page's age ends, field by field. -/
theorem boundaryStart_form (open' : PageStaysOpen s) :
    (boundaryStart s).clock = (if tickDue s then s.clock + 1 else s.clock) ∧
      (boundaryStart s).timeBase.frameIndex = s.timeBase.frameIndex ∧
      boundaryStart s = { s with
        timeBase := (boundaryStart s).timeBase
        board :=
          if tickDue s = true ∧ (s.clock + 1).toNat % 2 = 0 then
            (if s.board.sweepAt.isSome then { s.board with sweepHeld := true }
              else { s.board with sweepAt := some 0 })
          else s.board
        capture :=
          { s.capture with
            filling :=
              if tickDue s then s.capture.filling.map fun f => { f with age := f.age + 1 }
              else s.capture.filling } } := by
  obtain ⟨-, frameIndex, clock, -⟩ := boundaryStart_keeps s
  refine ⟨clock, frameIndex, ?_⟩
  rw [boundaryStart_of_stays open', takeTick_eq]
  cases due : tickDue s with
  | true =>
    rw [if_pos rfl]
    by_cases even : (s.clock + 1).toNat % 2 = 0
    · rw [if_pos even, if_pos ⟨rfl, even⟩]
      rfl
    · rw [if_neg even, if_neg fun h => even h.2]
      rfl
  | false => rfl

/-- Settles O6: the senders' part first, then the frame that begins, which reads them. -/
theorem frameBoundaryMovesPhaseAndHighway : Obligations.FrameBoundaryMovesPhaseAndHighway := by
  unfold Obligations.FrameBoundaryMovesPhaseAndHighway
  refine ⟨fun s ready => ?_, fun s ready => ?_, fun s ready => ?_,
    fun s k b f targets entries last flight others open' => ?_, fun s ready quiet open' => ?_⟩
  · refine ⟨_, exec_frameBoundary ready, ?_⟩
    obtain ⟨frameIndex, clock, scanBus⟩ := atNewFrame_keeps s
    rw [frameBoundary_newFrame]
    generalize atNewFrame s = p at *
    have strobes := newFrame_strobes p
    rw [frameIndex, scanBus] at strobes
    refine ⟨?_, ?_, strobes, fun n => newFrame_presents p, newFrame_sampled p⟩
    · rw [newFrame_timeBase, frameIndex]
    · unfold State.clock
      rw [newFrame_timeBase]
      refine clock.trans ?_
      simp only [tickDue, Bool.and_eq_true, decide_eq_true_eq, Bool.not_eq_true']
      rfl
  · refine ⟨_, exec_frameBoundary ready, ?_⟩
    rw [frameBoundary_newFrame]
    exact ⟨newFrame_highway_high _, newFrame_slot _⟩
  · refine ⟨_, exec_frameBoundary ready, fun k b bound => ?_⟩
    have boundStart : (boundaryStart s).sender k = some b :=
      (State.sender_congr (boundaryStart_keeps s).1 k).trans bound
    rw [frameBoundary_newFrame]
    refine ⟨fun runs => ?_, fun last => ?_⟩
    · rw [newFrame_sender, atNewFrame, sendersBoundary_counted boundStart runs, Binding.nextFrame_eq]
      rfl
    · rw [newFrame_sender, atNewFrame, sendersBoundary_tone boundStart (LastFrame.ends last) last.2.2.1]
      rfl
  · exact ⟨_, exec_frameBoundary last.1, frameBoundary_gap targets entries last flight others open'⟩
  · refine ⟨_, exec_frameBoundary ready, ?_⟩
    have start := boundaryStart_of_stays open'
    have sendersStart := (boundaryStart_sending open').2.1
    have frame := frameBoundary_newFrame s
    unfold atNewFrame at frame
    have senderStart (j : SenderNo) : (boundaryStart s).sender j = s.sender j :=
      State.sender_congr sendersStart j
    obtain ⟨⟨v, form⟩, counts⟩ := sendersBoundary_counts (s := boundaryStart s) fun j => by
      rw [senderStart]; exact quiet j
    rw [frame, form]
    have senderNow (k : SenderNo) :
        (newFrame { boundaryStart s with senders := v }).sender k = (s.sender k).map Binding.nextFrame := by
      rw [newFrame_sender, ← form, counts, senderStart, Option.map_map]
      exact congrArg (fun g => Option.map g (s.sender k)) (funext fun b => (Binding.nextFrame_eq b).symm)
    have whole := newFrame_form { boundaryStart s with senders := v }
    have base := newFrame_timeBase { boundaryStart s with senders := v }
    refine ⟨senderNow, ?_⟩
    generalize newFrame { boundaryStart s with senders := v } = t at *
    obtain ⟨clock, frameIndex, form⟩ := boundaryStart_form open'
    rw [base] at whole
    generalize boundaryStart s = p at *
    rw [show State.clock { p with senders := v } = p.clock from rfl, clock, frameIndex, form] at whole
    exact whole

end Sys2Proof.Machine
end

section
/-! The formulas of the tone values, the samples and the speed estimate (R64 to R66, R143 to R149). -/

namespace Sys2Proof.Machine

/-! ### Tone values -/

theorem clamp_zero (high v : Nat) : clamp 0 high v = min high v := by
  rw [clamp_eq_max_min (Nat.zero_le _), Nat.zero_max]

/-- The increment of a played frequency, as R146 has it. -/
theorem phaseIncrement_toNat {f : Nat} (low : 200 ≤ f) (high : f ≤ 3800) :
    (phaseIncrement f).toNat = (f * 65536 + 4000) / 8000 ∧
      1638 ≤ (phaseIncrement f).toNat ∧ (phaseIncrement f).toNat ≤ 31130 := by
  have exact' : (phaseIncrement f).toNat = (f * 65536 + 4000) / 8000 := by
    unfold phaseIncrement
    rw [BitVec.toNat_ofNat]
    exact Nat.mod_eq_of_lt (by omega)
  rw [exact']
  omega

/-! ### The sine table and the samples -/

theorem sine_bounds : ∀ k < 256, -8191 ≤ sine k ∧ sine k ≤ 8191 := by decide +kernel

theorem sine_mirrored : ∀ k ≤ 128, sine (128 - k) = sine k := by decide +kernel

theorem sine_opposed : ∀ k < 128, sine (128 + k) = -sine k := by decide +kernel

theorem weighted_bounds {x : Int} {l : Nat} (low : -8191 ≤ x) (high : x ≤ 8191) (small : l ≤ 4095) :
    -(8191 * 4095) ≤ x * l ∧ x * l ≤ 8191 * 4095 := by
  have small : (l : Int) ≤ 4095 := by exact_mod_cast small
  have nonneg : (0 : Int) ≤ l := Int.natCast_nonneg l
  constructor <;> nlinarith

theorem sampleValue_bounds (p q : BitVec 16) {l h : Nat} (hl : l ≤ 4095) (hh : h ≤ 4095) :
    -16379 ≤ sampleValue p q l h ∧ sampleValue p q l h ≤ 16378 := by
  obtain ⟨pLow, pHigh⟩ := sine_bounds (p.toNat / 256) (by omega)
  obtain ⟨qLow, qHigh⟩ := sine_bounds (q.toNat / 256) (by omega)
  obtain ⟨lLow, lHigh⟩ := weighted_bounds pLow pHigh hl
  obtain ⟨hLow, hHigh⟩ := weighted_bounds qLow qHigh hh
  unfold sampleValue
  omega

/-- Settles O49: the clamps and increments field by field, and the samples by the bounds of the table. -/
theorem toneValuesAndSamples : Obligations.ToneValuesAndSamples := by
  unfold Obligations.ToneValuesAndSamples
  refine ⟨fun s code _ => ?_, fun p q l h hl hh => ?_, fun l h => ?_, sine_mirrored, sine_opposed,
    sine_bounds, by decide, by decide⟩
  · intro word v
    have low : v.low = max 200 (min 3800 (word 0)) := clamp_eq_max_min (by decide) _
    have high : v.high = max 200 (min 3800 (word 1)) := clamp_eq_max_min (by decide) _
    obtain ⟨incLow, lowBounds⟩ := phaseIncrement_toNat (f := v.low) (by omega) (by omega)
    obtain ⟨incHigh, highBounds⟩ := phaseIncrement_toNat (f := v.high) (by omega) (by omega)
    exact ⟨low, high, clamp_eq_max_min (by decide) _, clamp_eq_max_min (by decide) _, clamp_zero 4095 _,
      clamp_zero 4095 _, incLow, incHigh, lowBounds.1, lowBounds.2, highBounds.1, highBounds.2⟩
  · obtain ⟨low, high⟩ := sampleValue_bounds p q hl hh
    refine ⟨low, high, ?_, ?_, ?_⟩
    · rw [BitVec.toInt_ofInt]
      exact Int.bmod_eq_of_le (by omega) (by omega)
    · unfold sampleValue; omega
    · unfold sampleValue; omega
  · have zero : sine ((0 : BitVec 16).toNat / 256) = 0 := by decide
    unfold sampleValue
    rw [zero]
    simp

/-! ### The speed estimate -/

/-- A period no shorter than the estimate moves it up by an eighth of the error (R66). -/
theorem trackP16_up {p period low high : Nat} (above : low ≤ p) (longer : p ≤ period * 16) (band : low ≤ high) :
    trackP16 p period low high = min high (p + (period * 16 - p) / 8) := by
  have step : ((period * 16 : Nat) - (p : Int)).tdiv 8 = ((period * 16 - p) / 8 : Nat) := by
    rw [Int.tdiv_eq_ediv_of_nonneg (by omega)]
    omega
  have moved : ((p : Int) + ((period * 16 - p) / 8 : Nat)).toNat = p + (period * 16 - p) / 8 := by omega
  unfold trackP16
  dsimp only
  rw [step, moved, clamp_eq_max_min band]
  omega

/-- A period no longer than the estimate moves it down by an eighth of the error (R66). -/
theorem trackP16_down {p period low high : Nat} (below : p ≤ high) (shorter : period * 16 ≤ p) (band : low ≤ high) :
    trackP16 p period low high = max low (p - (p - period * 16) / 8) := by
  have step : ((period * 16 : Nat) - (p : Int)).tdiv 8 = -((p - period * 16) / 8 : Nat) := by
    rw [← Int.neg_sub, Int.neg_tdiv, Int.tdiv_eq_ediv_of_nonneg (by omega)]
    omega
  have moved : ((p : Int) + -((p - period * 16) / 8 : Nat)).toNat = p - (p - period * 16) / 8 := by omega
  unfold trackP16
  dsimp only
  rw [step, moved, clamp_eq_max_min band]
  omega

/-- Settles O41: the train start by source and mode, the tracking update by the sign of its error. -/
theorem speedEstimateFollowsTheRules : Obligations.SpeedEstimateFollowsTheRules := by
  unfold Obligations.SpeedEstimateFollowsTheRules
  refine ⟨fun e a band gaps => ?_, fun p period low high hl hh => ?_⟩
  · intro e'
    have clamped := clamp_eq_max_min band e.p16
    have gap : interDigit e'.p16 a = max a.gapMin (min a.gapMax ((e'.p16 * a.gapFactor + 64) / 128)) :=
      clamp_eq_max_min gaps _
    have started : e' = e.trainStart a := rfl
    unfold Estimator.trainStart at started
    refine ⟨fun source mode => ?_, fun source mode => ?_, fun source => ?_, ?_, ?_, ?_, gap⟩
    · rw [started, source, mode]
      exact ⟨rfl, rfl⟩
    · rw [started, source, mode]
      exact ⟨clamped, rfl⟩
    · rw [started, source]
      exact ⟨clamped, rfl⟩
    all_goals
      rw [started]
      cases source : e.source <;> cases mode : a.mode <;> simp [Option.ne_none_iff_isSome]
  · have band : low ≤ high := hl.trans hh
    refine ⟨fun longer => trackP16_up hl longer band, fun shorter => trackP16_down hh shorter band,
      fun near near' => ?_⟩
    obtain longer | shorter := Nat.le_total p (period * 16)
    · rw [trackP16_up hl longer band]
      omega
    · rw [trackP16_down hh shorter band]
      omega

end Sys2Proof.Machine
end

section
/-! The head examination, row by row of its table (R104, R105, R108, R110, R111). -/

namespace Sys2Proof.Machine

variable {s t : State} {n m : LineNo} {l : Line} {c : CallContext} {e : Entry} {rest : List Entry}

theorem Line.discipline_of_call (call : l.call = some c) : l.discipline = c.discipline := by
  unfold Line.discipline
  rw [call]
  rfl

/-- What the head's leaving makes of the queue unit, by the order record it may belong to (R108). -/
theorem Line.leaveHead_headLeft (call : l.call = some c) (head : l.queue.entries = e :: rest) :
    l.leaveHead = { l with queue := l.queue.headLeft c.discipline e rest } := by
  have uses : l.usesCredit e = decide (e.origin = .dialled ∧ c.discipline = .held) := by
    unfold Line.usesCredit
    rw [Line.discipline_of_call call, Bool.decide_and]
  unfold Line.leaveHead QueueUnit.headLeft Line.belongs
  rw [head]
  dsimp only
  rw [uses]
  cases order : l.queue.order with
  | none => rfl
  | some r =>
    cases r with
    | release slot sent last =>
      cases decide (e.origin = .dialled ∧ c.discipline = .held) <;> rfl
    | inject slot sent remaining =>
      by_cases owned : e.origin = .ordered ∧ e.owner = some slot
      · simp [owned, OrderRecord.leave]
      · simp only [← Bool.decide_and, owned, decide_false, if_false]
        rfl

/-- A request withdrawn before the head leaves makes no difference to what is left. -/
theorem Line.withdrawn_leaveHead (call : l.call = some c) (head : l.queue.entries = e :: rest) :
    Line.leaveHead { l with queue := { l.queue with waiting := false } } =
      { l with queue := l.queue.headLeft c.discipline e rest } := by
  rw [Line.leaveHead_headLeft (l := { l with queue := { l.queue with waiting := false } }) call head]
  unfold QueueUnit.headLeft
  rfl

theorem newRequest_eq (call : l.call = some c) (n : LineNo) :
    newRequest n l =
      { line := n, cls := c.cls, senderWait := c.senderWait, waitCount := 0, expired := false, age := 0 } := by
  unfold newRequest
  rw [call]
  rfl

theorem Line.sendable_iff (call : l.call = some c) :
    l.sendable e = true ↔
      e.origin = .ordered ∨ c.discipline = .immediate ∨
        (c.discipline = .gather ∧ l.queue.satisfied = true) ∨
        (c.discipline = .held ∧ 0 < l.queue.credit) := by
  unfold Line.sendable
  rw [Line.discipline_of_call call]
  cases e.origin with
  | ordered => simp
  | dialled => cases c.discipline <;> simp

/-! ### The rows -/

theorem examineHead_tone {code : Nat} (active : (s.line n).mode = .active)
    (flight : (s.line n).queue.flight = none) (head : (s.line n).queue.entries = e :: rest)
    (kind : e.kind = .tone code) :
    examineHead n s =
      if (s.line n).sendable e then (if (s.line n).queue.waiting then s else postRequest n s)
      else withdrawRequest n s := by
  unfold examineHead
  dsimp only
  rw [if_neg (by simp [active, flight]), head]
  dsimp only
  rw [kind]

theorem examineHead_recall (active : (s.line n).mode = .active)
    (flight : (s.line n).queue.flight = none) (head : (s.line n).queue.entries = e :: rest)
    (kind : e.kind = .recall) :
    examineHead n s =
      if (s.line n).sendable e && !s.sendHold then startRecall n (withdrawRequest n s)
      else withdrawRequest n s := by
  unfold examineHead
  dsimp only
  rw [if_neg (by simp [active, flight]), head]
  dsimp only
  rw [kind]

theorem examineHead_pause {ms : Nat} (active : (s.line n).mode = .active)
    (flight : (s.line n).queue.flight = none) (head : (s.line n).queue.entries = e :: rest)
    (kind : e.kind = .pause ms) :
    examineHead n s =
      if (s.line n).sendable e && !s.sendHold then startPause n (withdrawRequest n s)
      else withdrawRequest n s := by
  unfold examineHead
  dsimp only
  rw [if_neg (by simp [active, flight]), head]
  dsimp only
  rw [kind]

theorem examineHead_of_empty_queue (active : (s.line n).mode = .active)
    (flight : (s.line n).queue.flight = none) (empty : (s.line n).queue.entries = []) :
    examineHead n s = withdrawRequest n s := by
  unfold examineHead
  dsimp only
  rw [if_neg (by simp [active, flight]), empty]

/-- A withdrawal, and no start (R105). -/
theorem withdrawRequest_facts (n : LineNo) (s : State) :
    (withdrawRequest n s).line n =
        { s.line n with queue := { (s.line n).queue with waiting := false } } ∧
      (withdrawRequest n s).waitList =
        (if (s.line n).queue.waiting then s.waitList.filter fun r => r.line != n else s.waitList) ∧
      (∀ m : LineNo, m ≠ n → (withdrawRequest n s).line m = s.line m) ∧
      withdrawRequest n s =
        { s with lines := (withdrawRequest n s).lines, waitList := (withdrawRequest n s).waitList } := by
  refine ⟨withdrawRequest_line_same n s, ?_, fun m => withdrawRequest_line_other s, ?_⟩
  · unfold withdrawRequest
    split <;> rfl
  · unfold withdrawRequest
    split <;> rfl

/-- A start behind a withdrawal: the head is in flight, and the line alone has changed further (R110, R111). -/
theorem modLine_withdrawn (f : Line → Line) (n : LineNo) (s : State) :
    ((withdrawRequest n s).modLine n f).line n =
        f { s.line n with queue := { (s.line n).queue with waiting := false } } ∧
      ((withdrawRequest n s).modLine n f).waitList =
        (if (s.line n).queue.waiting then s.waitList.filter fun r => r.line != n else s.waitList) ∧
      (∀ m : LineNo, m ≠ n → ((withdrawRequest n s).modLine n f).line m = s.line m) ∧
      (withdrawRequest n s).modLine n f =
        { s with
          lines := ((withdrawRequest n s).modLine n f).lines
          waitList := ((withdrawRequest n s).modLine n f).waitList } := by
  obtain ⟨line, waitList, others, form⟩ := withdrawRequest_facts n s
  generalize withdrawRequest n s = w at *
  refine ⟨?_, waitList, fun m other => ?_, ?_⟩
  · rw [State.modLine_line_same, line]
  · rw [State.modLine_line_other _ _ _ _ other, others m other]
  · conv_lhs => rw [form]
    rfl

/-- Settles O47: the rows of R105 one by one, each by the operation it comes to. -/
theorem headExaminationActs : Obligations.HeadExaminationActs := by
  unfold Obligations.HeadExaminationActs
  refine ⟨fun l c e call => Line.sendable_iff call, fun n s rests => ?_, fun n c s active call flight => ?_⟩
  · exact if_pos rests
  intro q t withdrawn nothingStarts posted asks
  obtain ⟨line, waitList, others, form⟩ := withdrawRequest_facts n s
  have still (h : examineHead n s = withdrawRequest n s) : nothingStarts := by
    have same : t = withdrawRequest n s := h
    unfold nothingStarts withdrawn
    rw [same]
    exact ⟨line, waitList, others, form⟩
  have starts {f : Line → Line} (h : examineHead n s = (withdrawRequest n s).modLine n f) :
      withdrawn ∧ t.line n = f { s.line n with queue := { q with waiting := false } } := by
    obtain ⟨line, waitList, others, form⟩ := modLine_withdrawn f n s
    have same : t = (withdrawRequest n s).modLine n f := h
    unfold withdrawn
    rw [same]
    exact ⟨⟨waitList, others, form⟩, line⟩
  have clock : (withdrawRequest n s).clock = s.clock := by rw [form]; rfl
  have left {e : Entry} {rest : List Entry} (head : q.entries = e :: rest) :=
    Line.withdrawn_leaveHead call head
  have recalls : startRecall n (withdrawRequest n s) = (withdrawRequest n s).modLine n fun l =>
      { l.leaveHead with
        queue := { l.leaveHead.queue with execution := .recallBreak s.clock }, hold := false } := by
    unfold startRecall
    rw [State.modLine_modLine, clock]
  have pauses : startPause n (withdrawRequest n s) = (withdrawRequest n s).modLine n fun l =>
      { l.leaveHead with queue := { l.leaveHead.queue with execution := .pause s.clock } } := by
    unfold startPause State.modQueue
    rw [State.modLine_modLine, clock]
  have request := newRequest_eq call n
  refine ⟨fun empty => still (examineHead_of_empty_queue active flight empty), fun e rest head =>
    ⟨fun code kind => ?_, fun kind sendable clear => ?_, fun ms kind sendable clear => ?_, ?_⟩⟩
  · have tone := examineHead_tone active flight head kind
    refine ⟨fun not => still ?_, fun sendable waiting => ?_, fun sendable calm held => ?_,
      fun sendable calm clear => ?_⟩
    · rw [tone, not]
      rfl
    · exact tone.trans (by rw [sendable, waiting]; rfl)
    · have same : t = asking n s := by
        refine tone.trans ?_
        rw [sendable, calm, if_pos rfl, if_neg Bool.false_ne_true, postRequest_eq]
        exact grantOnce_of_held held
      have list : (asking n s).waitList = posted := (asking_waitList n s).trans (by rw [request])
      rw [same]
      exact ⟨(asking_line n n s).trans (if_pos rfl), list, fun m other => (asking_line n m s).trans (if_neg other),
        rfl⟩
    · have same : asking n s = (s.setLine n asks).setWaitList posted := by
        unfold Machine.asking
        rw [request]
        rfl
      refine tone.trans ?_
      rw [sendable, calm, if_pos rfl, if_neg Bool.false_ne_true, postRequest_eq, same]
  · have row : examineHead n s = startRecall n (withdrawRequest n s) := by
      rw [examineHead_recall active flight head kind, sendable, clear]
      rfl
    obtain ⟨rest', line⟩ := starts (row.trans recalls)
    exact ⟨rest', line.trans (by rw [left head])⟩
  · have row : examineHead n s = startPause n (withdrawRequest n s) := by
      rw [examineHead_pause active flight head kind, sendable, clear]
      rfl
    obtain ⟨rest', line⟩ := starts (row.trans pauses)
    exact ⟨rest', line.trans (by rw [left head])⟩
  · intro kind stays
    have neither : ((s.line n).sendable e && !s.sendHold) = false := by
      obtain not | held := stays
      · rw [not, Bool.false_and]
      · rw [held, Bool.not_true, Bool.and_false]
    refine still ?_
    obtain kind | ⟨ms, kind⟩ := kind
    · rw [examineHead_recall active flight head kind, neither]
      rfl
    · rw [examineHead_pause active flight head kind, neither]
      rfl

end Sys2Proof.Machine
end

section
/-! What a line tick keeps: the raw sample, the scan unit and the profile of its line behind the sample, and every other
line but its queue unit. -/

namespace Sys2Proof.Machine

variable {s t u : State} {n m : LineNo}

/-! ### Work for one line -/

/-- What the units do for a line in its line tick: another line changes in its queue unit alone, by a grant, and the line
keeps its sample, its scan unit and its profile. -/
structure TickWork (n : LineNo) (s t : State) : Prop where
  other : ∀ m, m ≠ n → QueueOnly (s.line m) (t.line m)
  raw : (t.line n).raw = (s.line n).raw
  scan : (t.line n).scan = (s.line n).scan
  profile : (t.line n).profile = (s.line n).profile

theorem TickWork.refl (n : LineNo) (s : State) : TickWork n s s := ⟨fun _ _ => .refl _, rfl, rfl, rfl⟩

theorem TickWork.trans (h : TickWork n s t) (k : TickWork n t u) : TickWork n s u :=
  ⟨fun m hm => (h.other m hm).trans (k.other m hm), k.raw.trans h.raw, k.scan.trans h.scan,
    k.profile.trans h.profile⟩

theorem TickWork.of_lines (h : ∀ m, t.line m = s.line m) : TickWork n s t :=
  ⟨fun m _ => by rw [h m]; exact .refl _, by rw [h n], by rw [h n], by rw [h n]⟩

theorem TickWork.modLine (s : State) (n : LineNo) (f : Line → Line)
    (raw : (f (s.line n)).raw = (s.line n).raw := by rfl)
    (scan : (f (s.line n)).scan = (s.line n).scan := by rfl)
    (profile : (f (s.line n)).profile = (s.line n).profile := by rfl) :
    TickWork n s (s.modLine n f) :=
  ⟨fun m hm => by rw [s.modLine_line_other n m f hm]; exact .refl _,
    by rw [State.modLine_line_same, raw], by rw [State.modLine_line_same, scan],
    by rw [State.modLine_line_same, profile]⟩

theorem TickWork.modQueue (s : State) (n : LineNo) (f : QueueUnit → QueueUnit) :
    TickWork n s (s.modQueue n f) := .modLine s n _

theorem TickWork.modDecoder (s : State) (n : LineNo) (f : Decoder → Decoder) :
    TickWork n s (s.modDecoder n f) := .modLine s n _

theorem TickWork.modEstimator (s : State) (n : LineNo) (f : Estimator → Estimator) :
    TickWork n s (s.modEstimator n f) := .modLine s n _

theorem TickWork.of_sends (other : ∀ m, m ≠ n → QueueOnly (s.line m) (t.line m))
    (same : SendOnly (s.line n) (t.line n)) : TickWork n s t := by
  obtain ⟨raw, scan, -, -, profile, -⟩ := same.keeps
  exact ⟨other, raw, scan, profile⟩

theorem TickWork.of_queueOnly (h : ∀ m, QueueOnly (s.line m) (t.line m)) : TickWork n s t :=
  .of_sends (fun m _ => h m) (h n).sendOnly

theorem Reports.tickWork (h : Reports s t) : TickWork n s t := .of_lines h.line

theorem Answers.tickWork (h : Answers s t) : TickWork n s t := .of_lines h.line

theorem examineHead_tickWork (n : LineNo) (s : State) : TickWork n s (examineHead n s) :=
  .of_sends (fun _ hm => examineHead_queueOnly s hm) (examineHead_sendOnly n s n)

/-! ### The decoder -/

theorem reportOverflow_tickWork (n : LineNo) (e : Entry) (s : State) :
    TickWork n s (reportOverflow n e s) := by
  unfold reportOverflow
  split
  · exact .refl n s
  · exact (reportFault_reports _ n _ s).tickWork.trans (.modLine _ n _)

theorem handOver_tickWork (n : LineNo) (e : Entry) (s : State) : TickWork n s (handOver n e s).1 := by
  have restarted : TickWork n s (s.modLine n Line.restartGather) :=
    .of_queueOnly fun m => by
      rw [State.modLine_line]
      split
      · next same => rw [same]; exact Line.restartGather_queueOnly _
      · exact .refl _
  have appended (u : State) : TickWork n u (u.modLine n fun l => l.appendDialled e) :=
    .of_queueOnly fun m => by
      rw [State.modLine_line]
      split
      · next same => rw [same]; exact Line.appendDialled_queueOnly _ e
      · exact .refl _
  unfold handOver
  dsimp only
  split
  · exact ((restarted.trans (appended _)).trans (.modLine _ n _)).trans (examineHead_tickWork n _)
  · exact restarted.trans (reportOverflow_tickWork n e _)

theorem startTrain_tickWork (n : LineNo) (stamp : Tick) (s : State) :
    TickWork n s (startTrain n stamp s) := by
  unfold startTrain
  split
  · exact (TickWork.modEstimator s n _).trans (.modDecoder _ n _)
  · exact .refl n s

theorem dropCall_tickWork (n : LineNo) (mode : LineMode) (s : State) :
    TickWork n s (dropCall n mode s) :=
  (TickWork.modEstimator s n _).trans (.modLine _ n _)

theorem clearCall_tickWork (n : LineNo) (s : State) : TickWork n s (clearCall n s) :=
  (((TickWork.of_queueOnly (discardQueue_queueOnly n s)).trans (dropCall_tickWork n _ _)).trans
    (.of_queueOnly (releaseSender_queueOnly n _))).trans (capture_reports _ n _ _).tickWork

theorem abandonTrain_tickWork (n : LineNo) (s : State) : TickWork n s (abandonTrain n s) :=
  (TickWork.modEstimator s n _).trans (.modDecoder _ n _)

theorem raiseHits_tickWork (n : LineNo) (s : State) : TickWork n s (raiseHits n s) := .modLine s n _

theorem flash_tickWork (n : LineNo) (b : Nat) (s : State) : TickWork n s (flash n b s) :=
  ((abandonTrain_tickWork n s).trans (handOver_tickWork n _ _)).trans (capture_reports _ n _ _).tickWork

theorem longBreak_tickWork (n : LineNo) (s : State) : TickWork n s (longBreak n s) :=
  (capture_reports _ n _ s).tickWork.trans (abandonTrain_tickWork n _)

theorem completePeriod_tickWork (n : LineNo) (s : State) : TickWork n s (completePeriod n s) := by
  unfold completePeriod
  dsimp only
  split
  · split
    · exact (TickWork.modDecoder s n _).trans (.modEstimator _ n _)
    · exact .modDecoder s n _
  · exact .refl n s

theorem countPulse_tickWork (n : LineNo) (s : State) : TickWork n s (countPulse n s) :=
  ((completePeriod_tickWork n s).trans (.modLine _ n _)).trans (.modDecoder _ n _)

theorem learnFromTrain_tickWork (n : LineNo) (s : State) : TickWork n s (learnFromTrain n s) := by
  unfold learnFromTrain
  dsimp only
  split
  · exact .refl n s
  · split
    · split
      · exact (TickWork.modEstimator s n _).trans (completeOrder_answers _ _ _ _).tickWork
      · exact .modEstimator s n _
    · exact .modEstimator s n _

theorem reportDialSpeed_tickWork (n : LineNo) (mean : Nat) (s : State) :
    TickWork n s (reportDialSpeed n mean s) := by
  unfold reportDialSpeed
  split
  · exact .refl n s
  · exact (reportFault_reports _ n _ s).tickWork.trans (.modLine _ n _)

theorem digitEnds_tickWork (n : LineNo) (digit : Nat) (c : TrainContext) (s : State) :
    TickWork n s (digitEnds n digit c s) := by
  unfold digitEnds
  dsimp only
  refine TickWork.trans ?_ (capture_reports _ n _ _).tickWork
  refine TickWork.trans ?_ (handOver_tickWork n _ _)
  refine TickWork.trans ?_ (.modLine _ n _)
  split
  · exact (learnFromTrain_tickWork n s).trans (reportDialSpeed_tickWork n _ _)
  · exact learnFromTrain_tickWork n s

theorem endTrain_tickWork (n : LineNo) (s : State) : TickWork n s (endTrain n s) := by
  unfold endTrain
  dsimp only
  split
  · exact .refl n s
  · split
    · exact digitEnds_tickWork n _ _ s
    · exact (capture_reports _ n _ s).tickWork.trans (abandonTrain_tickWork n _)

theorem breakTest_tickWork (n : LineNo) (s : State) : TickWork n s (breakTest n s).state := by
  unfold breakTest
  dsimp only
  split
  · exact clearCall_tickWork n s
  · exact .refl n s

theorem makeTest_tickWork (n : LineNo) (s : State) : TickWork n s (makeTest n s).state := by
  unfold makeTest
  dsimp only
  split
  · split
    · exact countPulse_tickWork n s
    · exact .refl n s
  · split
    · exact endTrain_tickWork n s
    · exact .refl n s

theorem startSeizing_tickWork (n : LineNo) (stamp : Tick) (s : State) :
    TickWork n s (startSeizing n stamp s) := by
  unfold startSeizing
  exact .modLine s n _

theorem abandonSeizure_tickWork (n : LineNo) (s : State) : TickWork n s (abandonSeizure n s) := by
  unfold abandonSeizure
  exact .modLine s n _

theorem breakEnds_tickWork (n : LineNo) (stamp : Tick) (s : State) :
    TickWork n s (breakEnds n stamp s).state := by
  have hit := raiseHits_tickWork n s
  unfold breakEnds
  dsimp only
  split
  · split
    · exact hit.trans (abandonTrain_tickWork n _)
    · exact (hit.trans (.modDecoder _ n _)).trans (makeTest_tickWork n _)
  · split
    · exact (TickWork.modDecoder s n _).trans (makeTest_tickWork n _)
    · split
      · unfold quietly
        dsimp only
        split
        · exact flash_tickWork n _ s
        · exact longBreak_tickWork n s
      · exact (clearCall_tickWork n s).trans (startSeizing_tickWork n stamp _)

theorem openInMake_tickWork (n : LineNo) (stamp : Tick) (s : State) :
    TickWork n s (openInMake n stamp s).state := by
  unfold openInMake
  dsimp only
  split
  · exact (TickWork.modDecoder s n _).trans (breakTest_tickWork n _)
  · exact ((endTrain_tickWork n s).trans (startTrain_tickWork n stamp _)).trans (breakTest_tickWork n _)

theorem decodeTick_tickWork (n : LineNo) (edge : Option Edge) (s : State) :
    TickWork n s (decodeTick n edge s).state := by
  unfold decodeTick
  dsimp only
  split
  · exact (startTrain_tickWork n _ s).trans (breakTest_tickWork n _)
  · exact .refl n s
  · exact breakEnds_tickWork n _ s
  · exact breakTest_tickWork n s
  · split
    · split
      · exact ((raiseHits_tickWork n s).trans (.modDecoder _ n _)).trans (breakTest_tickWork n _)
      · exact (countPulse_tickWork n s).trans (openInMake_tickWork n _ _)
    · exact openInMake_tickWork n _ s
  · exact makeTest_tickWork n s

/-! ### The supervisor and the timers -/

theorem completeSeizure_tickWork (n : LineNo) (s : State) : TickWork n s (completeSeizure n s) := by
  unfold completeSeizure
  split
  · exact (TickWork.modLine s n _).trans (capture_reports _ n _ _).tickWork
  · exact .refl n s

theorem superviseTick_tickWork (n : LineNo) (edge : Option Edge) (s : State) :
    TickWork n s (superviseTick n edge s).state := by
  unfold superviseTick
  split
  · exact .refl n s
  · exact startSeizing_tickWork n _ s
  · exact .refl n s
  · unfold seizingTick
    split
    · exact .refl n s
    · split
      · split
        · exact abandonSeizure_tickWork n s
        · exact (completeSeizure_tickWork n s).trans (decodeTick_tickWork n _ _)
      · split
        · exact completeSeizure_tickWork n s
        · exact .refl n s
  · exact decodeTick_tickWork n _ s
  · unfold lockoutTick
    split
    · split
      · exact .modLine s n fun l => { l with mode := .idle }
      · exact .refl n s
    · exact .refl n s

theorem endLearn_tickWork (n : LineNo) (code : ResultCode) (detail : Learn → Nat) (s : State) :
    TickWork n s (endLearn n code detail s) := by
  unfold endLearn
  split
  · exact .refl n s
  · exact (TickWork.modEstimator s n _).trans (completeOrder_answers _ _ _ _).tickWork

theorem firstDigitTest_tickWork (n : LineNo) (s : State) : TickWork n s (firstDigitTest n s).state := by
  unfold firstDigitTest
  split
  · exact ((dropCall_tickWork n _ s).trans (reportFault_reports _ n _ _).tickWork).trans
      (capture_reports _ n _ _).tickWork
  · exact .refl n s

theorem learnTest_tickWork (n : LineNo) (s : State) : TickWork n s (learnTest n s).state := by
  unfold learnTest
  split
  · exact endLearn_tickWork n _ _ s
  · exact .refl n s

theorem expiryTests_tickWork (n : LineNo) (s : State) : TickWork n s (expiryTests n s).state := by
  unfold expiryTests
  split
  · exact (learnTest_tickWork n s).trans (firstDigitTest_tickWork n _)
  · exact (firstDigitTest_tickWork n s).trans (learnTest_tickWork n _)

theorem gatherTest_tickWork (n : LineNo) (s : State) : TickWork n s (gatherTest n s).state := by
  unfold gatherTest
  split
  · exact (TickWork.modQueue s n _).trans (examineHead_tickWork n _)
  · exact .refl n s

theorem executionFinished_tickWork (n : LineNo) (s : State) : TickWork n s (executionFinished n s) :=
  ((TickWork.modQueue s n _).trans (.of_queueOnly (finishFlight_queueOnly n _))).trans
    (examineHead_tickWork n _)

theorem guardTest_tickWork (n : LineNo) (start : Tick) (s : State) :
    TickWork n s (guardTest n start s).state := by
  unfold guardTest
  split
  · exact executionFinished_tickWork n s
  · exact .refl n s

theorem executionTest_tickWork (n : LineNo) (s : State) : TickWork n s (executionTest n s).state := by
  unfold executionTest
  split
  · exact .refl n s
  · split
    · exact .refl n s
    · split
      · exact (TickWork.modLine s n _).trans (guardTest_tickWork n _ _)
      · exact .refl n s
    · exact guardTest_tickWork n _ s
    · split
      · exact executionFinished_tickWork n s
      · exact .refl n s

theorem waitTest_tickWork (n : LineNo) (s : State) : TickWork n s (waitTest n s).state := by
  unfold waitTest
  split
  · split
    · exact (reportFault_reports _ n _ s).tickWork.trans (.of_lines fun _ => rfl)
    · exact .refl n s
  · exact .refl n s

theorem Ticked.andThen_tickWork {x : Ticked} {f : State → Ticked} (hx : TickWork n s x.state)
    (hf : ∀ u, TickWork n u (f u).state) : TickWork n s (x.andThen f).state :=
  hx.trans (hf x.state)

theorem timerTests_tickWork (n : LineNo) (s : State) : TickWork n s (timerTests n s).state :=
  Ticked.andThen_tickWork
    (Ticked.andThen_tickWork
      (Ticked.andThen_tickWork (expiryTests_tickWork n s) (gatherTest_tickWork n))
      (executionTest_tickWork n))
    (waitTest_tickWork n)

end Sys2Proof.Machine
end

section
/-! The line tick as an event: what its sample leaves for the supervisor and the decoder, and what it comes to by their
verdict and the tests of the timers. Settles O7. -/

namespace Sys2Proof.Machine

variable {s t u : State} {n m : LineNo} {high : Bool} {sc sc' : Scan} {a : AdoptedSet} {l : Line}
  {edge : Option Edge} {w : Ticked} {e : TickEvent}

/-! ### The rows -/

/-- The row that names a decision. -/
def TickEvent.row : TickEvent → LineNo → Bool → Instr
  | .seizureComplete => .seizureComplete
  | .firstDigitExpiry => .firstDigitExpiry
  | .lockoutReturn => .lockoutReturn
  | .clear => .clear
  | .pulseCounted => .pulseCounted
  | .trainEnd => .trainEnd
  | .gatherWaitExpiry => .gatherWaitExpiry
  | .recallBreakEnd => .recallBreakEnd
  | .recallFinished => .recallFinished
  | .pauseFinished => .pauseFinished
  | .senderWait => .senderWait
  | .learnExpiry => .learnExpiry

theorem exec_row (e : TickEvent) (n : LineNo) (high : Bool) (s : State) :
    exec (e.row n high) s = occurs (tickHolds e n high s) (lineTick n high s) s := by
  cases e <;> rfl

theorem exec_lineTick (n : LineNo) (high : Bool) (s : State) :
    exec (.lineTick n high) s = occurs (lineTickDue n s) (lineTick n high s) s := rfl

theorem exec_lineTick_of_due (due : lineTickDue n s = true) :
    exec (.lineTick n high) s = .next (settle s (lineTickEffects n high s).state) := by
  rw [exec_lineTick, due]
  rfl

/-- The rows of a line tick, one for each decision. -/
theorem mem_rows {row : LineNo → Bool → Instr}
    (h : row ∈ [Instr.seizureComplete, .firstDigitExpiry, .lockoutReturn, .clear, .pulseCounted,
      .trainEnd, .gatherWaitExpiry, .recallBreakEnd, .recallFinished, .pauseFinished, .senderWait,
      .learnExpiry]) : ∃ e : TickEvent, row = e.row := by
  simp only [List.mem_cons, List.not_mem_nil, or_false] at h
  obtain h | h | h | h | h | h | h | h | h | h | h | h := h
  · exact ⟨.seizureComplete, h⟩
  · exact ⟨.firstDigitExpiry, h⟩
  · exact ⟨.lockoutReturn, h⟩
  · exact ⟨.clear, h⟩
  · exact ⟨.pulseCounted, h⟩
  · exact ⟨.trainEnd, h⟩
  · exact ⟨.gatherWaitExpiry, h⟩
  · exact ⟨.recallBreakEnd, h⟩
  · exact ⟨.recallFinished, h⟩
  · exact ⟨.pauseFinished, h⟩
  · exact ⟨.senderWait, h⟩
  · exact ⟨.learnExpiry, h⟩

/-- A row is the line tick, or leaves the state. -/
theorem exec_row_cases (e : TickEvent) (n : LineNo) (high : Bool) (s : State) :
    exec (e.row n high) s = .next s ∨ exec (e.row n high) s = exec (.lineTick n high) s := by
  rw [exec_row, exec_lineTick]
  cases held : tickHolds e n high s with
  | false => exact .inl rfl
  | true =>
    have due : lineTickDue n s = true := (Bool.and_eq_true_iff.mp held).1
    rw [due]
    exact .inr rfl

/-! ### The sample -/

/-- The line tick of one line with its sample taken: the sample is noted and the requests of the line are counted on. -/
def State.atTick (s : State) (n : LineNo) (l : Line) : State :=
  { s with scanBus := s.noteSample n, lines := s.lines.set n l, waitList := s.requestsTicked n }

/-- A line with its sample taken, its scan unit as the debounce leaves it, and its timers raised. -/
def Line.taken (l : Line) (high : Bool) (sc : Scan) : Line :=
  { l.ticked.learnTicked with raw := high, scan := some sc }

@[simp] theorem State.atTick_line_same (s : State) (n : LineNo) (l : Line) : (s.atTick n l).line n = l := by
  simp [State.atTick, State.line]

theorem State.atTick_line_other (s : State) (l : Line) (other : m ≠ n) : (s.atTick n l).line m = s.line m := by
  have apart : n.val ≠ m.val := fun same => other (Fin.ext same.symm)
  simp [State.atTick, State.line, Vector.getElem_set_ne _ _ apart]

@[simp] theorem State.atTick_clock (s : State) (n : LineNo) (l : Line) : (s.atTick n l).clock = s.clock := rfl

@[simp] theorem State.atTick_sendHold (s : State) (n : LineNo) (l : Line) :
    (s.atTick n l).sendHold = s.sendHold := rfl

@[simp] theorem State.atTick_peek (s : State) (n : LineNo) (l : Line) (x : Nat) :
    (s.atTick n l).peek x = s.peek x := rfl

@[simp] theorem State.atTick_waitList (s : State) (n : LineNo) (l : Line) :
    (s.atTick n l).waitList = s.requestsTicked n := rfl

theorem State.atTick_setInForce (s : State) (n : LineNo) (h : l.profile = (s.line n).profile) :
    (s.atTick n l).setInForce n = s.setInForce n :=
  State.setInForce_congr (by rw [State.atTick_line_same, h]) rfl

theorem Request.raise_eq (r : Request) (sendHold : Bool) : r.raise sendHold = r.ticked sendHold := by
  simp [Request.raise, Request.ticked, saturate]

/-- The sample noted and the line replaced, then its timers and its request raised. -/
theorem raiseTimers_setLine (s : State) (n : LineNo) (l : Line) :
    raiseTimers n
        ((s.setScanBus
          { s.scanBus with sampled := s.scanBus.sampled.set (lineGroup n) true }).setLine n l) =
      s.atTick n l.raiseTimers := by
  unfold raiseTimers State.modLine
  rw [State.setLine_setLine, State.setLine_line_same]
  simp only [State.atTick, State.requestsTicked, ← Request.raise_eq]
  rfl

/-- The line tick of the line is due, and its sample leaves this scan unit and this edge to it. -/
structure Takes (n : LineNo) (high : Bool) (s : State) (sc : Scan) (edge : Option Edge) : Prop where
  due : lineTickDue n s = true
  effects : lineTickEffects n high s =
    (superviseTick n edge (s.atTick n ((s.line n).taken high sc))).andThen (timerTests n)

theorem Line.raiseTimers_taken (l : Line) (high : Bool) (sc : Scan) :
    Line.raiseTimers { l with raw := high, scan := some sc } = l.taken high sc := rfl

theorem lineTickEffects_scanned (scan : (s.line n).scan = some sc)
    (debounced : debounce (((s.setInForce n).map (·.debounce)).getD 0) (corrected sc.polarity high)
      s.clock sc = (sc', edge)) :
    lineTickEffects n high s =
      (superviseTick n edge (s.atTick n ((s.line n).taken high sc'))).andThen (timerTests n) := by
  unfold lineTickEffects takeSample
  dsimp only
  rw [scan]
  dsimp only
  rw [debounced]
  dsimp only
  rw [raiseTimers_setLine, Line.raiseTimers_taken]

theorem Takes.of_debounce (due : lineTickDue n s = true) (scan : (s.line n).scan = some sc)
    (debounced : debounce (((s.setInForce n).map (·.debounce)).getD 0) (corrected sc.polarity high)
      s.clock sc = (sc', edge)) : Takes n high s sc' edge :=
  ⟨due, lineTickEffects_scanned scan debounced⟩

theorem SteadyTick.takes (h : SteadyTick n high sc s) :
    Takes n high s { sc with run := 0, candidate := none } none := by
  obtain ⟨due, scan, level⟩ := h
  exact .of_debounce due scan (by simp [debounce, level])

theorem EdgeTick.takes (h : EdgeTick n high sc a s) :
    Takes n high s (sc.turned (corrected sc.polarity high) (edgeStampOf sc s))
      (some { level := corrected sc.polarity high, stamp := edgeStampOf sc s }) := by
  obtain ⟨due, scan, set, level, enough⟩ := h
  exact .of_debounce due scan (by simp [debounce, level, set, enough, edgeStampOf, Scan.turned])

theorem ShortTick.takes (h : ShortTick n high sc a s) :
    Takes n high s { sc with run := sc.run + 1, candidate := some (edgeStampOf sc s) } none := by
  obtain ⟨due, scan, set, level, short⟩ := h
  exact .of_debounce due scan (by simp [debounce, level, set, Nat.not_le.mpr short, edgeStampOf])

/-- The sample of a line that has no scan unit. -/
theorem lineTickEffects_unscanned (scan : (s.line n).scan = none) :
    lineTickEffects n high s =
      (superviseTick n none
        (s.atTick n (Line.raiseTimers { s.line n with raw := high }))).andThen (timerTests n) := by
  unfold lineTickEffects takeSample
  dsimp only
  rw [scan]
  dsimp only
  rw [raiseTimers_setLine]

/-! ### The whole line tick -/

theorem Ticked.andThen_state (x : Ticked) (f : State → Ticked) :
    (x.andThen f).state = (f x.state).state := rfl

theorem Takes.tick (h : Takes n high s sc edge)
    (supervised : superviseTick n edge (s.atTick n ((s.line n).taken high sc)) = w) :
    exec (.lineTick n high) s = .next (settle s (timerTests n w.state).state) := by
  rw [exec_lineTick_of_due h.due, h.effects, supervised, Ticked.andThen_state]

/-- A row whose decision the line tick takes is that line tick. -/
theorem Takes.row (h : Takes n high s sc edge)
    (supervised : superviseTick n edge (s.atTick n ((s.line n).taken high sc)) = w)
    (held : e ∈ w.events ∨ e ∈ (timerTests n w.state).events) :
    exec (e.row n high) s = .next (settle s (timerTests n w.state).state) := by
  have holds : tickHolds e n high s = true := by
    unfold tickHolds
    rw [h.due, h.effects, supervised, Bool.true_and]
    exact List.contains_iff_mem.mpr (List.mem_append.mpr held)
  have effect : lineTick n high s = settle s (timerTests n w.state).state := by
    unfold lineTick event
    dsimp only
    rw [h.effects, supervised, Ticked.andThen_state]
  rw [exec_row, holds, effect]
  rfl

/-- A row whose decision the line tick does not take leaves the state. -/
theorem Takes.idle_row (h : Takes n high s sc edge)
    (supervised : superviseTick n edge (s.atTick n ((s.line n).taken high sc)) = w)
    (first : e ∉ w.events) (second : e ∉ (timerTests n w.state).events) :
    exec (e.row n high) s = .next s := by
  have holds : tickHolds e n high s = false := by
    unfold tickHolds
    rw [h.effects, supervised]
    have none : e ∉ (w.andThen (timerTests n)).events := fun held =>
      (List.mem_append.mp held).elim first second
    simpa using fun _ => none
  rw [exec_row, holds]
  rfl

/-! ### Timers that wait -/

/-- No timer of the line ends. -/
structure TimersRest (n : LineNo) (s : State) : Prop where
  firstDigit : firstDigitTest n s = quietly s
  learn : learnTest n s = quietly s
  gather : gatherTest n s = quietly s
  execution : executionTest n s = quietly s
  wait : waitTest n s = quietly s

@[simp] theorem quietly_andThen (s : State) (f : State → Ticked) : (quietly s).andThen f = f s := rfl

theorem expiryTests_of_rest (firstDigit : firstDigitTest n s = quietly s) :
    expiryTests n s = learnTest n s := by
  have due : firstDigitDue n s = false := by
    cases h : firstDigitDue n s with
    | false => rfl
    | true =>
      unfold firstDigitTest at firstDigit
      rw [if_pos h] at firstDigit
      exact absurd (congrArg Ticked.events firstDigit) (by simp [noting, quietly])
  unfold expiryTests
  rw [due]
  simp only [Bool.false_and, Bool.false_eq_true, if_false]
  rw [firstDigit, quietly_andThen]

theorem TimersRest.tests (h : TimersRest n s) : timerTests n s = quietly s := by
  unfold timerTests
  rw [expiryTests_of_rest h.firstDigit, h.learn, quietly_andThen, h.gather, quietly_andThen, h.execution,
    quietly_andThen, h.wait]

theorem firstDigitTest_of_inactive (h : (s.line n).mode ≠ .active) : firstDigitTest n s = quietly s := by
  simp [firstDigitTest, firstDigitDue, h]

theorem firstDigitTest_of_running (h : ∀ tm ∈ (s.line n).firstDigit, tm.count < tm.limit) :
    firstDigitTest n s = quietly s := by
  have waits : ((s.line n).firstDigit.map Timer.expired).getD false = false := by
    cases running : (s.line n).firstDigit with
    | none => rfl
    | some tm => simpa [Timer.expired] using h tm running
  simp [firstDigitTest, firstDigitDue, waits]

theorem firstDigitTest_of_stopped (h : (s.line n).firstDigit = none) : firstDigitTest n s = quietly s :=
  firstDigitTest_of_running (by simp [h])

theorem learnTest_of_running (h : ∀ x ∈ (s.line n).learnPending, x.timer.count < x.timer.limit) :
    learnTest n s = quietly s := by
  have waits : learnDue n s = false := by
    unfold learnDue
    cases running : (s.line n).learnPending with
    | none => rfl
    | some x => simpa [Timer.expired] using h x running
  simp [learnTest, waits]

theorem gatherTest_of_inactive (h : (s.line n).mode ≠ .active) : gatherTest n s = quietly s := by
  simp [gatherTest, h]

theorem gatherTest_of_running (h : ∀ g ∈ (s.line n).queue.gatherTimer, g.count < g.limit) :
    gatherTest n s = quietly s := by
  have waits : ((s.line n).queue.gatherTimer.map Timer.expired).getD false = false := by
    cases running : (s.line n).queue.gatherTimer with
    | none => rfl
    | some g => simpa [Timer.expired] using h g running
  simp [gatherTest, waits]

theorem executionTest_of_inactive (h : (s.line n).mode ≠ .active) : executionTest n s = quietly s :=
  if_pos h

theorem executionTest_of_none (h : (s.line n).queue.execution = .none) : executionTest n s = quietly s := by
  unfold executionTest
  rw [h]
  exact ite_self _

theorem waitTest_of_waits (h : ∀ r ∈ s.request n, r.expired = true ∨ r.waitCount < r.senderWait) :
    waitTest n s = quietly s := by
  unfold waitTest
  split
  · next r found =>
    have waits : r.waitDue = false := by
      obtain expired | before := h r found
      · simp [Request.waitDue, expired]
      · simp [Request.waitDue, before]
    rw [waits]
    rfl
  · rfl

/-! ### The line tick of any line -/

theorem lineTickEffects_tickWork (n : LineNo) (high : Bool) (s : State) :
    ∃ l, TickWork n (s.atTick n l) (lineTickEffects n high s).state ∧ l.raw = high := by
  have worked (edge : Option Edge) (u : State) :
      TickWork n u ((superviseTick n edge u).andThen (timerTests n)).state :=
    Ticked.andThen_tickWork (superviseTick_tickWork n edge u) (timerTests_tickWork n)
  cases scan : (s.line n).scan with
  | none =>
    rw [lineTickEffects_unscanned scan]
    exact ⟨_, worked _ _, rfl⟩
  | some sc =>
    rw [lineTickEffects_scanned scan rfl]
    exact ⟨_, worked _ _, rfl⟩

end Sys2Proof.Machine
end

section
/-! A line tick that shows nothing, and the line tick of any line. Settles O7. -/

namespace Sys2Proof.Machine

variable {s t u : State} {n m : LineNo} {high : Bool} {sc : Scan} {l : Line} {edge : Option Edge}

/-! ### Requests through a line tick -/

theorem Request.ticked_line (r : Request) (sendHold : Bool) : (r.ticked sendHold).line = r.line := rfl

theorem find_mapped {f : Request → Request} (hf : ∀ r, (f r).line = r.line) (l : List Request) (n : LineNo) :
    (l.map f).find? (fun r => r.line == n) = (l.find? fun r => r.line == n).map f := by
  induction l with
  | nil => rfl
  | cons r rest ih =>
    rw [List.map_cons, List.find?_cons, List.find?_cons, hf r, ih]
    cases r.line == n <;> rfl

/-- The requests of one line changed. -/
theorem find_changed_same (f : Request → Request) (hf : ∀ r, (f r).line = r.line) (l : List Request) (n : LineNo) :
    (l.map fun r => if r.line = n then f r else r).find? (fun r => r.line == n) =
      (l.find? fun r => r.line == n).map f := by
  rw [find_mapped (fun r => by split <;> [exact hf r; rfl])]
  cases found : l.find? fun r => r.line == n with
  | none => rfl
  | some r =>
    have line : r.line = n := by simpa using List.find?_some found
    simp [line]

theorem find_changed_other (f : Request → Request) (hf : ∀ r, (f r).line = r.line) (l : List Request)
    (other : m ≠ n) :
    (l.map fun r => if r.line = n then f r else r).find? (fun r => r.line == m) =
      l.find? fun r => r.line == m := by
  rw [find_mapped (fun r => by split <;> [exact hf r; rfl])]
  cases found : l.find? fun r => r.line == m with
  | none => rfl
  | some r =>
    have line : r.line = m := by simpa using List.find?_some found
    have apart : r.line ≠ n := by rw [line]; exact other
    simp [apart]

theorem State.atTick_request (s : State) (n : LineNo) (l : Line) :
    (s.atTick n l).request n = (s.request n).map (·.ticked s.sendHold) :=
  find_changed_same (·.ticked s.sendHold) (fun _ => rfl) s.waitList n

theorem State.requestsTicked_of_none (h : s.request n = none) : s.requestsTicked n = s.waitList := by
  have absent : ∀ r ∈ s.waitList, r.line ≠ n := by
    simpa [State.request] using h
  refine (List.map_congr_left fun r hr => if_neg (absent r hr)).trans (List.map_id _)

theorem waitTest_atTick (h : RequestWaits n s) (n_request : u.request n = (s.request n).map (·.ticked s.sendHold)) :
    waitTest n u = quietly u := by
  refine waitTest_of_waits fun r hr => ?_
  rw [n_request] at hr
  obtain ⟨q, found, rfl⟩ := Option.mem_map.mp hr
  exact h q found

theorem waitTest_of_no_request (h : s.request n = none) : waitTest n s = quietly s :=
  waitTest_of_waits (by simp [h])

/-! ### What a line tick shows -/

/-- An event that leaves every image, the bindings and the number of requests shows nothing. -/
theorem settle_of_images (mute : MuteSound u) (images : ∀ n, u.imageWords n = s.imageWords n)
    (bound : ∀ k, (u.sender k).map (·.line) = (s.sender k).map (·.line))
    (waitList : u.waitList.length = s.waitList.length) : settle s u = u := by
  have image (m : List (Nat × Word)) (n : LineNo) : writeImage s u m n = m := by
    unfold writeImage
    rw [images, writeChanged_self, ite_self]
  have senders (m : List (Nat × Word)) (k : SenderNo) : writeSenderStatus s u m k = m :=
    if_pos (by rw [senderStatusWord_of_line, senderStatusWord_of_line, bound])
  have still {α : Type} {f : List (Nat × Word) → α → List (Nat × Word)} (hf : ∀ m x, f m x = m)
      (l : List α) (m : List (Nat × Word)) : l.foldl f m = m := by
    induction l generalizing m with
    | nil => rfl
    | cons x rest ih => rw [List.foldl_cons, hf, ih]
  unfold settle
  rw [mute.settled]
  unfold shownStore writeWaitCount
  rw [still image, still senders, if_pos waitList.symm]
  rfl

theorem State.atTick_boundSender (s : State) (n m : LineNo) (l : Line) :
    (s.atTick n l).boundSender m = s.boundSender m := rfl

theorem State.atTick_beside (s : State) (n : LineNo) (l : Line) : Beside n s (s.atTick n l) :=
  ⟨fun _ other => s.atTick_line_other l other, rfl, fun _ => rfl, by simp [State.requestsTicked]⟩

theorem MuteSound.atTick (mute : MuteSound s) (same : (s.line n).MutesAs l) : MuteSound (s.atTick n l) :=
  mute.of_line (s.atTick_beside n l).lines (fun _ => rfl) (by rw [State.atTick_line_same]; exact same)

/-- A line tick that changes nothing of the image of its line shows nothing. -/
theorem settle_atTick (mute : MuteSound s) (same : (s.line n).MutesAs l)
    (image : (s.atTick n l).imageWords n = s.imageWords n) : settle s (s.atTick n l) = s.atTick n l := by
  have beside := s.atTick_beside n l
  refine settle_of_images (mute.atTick same) (fun m => ?_) beside.bound beside.waitList
  by_cases h : m = n
  · rw [h, image]
  · exact State.imageWords_congr (beside.lines m h) rfl rfl

/-- The sample and the timers are no part of a line's image. -/
theorem atTick_taken_image {sc' : Scan} (scan : (s.line n).scan = some sc) (polarity : sc'.polarity = sc.polarity) :
    (s.atTick n ((s.line n).taken high sc')).imageWords n = s.imageWords n := by
  have set : (s.atTick n ((s.line n).taken high sc')).setInForce n = s.setInForce n :=
    s.atTick_setInForce n rfl
  unfold State.imageWords imageWord0 imageWord6 State.shownGeneration
  rw [set, State.atTick_boundSender, State.atTick_line_same]
  generalize s.setInForce n = force
  generalize s.boundSender n = bound
  generalize s.line n = l at scan ⊢
  unfold Line.taken Line.learnTicked Line.ticked
  cases estimator : l.estimator with
  | none => simp [scan, polarity, Line.pendingSlot, estimator]
  | some e =>
    cases learn : e.learn <;>
      simp [scan, polarity, Line.pendingSlot, estimator, learn]

theorem Line.taken_mutesAs (l : Line) (high : Bool) (sc : Scan) : l.MutesAs (l.taken high sc) :=
  ⟨rfl, rfl, rfl, rfl⟩

/-! ### The line tick of any line -/

theorem noteSample_eq (s : State) (n : LineNo) :
    { s.scanBus with sampled := s.scanBus.sampled.set (lineGroup n) true } = s.noteSample n := rfl

theorem lineTick_takes (n : LineNo) (high : Bool) (s : State) (due : lineTickDue n s = true) :
    ∃ t, exec (.lineTick n high) s = .next t ∧
      (t.line n).raw = high ∧
      (∀ m : LineNo, m ≠ n →
        t.line m = { s.line m with queue := (t.line m).queue, mute := t.muteOn m }) ∧
      t = { s with
        scanBus := s.noteSample n, lines := t.lines, senders := t.senders, waitList := t.waitList,
        board := t.board, capture := t.capture, causes := t.causes, store := t.store } := by
  obtain ⟨l, tick, raw⟩ := lineTickEffects_tickWork n high s
  have work := lineTickEffects_work n high s
  rw [noteSample_eq] at work
  refine ⟨_, exec_lineTick_of_due due, ?_⟩
  generalize (lineTickEffects n high s).state = u at *
  refine ⟨?_, fun m other => ?_, ?_⟩
  · rw [settle_line]
    exact tick.raw.trans (by rw [State.atTick_line_same, raw])
  · have kept : u.line m = { (s.atTick n l).line m with queue := (u.line m).queue } := tick.other m other
    rw [s.atTick_line_other l other] at kept
    rw [settle_muteOn, settle_line]
    generalize u.line m = l' at kept ⊢
    rw [kept]
  · exact work.trans (settle_work s u)

/-- The line tick of a line OUT. -/
theorem lineTick_out {raw : Bool} (mute : MuteSound s) (unserved : Unserved n s)
    (due : lineTickDue n s = true) (out : s.line n = Line.outOfService raw) :
    exec (.lineTick n high) s =
      .next { s with
        scanBus := s.noteSample n, lines := s.lines.set n (Line.outOfService high) } := by
  obtain ⟨-, noRequest⟩ := unserved
  have sampled : Line.raiseTimers { s.line n with raw := high } = Line.outOfService high := by
    rw [out]; rfl
  have mode : ((s.atTick n (Line.outOfService high)).line n).mode = .out := by
    rw [State.atTick_line_same]; rfl
  have inactive : ((s.atTick n (Line.outOfService high)).line n).mode ≠ .active := by rw [mode]; decide
  have rest : TimersRest n (s.atTick n (Line.outOfService high)) :=
    { firstDigit := firstDigitTest_of_inactive inactive
      learn := learnTest_of_running (by rw [State.atTick_line_same]; simp [Line.learnPending, Line.outOfService])
      gather := gatherTest_of_inactive inactive
      execution := executionTest_of_inactive inactive
      wait := waitTest_of_no_request (by rw [State.atTick_request, noRequest]; rfl) }
  have supervised : superviseTick n none (s.atTick n (Line.outOfService high)) =
      quietly (s.atTick n (Line.outOfService high)) := by
    unfold superviseTick
    rw [mode]
  have image : (s.atTick n (Line.outOfService high)).imageWords n = s.imageWords n := by
    unfold State.imageWords
    rw [State.atTick_line_same, out]
    rfl
  have shown := settle_atTick mute (n := n) (l := Line.outOfService high)
    (by rw [out]; exact ⟨rfl, rfl, rfl, rfl⟩) image
  rw [exec_lineTick_of_due due, lineTickEffects_unscanned (by rw [out]; rfl), sampled, supervised,
    quietly_andThen, rest.tests]
  refine congrArg Host.Outcome.next (shown.trans ?_)
  rw [State.atTick, State.requestsTicked_of_none noRequest]

/-- Settles O7: the supervisor, the decoder and the timers keep the sample and every other line but its queue unit,
and a row that names a decision is the whole line tick. -/
theorem lineTickTakesTheSample : Obligations.LineTickTakesTheSample := by
  unfold Obligations.LineTickTakesTheSample
  refine ⟨lineTick_takes, fun n high s row listed => ?_, fun n high raw s mute unserved due out =>
    lineTick_out mute unserved due out⟩
  obtain ⟨e, rfl⟩ := mem_rows listed
  exact exec_row_cases e n high s

end Sys2Proof.Machine
end

section
/-! A line tick in which nothing is decided, and the debounce. Settles O8. -/

namespace Sys2Proof.Machine

variable {s t u : State} {n m : LineNo} {high : Bool} {sc sc' : Scan} {l : Line} {edge : Option Edge}
  {a : AdoptedSet} {e : TickEvent}

/-! ### Timers through a line tick -/

theorem Line.ticked_firstDigit (l : Line) :
    l.ticked.firstDigit = l.firstDigit.map fun tm => { tm with count := tm.count + 1 } := rfl

theorem Line.learnTicked_learnPending (l : Line) :
    l.learnTicked.learnPending =
      l.learnPending.map fun x => { x with timer := { x.timer with count := x.timer.count + 1 } } := by
  unfold Line.learnPending Line.learnTicked
  cases l.estimator <;> rfl

theorem Line.taken_learnPending (l : Line) (high : Bool) (sc : Scan) :
    (l.taken high sc).learnPending = l.learnTicked.learnPending := rfl

theorem firstDigitTest_ticked (h : FirstDigitWaits n s)
    (timer : (u.line n).firstDigit = (s.line n).ticked.firstDigit) : firstDigitTest n u = quietly u := by
  refine firstDigitTest_of_running fun tm htm => ?_
  rw [timer, Line.ticked_firstDigit] at htm
  obtain ⟨before, running, rfl⟩ := Option.mem_map.mp htm
  exact h before running

theorem learnTest_ticked (h : LearnWaits n s)
    (learn : (u.line n).learnPending = (s.line n).learnTicked.learnPending) :
    learnTest n u = quietly u := by
  refine learnTest_of_running fun x hx => ?_
  rw [learn, Line.learnTicked_learnPending] at hx
  obtain ⟨before, pending, rfl⟩ := Option.mem_map.mp hx
  exact h before pending

theorem gatherTest_ticked (h : GatherWaits n s)
    (timer : (u.line n).queue.gatherTimer = (s.line n).ticked.queue.gatherTimer) :
    gatherTest n u = quietly u := by
  refine gatherTest_of_running fun g hg => ?_
  rw [timer] at hg
  obtain ⟨before, running, rfl⟩ := Option.mem_map.mp hg
  exact h before running

theorem executionTest_of_waits (h : (s.line n).executionWaits s.clock = true) :
    executionTest n s = quietly s := by
  unfold executionTest guardTest Line.pauseLength
  unfold Line.executionWaits at h
  split
  · rfl
  generalize (s.line n).queue.execution = running at h ⊢
  generalize (s.line n).call = call at h ⊢
  generalize (s.line n).queue.flight = flight at h ⊢
  cases running with
  | none => rfl
  | recallBreak start =>
    cases call with
    | none => simp at h
    | some c =>
      have before : since s.clock start < c.flashOut := by simpa using h
      simp [before]
  | recallGuard start =>
    cases call with
    | none => simp at h
    | some c =>
      have before : since s.clock start < c.recallGuard := by simpa using h
      simp [before]
  | pause start =>
    cases flight with
    | none => simp at h
    | some f =>
      obtain ⟨⟨kind, origin, owner⟩, owned⟩ := f
      cases kind with
      | tone code => simp at h
      | pause ms =>
        have before : since s.clock start < ms := by simpa using h
        simp [before]
      | _ => simp at h

/-! ### The supervisor and the decoder without an edge -/

theorem breakTest_of_short (h : (s.line n).decoder.sub = .inBreak →
    (s.line n).decoder.sinceBreak s.clock < (s.line n).decoder.limit (·.flashMax)) :
    breakTest n s = quietly s :=
  if_neg fun ⟨sub, _, long⟩ => absurd (h sub) (Nat.not_lt.mpr long)

theorem makeTest_of_short
    (pending : (s.line n).decoder.pulsePending = true →
      (s.line n).decoder.sinceMake s.clock < (s.line n).decoder.limit (·.makeMin))
    (counted : (s.line n).decoder.pulsePending = false →
      (s.line n).decoder.sinceMake s.clock < (s.line n).decoder.limit (·.tId)) :
    makeTest n s = quietly s := by
  unfold makeTest
  dsimp only
  cases h : (s.line n).decoder.pulsePending with
  | true => rw [if_pos rfl, if_neg (Nat.not_le.mpr (pending h))]
  | false => rw [if_neg Bool.false_ne_true, if_neg (Nat.not_le.mpr (counted h))]

/-- The decoder of a line without an edge, whose test is not met. -/
theorem decodeTick_of_waits (h : DecoderWaits n s) : decodeTick n none s = quietly s := by
  obtain ⟨inBreak, pending, counted⟩ := h
  unfold decodeTick
  dsimp only
  cases sub : (s.line n).decoder.sub with
  | quiet => rfl
  | inBreak => exact breakTest_of_short inBreak
  | inMake => exact makeTest_of_short (pending sub) (counted sub)

theorem DecoderWaits.congr (h : DecoderWaits n s) (decoder : (u.line n).decoder = (s.line n).decoder)
    (clock : u.clock = s.clock) : DecoderWaits n u := by
  unfold DecoderWaits
  rw [decoder, clock]
  exact h

theorem lockoutTick_of_short (scan : (s.line n).scan = some sc)
    (short : sc.level = .opened → ∀ a ∈ s.setInForce n, since s.clock sc.edgeStamp < a.flashMax) :
    lockoutTick n s = quietly s := by
  unfold lockoutTick
  rw [scan]
  cases set : s.setInForce n with
  | none => rfl
  | some a => exact if_neg fun ⟨opened, long⟩ => absurd (short opened a set) (Nat.not_lt.mpr long)

theorem seizingTick_of_short (short : ∀ z ∈ (s.line n).seizure, since s.clock z.start < z.seizeTime) :
    seizingTick n none s = quietly s := by
  unfold seizingTick
  cases seizure : (s.line n).seizure with
  | none => rfl
  | some z => exact if_neg (Nat.not_le.mpr (short z seizure))

/-- A steady or short sample decides nothing where neither the standing level nor the decoder's test does. -/
theorem OnlyLearnMoves.supervises (h : OnlyLearnMoves n sc s) (level : sc'.level = sc.level)
    (stamp : sc'.edgeStamp = sc.edgeStamp) :
    superviseTick n none (s.atTick n ((s.line n).taken high sc')) =
      quietly (s.atTick n ((s.line n).taken high sc')) := by
  obtain ⟨seizing, lockout, active, -⟩ := h
  have set := s.atTick_setInForce n (l := (s.line n).taken high sc') rfl
  have line := s.atTick_line_same n ((s.line n).taken high sc')
  unfold superviseTick
  rw [line]
  cases mode : ((s.line n).taken high sc').mode with
  | out => rfl
  | idle => rfl
  | seizing => exact seizingTick_of_short (by rw [line]; exact seizing mode)
  | active => exact decodeTick_of_waits ((active mode).1.congr (by rw [line]; rfl) rfl)
  | lockout =>
    refine lockoutTick_of_short (sc := sc') (by rw [line]; rfl) ?_
    rw [set, level, stamp]
    exact lockout mode

/-- The timers of a line tick in which only a LEARN may end. -/
theorem OnlyLearnMoves.rest (h : OnlyLearnMoves n sc s)
    (learn : learnTest n (s.atTick n ((s.line n).taken high sc')) =
      quietly (s.atTick n ((s.line n).taken high sc'))) :
    TimersRest n (s.atTick n ((s.line n).taken high sc')) := by
  obtain ⟨-, -, active, request⟩ := h
  have line := s.atTick_line_same n ((s.line n).taken high sc')
  have wait := waitTest_atTick request (s.atTick_request n ((s.line n).taken high sc'))
  by_cases mode : (s.line n).mode = .active
  · obtain ⟨-, firstDigit, gather, execution⟩ := active mode
    exact ⟨firstDigitTest_ticked firstDigit (by rw [line]; rfl), learn,
      gatherTest_ticked gather (by rw [line]; rfl),
      executionTest_of_waits (by rw [line, State.atTick_clock]; exact execution), wait⟩
  · have inactive : ((s.atTick n ((s.line n).taken high sc')).line n).mode ≠ .active := by
      rw [line]; exact mode
    exact ⟨firstDigitTest_of_inactive inactive, learn, gatherTest_of_inactive inactive,
      executionTest_of_inactive inactive, wait⟩

/-- A line tick in which nothing is decided: the sample is taken and the timers count. -/
theorem Takes.still (h : Takes n high s sc' edge) (mute : MuteSound s) (scan : (s.line n).scan = some sc)
    (polarity : sc'.polarity = sc.polarity)
    (supervised : superviseTick n edge (s.atTick n ((s.line n).taken high sc')) =
      quietly (s.atTick n ((s.line n).taken high sc')))
    (rest : TimersRest n (s.atTick n ((s.line n).taken high sc'))) :
    exec (.lineTick n high) s = .next (s.atTick n ((s.line n).taken high sc')) ∧
      ∀ e : TickEvent, exec (e.row n high) s = .next s := by
  have shown := settle_atTick mute ((s.line n).taken_mutesAs high sc') (atTick_taken_image scan polarity)
  have ends : (timerTests n (quietly (s.atTick n ((s.line n).taken high sc'))).state) =
      quietly (s.atTick n ((s.line n).taken high sc')) := rest.tests
  refine ⟨?_, fun e => h.idle_row supervised List.not_mem_nil (by rw [ends]; exact List.not_mem_nil)⟩
  rw [h.tick supervised, ends]
  exact congrArg Host.Outcome.next shown

/-! ### The debounce -/

/-- A run of samples of a new level, before the one that D accepts. -/
theorem debounceRun_short {d : Nat} {c : Level} {t : Tick} (start : sc.run = 0) (new : c ≠ sc.level) (k : Nat)
    (short : k < d) :
    debounceRun d c t sc k =
      (if k = 0 then sc else { sc with run := k, candidate := some t }, none) := by
  induction k with
  | zero => rfl
  | succ k ih =>
    unfold debounceRun
    rw [ih (by omega)]
    by_cases first : k = 0
    · subst first
      have more : ¬d ≤ 1 := by omega
      simp [debounce, new, start, more]
    · have more : ¬d ≤ k + 1 := by omega
      simp [debounce, new, first, more]

theorem debounceRun_accepts {d : Nat} {c : Level} {t : Tick} (least : 1 ≤ d) (start : sc.run = 0)
    (new : c ≠ sc.level) :
    debounceRun d c t sc d =
      ({ sc with level := c, run := 0, candidate := none, edgeStamp := t },
        some { level := c, stamp := t }) := by
  obtain ⟨k, rfl⟩ : ∃ k, d = k + 1 := ⟨d - 1, by omega⟩
  unfold debounceRun
  rw [debounceRun_short start new k (by omega)]
  by_cases first : k = 0
  · subst first
    simp [debounce, new, start]
  · simp [debounce, new, first]

theorem Takes.scan (h : Takes n high s sc edge) :
    ∃ t, exec (.lineTick n high) s = .next t ∧ (t.line n).scan = some sc := by
  have scanned : ((s.atTick n ((s.line n).taken high sc)).line n).scan = some sc := by
    rw [State.atTick_line_same]; rfl
  have supervised := superviseTick_tickWork n edge (s.atTick n ((s.line n).taken high sc))
  generalize verdict : superviseTick n edge (s.atTick n ((s.line n).taken high sc)) = w at supervised
  have tested := timerTests_tickWork n w.state
  have ticked := h.tick verdict
  generalize (timerTests n w.state).state = u at tested ticked
  exact ⟨_, ticked, by rw [settle_line]; exact tested.scan.trans (supervised.scan.trans scanned)⟩

/-- Settles O8, by the rows of R8 on the scan unit, and by what a line tick leaves of them. -/
theorem debounceAcceptsAtTheDthSample : Obligations.DebounceAcceptsAtTheDthSample := by
  unfold Obligations.DebounceAcceptsAtTheDthSample
  refine ⟨fun d c t sc least start new => ⟨fun k short => ?_, debounceRun_accepts least start new⟩,
    fun d t sc => by simp [debounce], fun n high sc s => ⟨fun tick => tick.takes.scan, fun a =>
      ⟨fun tick => tick.takes.scan, fun tick => ?_⟩⟩⟩
  · rw [debounceRun_short start new k short]
    dsimp only
    split <;> exact ⟨rfl, rfl, rfl⟩
  · intro short
    have takes := tick.takes
    obtain ⟨due, scan, -⟩ := tick
    obtain ⟨t, ticked, taken⟩ := takes.scan
    refine ⟨t, ticked, taken, fun mute only learn => ?_⟩
    have rest := only.rest (high := high) (sc' := short)
      (learnTest_ticked learn (by rw [State.atTick_line_same]; rfl))
    obtain ⟨still, idle⟩ := takes.still mute scan rfl (only.supervises rfl rfl) rest
    obtain rfl : t = s.atTick n ((s.line n).taken high short) :=
      Host.Outcome.next.inj (ticked.symm.trans still)
    refine ⟨fun row listed => ?_, s.atTick_line_same n _, fun m other => s.atTick_line_other _ other, rfl⟩
    obtain ⟨e, rfl⟩ := mem_rows listed
    exact idle e

end Sys2Proof.Machine
end

section
/-! A line tick that moves one line and reports: seizure, the lockout return and their edges. Settles O9, O10, O12. -/

namespace Sys2Proof.Machine

variable {s t u v : State} {n m : LineNo} {high : Bool} {sc sc' : Scan} {l l' : Line} {edge : Option Edge}
  {a : AdoptedSet} {e : TickEvent} {w : Ticked} {addr : Nat}

/-! ### One line moved -/

theorem State.atTick_modLine (s : State) (n : LineNo) (l : Line) (f : Line → Line) :
    (s.atTick n l).modLine n f = s.atTick n (f l) := by
  rw [State.modLine, State.atTick_line_same]
  unfold State.atTick State.setLine
  dsimp only
  rw [Vector.set_set]

theorem Reports.modLine (h : Reports s t) (n : LineNo) (f : Line → Line) :
    Reports (s.modLine n f) (t.modLine n f) := by
  unfold Reports at *
  rw [h]
  rfl

theorem Reports.setInForce (h : Reports s t) (n : LineNo) : t.setInForce n = s.setInForce n := by
  obtain ⟨-, -, -, -, -, profiles, -⟩ := h.keeps
  exact State.setInForce_congr (by rw [h.line]) profiles

theorem Reports.clock (h : Reports s t) : t.clock = s.clock := by
  obtain ⟨-, -, timeBase, -⟩ := h.keeps
  rw [State.clock, State.clock, timeBase]

theorem Reports.request (h : Reports s t) (n : LineNo) : t.request n = s.request n := by
  obtain ⟨-, -, -, -, -, -, -, waitList, -⟩ := h.keeps
  rw [State.request, State.request, waitList]

theorem Reports.boundSender (h : Reports s t) (n : LineNo) : t.boundSender n = s.boundSender n := by
  obtain ⟨-, -, -, -, -, -, senders, -⟩ := h.keeps
  exact State.boundSender_congr (fun k => by rw [State.sender_congr senders]) n

/-- What the end of a line tick makes of one line moved and of reports. -/
structure Settled (n : LineNo) (s : State) (l : Line) (u t : State) : Prop where
  line : t.line n = { l with mute := (s.atTick n l).muteOn n }
  other : ∀ m : LineNo, m ≠ n → t.line m = s.line m
  peek : ∀ x, x < imageAddress n ∨ imageAddress n + 12 ≤ x → t.peek x = u.peek x
  form : t = { s with
    scanBus := s.noteSample n, lines := t.lines, waitList := s.requestsTicked n, store := t.store
    capture := u.capture, causes := u.causes }

theorem Reports.settled (mute : MuteSound s) (reports : Reports (s.atTick n l) u) :
    Settled n s l u (settle s u) := by
  have beside := (s.atTick_beside n l).trans reports.beside
  have same : u.line n = l := by rw [reports.line, State.atTick_line_same]
  have hush : u.muteOn n = (s.atTick n l).muteOn n :=
    State.muteOn_congr (by rw [reports.line]; exact ⟨rfl, rfl, rfl⟩) (reports.boundSender n)
  obtain ⟨lines, store, form⟩ := settle_form s u
  refine ⟨by rw [settle_line, same, hush], fun m other => beside.settle_line_other mute other,
    fun x outside => beside.settle_peek mute outside, ?_⟩
  rw [form]
  unfold Reports at reports
  rw [reports]
  rfl

theorem pageAddress_outside_image (n : LineNo) {x : Nat} (h : 0xA00 ≤ x) : imageAddress n + 12 ≤ x := by
  have := n.isLt
  unfold imageAddress
  omega

/-- With no request of the line and nothing reported, the store changes in the image of the line alone. -/
theorem Settled.alone (h : Settled n s l u t) (reports : u = s.atTick n l) (noRequest : s.request n = none) :
    StoreFrame s t [(imageAddress n, 12)] ∧
      t = { s with scanBus := s.noteSample n, lines := t.lines, store := t.store } := by
  have form := h.form
  rw [State.requestsTicked_of_none noRequest, reports] at form
  refine ⟨fun x outside => ?_, form⟩
  rw [h.peek x (outside _ List.mem_cons_self), reports]
  rfl

/-! ### What the timers find -/

theorem Line.learnTicked_of_none (h : l.learnPending = none) : l.learnTicked = l := by
  unfold Line.learnPending at h
  have same : (l.estimator.map fun e : Estimator =>
      { e with
        learn := e.learn.map fun x => { x with timer := { x.timer with count := x.timer.count + 1 } } }) =
      l.estimator := by
    cases estimator : l.estimator with
    | none => rfl
    | some e =>
      have none : e.learn = none := by rw [estimator] at h; exact h
      rw [Option.map_some, none, Option.map_none, ← none]
  unfold Line.learnTicked
  rw [same]

theorem Line.ticked_of_rest (empty : l.queue = .empty) (stopped : l.firstDigit = none) : l.ticked = l := by
  unfold Line.ticked
  rw [stopped, empty]
  cases l
  cases empty
  cases stopped
  rfl

theorem Resting.taken (h : Resting n s) (high : Bool) (sc : Scan) :
    (s.line n).taken high sc = { (s.line n).learnTicked with raw := high, scan := some sc } := by
  obtain ⟨empty, stopped, -⟩ := h
  unfold Line.taken
  rw [Line.ticked_of_rest empty stopped]

theorem NoLearn.waits (h : NoLearn n s) : LearnWaits n s := by
  intro x hx
  rw [h] at hx
  cases hx

/-- The timers of a line that is not ACTIVE and has no request, with no LEARN that ends. -/
theorem TimersRest.of_inactive (inactive : (u.line n).mode ≠ .active) (noRequest : u.request n = none)
    (learn : learnTest n u = quietly u) : TimersRest n u :=
  ⟨firstDigitTest_of_inactive inactive, learn, gatherTest_of_inactive inactive,
    executionTest_of_inactive inactive, waitTest_of_no_request noRequest⟩

/-- The timers of a line whose call has just begun. -/
theorem TimersRest.of_begun (timer : (u.line n).firstDigit = firstDigitTimer a)
    (empty : (u.line n).queue = .empty) (noLearn : NoLearn n u) (noRequest : u.request n = none) :
    TimersRest n u := by
  refine ⟨firstDigitTest_of_running fun tm htm => ?_, learnTest_of_running fun x hx => ?_,
    gatherTest_of_running (by rw [empty]; simp [QueueUnit.empty]),
    executionTest_of_none (by rw [empty]; rfl), waitTest_of_no_request noRequest⟩
  · rw [timer] at htm
    unfold firstDigitTimer at htm
    split at htm
    · cases htm
    · next running =>
      cases htm
      dsimp only
      omega
  · rw [noLearn] at hx
    cases hx

/-- A line tick that moves its line aside from a call. -/
theorem Takes.moves (h : Takes n high s sc edge) (mute : MuteSound s) (resting : Resting n s) (learn : LearnWaits n s)
    (supervised : superviseTick n edge (s.atTick n ((s.line n).taken high sc)) = w)
    (moved : w.state = s.atTick n l) (inactive : l.mode ≠ .active) (hush : l.mute = false)
    (pending : l.learnPending = (s.line n).learnTicked.learnPending) :
    ∃ t, exec (.lineTick n high) s = .next t ∧ (∀ e ∈ w.events, exec (e.row n high) s = .next t) ∧
      t.line n = l ∧ (∀ m : LineNo, m ≠ n → t.line m = s.line m) ∧
      StoreFrame s t [(imageAddress n, 12)] ∧
      t = { s with scanBus := s.noteSample n, lines := t.lines, store := t.store } := by
  obtain ⟨-, -, -, noRequest⟩ := resting
  have rest : TimersRest n (s.atTick n l) :=
    .of_inactive (by rw [State.atTick_line_same]; exact inactive)
      (by rw [State.atTick_request, noRequest]; rfl)
      (learnTest_ticked learn (by rw [State.atTick_line_same]; exact pending))
  have settled := Reports.settled mute (Reports.refl (s.atTick n l))
  have same := settled.line
  rw [State.muteOn_of_inactive (by rw [State.atTick_line_same]; exact inactive), ← hush] at same
  obtain ⟨frame, form⟩ := settled.alone rfl noRequest
  have ends : (timerTests n w.state).state = s.atTick n l := by rw [moved, rest.tests]; rfl
  have ticked := h.tick supervised
  have row (e : TickEvent) (held : e ∈ w.events) := h.row supervised (.inl held)
  rw [ends] at ticked row
  exact ⟨_, ticked, row, same, settled.other, frame, form⟩

end Sys2Proof.Machine
end

section
/-! Lockout and seizure at a line tick. Settles O9, O10, O12. -/

namespace Sys2Proof.Machine

variable {s t u v : State} {n m : LineNo} {high : Bool} {sc sc' : Scan} {l l' : Line} {edge : Option Edge}
  {a : AdoptedSet} {e : TickEvent} {w : Ticked} {addr : Nat} {z : Seizure} {stamp : Tick}

/-! ### The supervisor, by the state of the line -/

theorem superviseTick_idle_closed (mode : (s.line n).mode = .idle) :
    superviseTick n (some { level := .closed, stamp := stamp }) s = quietly (startSeizing n stamp s) := by
  unfold superviseTick
  rw [mode]

theorem superviseTick_seizing (mode : (s.line n).mode = .seizing) (edge : Option Edge) :
    superviseTick n edge s = seizingTick n edge s := by
  unfold superviseTick
  rw [mode]

theorem superviseTick_active (mode : (s.line n).mode = .active) (edge : Option Edge) :
    superviseTick n edge s = decodeTick n edge s := by
  unfold superviseTick
  rw [mode]

theorem superviseTick_lockout (mode : (s.line n).mode = .lockout) (edge : Option Edge) :
    superviseTick n edge s = lockoutTick n s := by
  unfold superviseTick
  rw [mode]

theorem taken_setInForce (n : LineNo) (high : Bool) (sc : Scan) (s : State) :
    (s.atTick n ((s.line n).taken high sc)).setInForce n = s.setInForce n :=
  s.atTick_setInForce n rfl

theorem MuteSound.off_of_inactive (mute : MuteSound s) (inactive : (s.line n).mode ≠ .active) :
    (s.line n).mute = false := by
  rw [mute n, State.muteOn_of_inactive inactive]

/-! ### Lockout -/

theorem lockoutTick_returns (scan : (s.line n).scan = some sc) (set : s.setInForce n = some a)
    (opened : sc.level = .opened) (long : a.flashMax ≤ since s.clock sc.edgeStamp) :
    lockoutTick n s = noting .lockoutReturn (s.modLine n fun l => { l with mode := .idle }) := by
  unfold lockoutTick
  rw [scan, set]
  exact if_pos ⟨opened, long⟩

/-- A line tick in LOCKOUT whose loop has been open for flash_max. -/
theorem Takes.returns (h : Takes n high s sc edge) (mute : MuteSound s) (lockout : (s.line n).mode = .lockout)
    (resting : Resting n s) (learn : LearnWaits n s) (set : s.setInForce n = some a)
    (opened : sc.level = .opened) (long : a.flashMax ≤ since s.clock sc.edgeStamp) :
    ∃ t, exec (.lockoutReturn n high) s = .next t ∧
      t.line n =
        { (s.line n).learnTicked with raw := high, scan := some sc, mode := .idle } ∧
      (∀ m : LineNo, m ≠ n → t.line m = s.line m) ∧
      StoreFrame s t [(imageAddress n, 12)] ∧
      t = { s with scanBus := s.noteSample n, lines := t.lines, store := t.store } := by
  have line := s.atTick_line_same n ((s.line n).taken high sc)
  have mode : ((s.atTick n ((s.line n).taken high sc)).line n).mode = .lockout := by
    rw [line]; exact lockout
  have supervised := (superviseTick_lockout mode edge).trans
    (lockoutTick_returns (sc := sc) (by rw [line]; rfl) ((taken_setInForce n high sc s).trans set) opened
      (by rw [State.atTick_clock]; exact long))
  obtain ⟨t, -, row, same, rest⟩ := h.moves mute resting learn supervised
    (l := { (s.line n).taken high sc with mode := .idle })
    (by dsimp only [noting]; rw [State.atTick_modLine]) nofun
    (mute.off_of_inactive (by rw [lockout]; decide)) rfl
  rw [resting.taken] at same
  exact ⟨t, row .lockoutReturn List.mem_cons_self, same, rest⟩

/-- A line tick in LOCKOUT that keeps the line there. -/
theorem Takes.stays (h : Takes n high s sc' edge) (mute : MuteSound s) (scan : (s.line n).scan = some sc)
    (polarity : sc'.polarity = sc.polarity) (lockout : (s.line n).mode = .lockout)
    (resting : Resting n s) (learn : LearnWaits n s) (set : s.setInForce n = some a)
    (short : sc'.level = .opened → since s.clock sc'.edgeStamp < a.flashMax) :
    exec (.lockoutReturn n high) s = .next s ∧
      ∃ t, exec (.lineTick n high) s = .next t ∧
        t.line n = { (s.line n).learnTicked with raw := high, scan := some sc' } ∧
        (∀ m : LineNo, m ≠ n → t.line m = s.line m) ∧
        t = { s with scanBus := s.noteSample n, lines := t.lines } := by
  have line := s.atTick_line_same n ((s.line n).taken high sc')
  have mode : ((s.atTick n ((s.line n).taken high sc')).line n).mode = .lockout := by
    rw [line]; exact lockout
  have supervised := (superviseTick_lockout mode edge).trans
    (lockoutTick_of_short (sc := sc') (by rw [line]; rfl) fun opened b hb => by
      rw [taken_setInForce, set] at hb
      cases hb
      exact short opened)
  have taken := resting.taken high sc'
  obtain ⟨-, -, -, noRequest⟩ := resting
  have rest : TimersRest n (s.atTick n ((s.line n).taken high sc')) :=
    .of_inactive (by rw [mode]; decide) (by rw [State.atTick_request, noRequest]; rfl)
      (learnTest_ticked learn (by rw [line]; rfl))
  obtain ⟨still, idle⟩ := h.still mute scan polarity supervised rest
  refine ⟨idle .lockoutReturn, _, still, ?_, fun m other => s.atTick_line_other _ other, ?_⟩
  · rw [line, taken]
  · rw [State.atTick, State.requestsTicked_of_none noRequest]

/-- Settles O12, by the supervisor's test of the open interval behind the sample. -/
theorem lockoutReturnsToIdle : Obligations.LockoutReturnsToIdle := by
  unfold Obligations.LockoutReturnsToIdle
  refine ⟨fun n high sc a s mute tick opened lockout set long resting noLearn => ?_,
    fun n high sc a s mute lockout resting learn => ?_⟩
  · obtain ⟨t, ticked, line, rest⟩ :=
      tick.takes.returns mute lockout resting noLearn.waits set opened long
    rw [Line.learnTicked_of_none noLearn] at line
    exact ⟨t, ticked, line, rest⟩
  · intro stays
    refine ⟨fun tick set short => ?_, fun tick => ⟨fun closed => ?_, fun opened short => ?_, fun opened long => ?_⟩⟩
    · refine tick.takes.stays mute tick.2.1 rfl lockout resting learn set fun opened => ?_
      exact short.resolve_left (by rw [show sc.level = .opened from opened]; decide)
    · have takes := tick.takes
      rw [closed] at takes
      obtain ⟨-, scan, set, -⟩ := tick
      exact takes.stays mute scan rfl lockout resting learn set nofun
    · have takes := tick.takes
      rw [opened] at takes
      obtain ⟨-, scan, set, -⟩ := tick
      exact takes.stays mute scan rfl lockout resting learn set fun _ => short
    · have takes := tick.takes
      rw [opened] at takes
      obtain ⟨-, scan, set, -⟩ := tick
      exact takes.returns mute lockout resting learn set rfl long

/-! ### Seizure -/

theorem startSeizing_of_set (set : s.setInForce n = some a) :
    startSeizing n stamp s = s.modLine n fun l =>
      { l with mode := .seizing, seizure := some { start := stamp, seizeTime := a.seizeTime } } := by
  unfold startSeizing
  rw [set]
  rfl

theorem completeSeizure_of_set (set : s.setInForce n = some a) :
    completeSeizure n s =
      capture .seize n (seizeBody a.cls a.generation) (s.modLine n fun l => l.seized a) := by
  unfold completeSeizure
  rw [set]

theorem seizingTick_abandons (seizure : (s.line n).seizure = some z) (early : since stamp z.start < z.seizeTime) :
    seizingTick n (some { level := .opened, stamp := stamp }) s = quietly (abandonSeizure n s) := by
  unfold seizingTick
  rw [seizure]
  exact if_pos early

theorem seizingTick_completes (seizure : (s.line n).seizure = some z)
    (passed : z.seizeTime ≤ since s.clock z.start) :
    seizingTick n none s = noting .seizureComplete (completeSeizure n s) := by
  unfold seizingTick
  rw [seizure]
  exact if_pos passed

theorem seizingTick_completes_late (seizure : (s.line n).seizure = some z)
    (passed : z.seizeTime ≤ since stamp z.start) :
    seizingTick n (some { level := .opened, stamp := stamp }) s =
      (noting .seizureComplete (completeSeizure n s)).andThen
        (decodeTick n (some { level := .opened, stamp := stamp })) := by
  unfold seizingTick
  rw [seizure]
  exact if_neg (Nat.not_lt.mpr passed)

theorem seizeWords (n : LineNo) (time : Tick) (cls : SenderClass) {generation : Nat} (small : generation ≤ 255) :
    recordWords .seize n.val time (seizeBody cls generation) =
      [asWord (0x1300 + n.val), time, asWord ((if cls = .b then 256 else 0) + generation)] := by
  have low : generation % 256 = generation := Nat.mod_eq_of_lt (by omega)
  rw [recordWords_eq]
  cases cls <;> simp [seizeBody, recordValue, classBit, low]

/-- A line tick that moves its line and reports. -/
theorem Takes.reports (h : Takes n high s sc edge) (mute : MuteSound s)
    (supervised : superviseTick n edge (s.atTick n ((s.line n).taken high sc)) = w)
    (reports : Reports (s.atTick n l) w.state) (rest : TimersRest n w.state) :
    ∃ t, exec (.lineTick n high) s = .next t ∧ (∀ e ∈ w.events, exec (e.row n high) s = .next t) ∧
      Settled n s l w.state t := by
  have ends : (timerTests n w.state).state = w.state := by rw [rest.tests]; rfl
  have ticked := h.tick supervised
  have row (e : TickEvent) (held : e ∈ w.events) := h.row supervised (.inl held)
  rw [ends] at ticked row
  exact ⟨_, ticked, row, reports.settled mute⟩

/-- The one record of a line tick stands in the filling page. -/
theorem Settled.recorded {kind : RecordKind} {body : List Word} (h : Settled n s l u t) (sound : StoreSound s)
    (goes : RecordGoesTo s (body.length + 2) addr) (store : v.store = s.store) (capture : v.capture = s.capture)
    (clock : v.clock = s.clock) (written : ∀ x, u.peek x = (Machine.capture kind n body v).peek x) :
    t.words addr (body.length + 2) = recordWords kind n.val s.clock body ∧
      StoreFrame s t [(addr, body.length + 2), (imageAddress n, 12)] := by
  have goes' : RecordGoesTo v (body.length + 2) addr := by
    unfold RecordGoesTo
    rw [capture]
    exact goes
  have sound' : StoreSound v := by rw [StoreSound, store]; exact sound
  have frame := capture_frame kind n body goes'
  obtain ⟨high, -⟩ := recordAddress_bounds goes
  have outside := pageAddress_outside_image n high
  refine ⟨?_, fun x apart => ?_⟩
  · rw [← clock, ← capture_words kind n body sound' goes']
    exact State.words_congr fun i _ => (h.peek _ (.inr (by omega))).trans (written _)
  · rw [h.peek x (apart (imageAddress n, 12) (by simp)), written,
      frame x (by simpa using apart (addr, body.length + 2) (by simp)), State.peek_congr store]

theorem State.muteOn_of_active (active : (s.line n).mode = .active) :
    s.muteOn n = (decide ((s.line n).decoder.sub ≠ .quiet) || (s.boundSender n).isSome ||
      recallRunning (s.line n).queue.execution) := by
  unfold State.muteOn
  rw [active]

theorem Line.taken_estimator (h : l.learnPending = none) (high : Bool) (sc : Scan) :
    (l.taken high sc).estimator = l.estimator :=
  (congrArg Line.estimator (Line.learnTicked_of_none h) : l.learnTicked.estimator = l.estimator)

/-- The line as a call begins on it. -/
theorem Line.taken_seized (h : l.learnPending = none) (a : AdoptedSet) (high : Bool) (sc : Scan) :
    (l.taken high sc).seized a =
      { l.callBegun a with raw := high, scan := some sc, mute := l.mute, decoder := .atRest } := by
  have estimator := Line.taken_estimator h high sc
  unfold Line.seized
  rw [estimator]
  rfl

theorem Settled.form_of_record (h : Settled n s l u t) (causes : u.causes = s.causes)
    (noRequest : s.request n = none) :
    t = { s with
      scanBus := s.noteSample n, lines := t.lines, store := t.store, capture := t.capture } := by
  have form := h.form
  rw [State.requestsTicked_of_none noRequest, causes] at form
  have capture := congrArg State.capture form
  dsimp only at capture
  rw [← capture] at form
  exact form

/-- Settles O10, by the completed seizure, which reports a record and moves its line alone. -/
theorem seizureCompletes : Obligations.SeizureCompletes := by
  unfold Obligations.SeizureCompletes
  intro n high sc a z s addr sound mute tick seizing seizure set small passed unserved noLearn goes
  obtain ⟨noSender, noRequest⟩ := unserved
  have off := mute.off_of_inactive (by rw [seizing]; decide : (s.line n).mode ≠ .active)
  have takes := tick.takes
  generalize scan : ({ sc with run := 0, candidate := none } : Scan) = sc' at takes ⊢
  have line := s.atTick_line_same n ((s.line n).taken high sc')
  have completed : superviseTick n none (s.atTick n ((s.line n).taken high sc')) =
      noting .seizureComplete
        (capture .seize n (seizeBody a.cls a.generation)
          (s.atTick n (((s.line n).taken high sc').seized a))) := by
    have verdict := seizingTick_completes (s := s.atTick n ((s.line n).taken high sc')) (n := n) (z := z)
      (by rw [line]; exact seizure) passed
    rw [superviseTick_seizing (by rw [line]; exact seizing), verdict,
      completeSeizure_of_set ((taken_setInForce n high sc' s).trans set), State.atTick_modLine]
  rw [Line.taken_seized noLearn] at completed
  generalize begun : ({ (s.line n).callBegun a with
    raw := high, scan := some sc', mute := (s.line n).mute, decoder := .atRest } : Line) = l at completed
  have line' := s.atTick_line_same n l
  have reports := capture_reports .seize n (seizeBody a.cls a.generation) (s.atTick n l)
  have rest : TimersRest n (capture .seize n (seizeBody a.cls a.generation) (s.atTick n l)) :=
    .of_begun (a := a) (by rw [reports.line, line', ← begun]; rfl) (by rw [reports.line, line', ← begun]; rfl)
      (by rw [NoLearn, reports.line, line', ← begun]; exact noLearn)
      (by rw [reports.request, State.atTick_request, noRequest]; rfl)
  have muted : (s.atTick n l).muteOn n = false := by
    rw [State.muteOn_of_active (by rw [line', ← begun]; rfl), line', State.atTick_boundSender, noSender, ← begun]
    rfl
  obtain ⟨t, -, row, settled⟩ := takes.reports mute completed reports rest
  obtain ⟨words, frame⟩ := settled.recorded (v := s.atTick n l) (kind := .seize)
    (body := seizeBody a.cls a.generation) sound goes rfl rfl rfl fun _ => rfl
  have form := settled.form_of_record
    (by dsimp only [noting]; rw [capture_goes (addr := addr) .seize n _ goes]; rfl) noRequest
  refine ⟨t, row .seizureComplete List.mem_cons_self, ?_, words.trans (seizeWords n s.clock a.cls small),
    settled.other, frame, form⟩
  rw [settled.line, muted, ← begun]
  rfl

/-! ### The edges of IDLE and SEIZING -/

theorem startTrain_of_set {e : Estimator} (set : s.setInForce n = some a)
    (estimator : (s.line n).estimator = some e) :
    startTrain n stamp s = s.modLine n fun l =>
      { l with estimator := some (e.trainStart a), decoder := startedTrain a e stamp } := by
  unfold startTrain
  rw [set, estimator]
  dsimp only
  unfold State.modDecoder State.modEstimator
  rw [State.modLine_modLine]
  have same : (s.line n).estimator.map (fun _ => e.trainStart a) = some (e.trainStart a) := by rw [estimator]; rfl
  unfold State.modLine
  simp only [same]
  rfl

theorem decodeTick_quiet_opened (quiet : (s.line n).decoder.sub = .quiet) :
    decodeTick n (some { level := .opened, stamp := stamp }) s = breakTest n (startTrain n stamp s) := by
  simp only [decodeTick, quiet]

theorem decodeTick_break_closed (inBreak : (s.line n).decoder.sub = .inBreak) :
    decodeTick n (some { level := .closed, stamp := stamp }) s = breakEnds n stamp s := by
  simp only [decodeTick, inBreak]

theorem decodeTick_break (inBreak : (s.line n).decoder.sub = .inBreak) :
    decodeTick n none s = breakTest n s := by
  simp only [decodeTick, inBreak]

theorem decodeTick_make (inMake : (s.line n).decoder.sub = .inMake) :
    decodeTick n none s = makeTest n s := by
  simp only [decodeTick, inMake]

theorem decodeTick_make_opened (inMake : (s.line n).decoder.sub = .inMake) :
    decodeTick n (some { level := .opened, stamp := stamp }) s =
      if (s.line n).decoder.pulsePending then
        if (s.line n).decoder.sinceMake stamp < (s.line n).decoder.limit (·.makeMin) then
          breakTest n (absorbMake n s)
        else (noting .pulseCounted (countPulse n s)).andThen (openInMake n stamp)
      else openInMake n stamp s := by
  simp only [decodeTick, inMake]

/-- An OPEN edge in QUIET whose break is short of flash_max. -/
theorem decodeTick_starts {e : Estimator} (quiet : (s.line n).decoder.sub = .quiet)
    (set : s.setInForce n = some a) (estimator : (s.line n).estimator = some e)
    (short : since s.clock stamp < a.flashMax) :
    decodeTick n (some { level := .opened, stamp := stamp }) s =
      quietly (s.modLine n fun l =>
        { l with estimator := some (e.trainStart a), decoder := startedTrain a e stamp }) := by
  rw [decodeTick_quiet_opened quiet, startTrain_of_set set estimator]
  refine breakTest_of_short fun _ => ?_
  rw [State.modLine_line_same]
  exact short

theorem Line.taken_ended (resting : Resting n s) (noLearn : NoLearn n s) (high : Bool) (sc : Scan) :
    (s.line n).taken high sc = { s.line n with raw := high, scan := some sc } := by
  rw [resting.taken, Line.learnTicked_of_none noLearn]

theorem Estimator.trainStart_learn (e : Estimator) (a : AdoptedSet) : (e.trainStart a).learn = e.learn := by
  unfold Estimator.trainStart
  split <;> rfl

/-- A seizure completed by the late OPEN edge that then starts a train. -/
theorem lateSeizure (n : LineNo) (high : Bool) (sc : Scan) (a : AdoptedSet) (z : Seizure) (s : State)
    (mute : MuteSound s) (seizing : (s.line n).mode = .seizing) (seizure : (s.line n).seizure = some z)
    (resting : Resting n s) (noLearn : NoLearn n s) (e : Estimator) (addr : Nat) (sound : StoreSound s)
    (tick : EdgeTick n high sc a s) (opened : corrected sc.polarity high = .opened)
    (passed : z.seizeTime ≤ since (edgeStampOf sc s) z.start)
    (short : since s.clock (edgeStampOf sc s) < a.flashMax) (estimator : (s.line n).estimator = some e)
    (small : a.generation ≤ 255) (goes : RecordGoesTo s 3 addr) :
    ∃ t, exec (.seizureComplete n high) s = .next t ∧
      t.line n =
        { (s.line n).callBegun a with
          raw := high
          scan := some (sc.turned .opened (edgeStampOf sc s))
          mute := true
          decoder := startedTrain a e (edgeStampOf sc s)
          estimator := some (e.trainStart a) } ∧
      t.words addr 3 =
        [asWord (0x1300 + n.val), s.clock,
          asWord ((if a.cls = .b then 256 else 0) + a.generation)] ∧
      StoreFrame s t [(addr, 3), (imageAddress n, 12)] ∧
      t = { s with
        scanBus := s.noteSample n, lines := t.lines, store := t.store, capture := t.capture } := by
  obtain ⟨-, -, noSender, noRequest⟩ := resting
  have takes := tick.takes
  obtain ⟨-, -, set, -⟩ := tick
  rw [opened] at takes
  generalize sc.turned .opened (edgeStampOf sc s) = sc' at takes ⊢
  generalize edgeStampOf sc s = stamp at *
  have line := s.atTick_line_same n ((s.line n).taken high sc')
  have late := seizingTick_completes_late (s := s.atTick n ((s.line n).taken high sc')) (n := n)
    (by rw [line]; exact seizure) passed
  have supervised := (superviseTick_seizing (by rw [line]; exact seizing) _).trans late
  rw [completeSeizure_of_set ((taken_setInForce n high sc' s).trans set), State.atTick_modLine,
    Line.taken_seized noLearn] at supervised
  generalize begun : ({ (s.line n).callBegun a with
    raw := high, scan := some sc', mute := (s.line n).mute, decoder := .atRest } : Line) = l at supervised
  have line' := s.atTick_line_same n l
  have reports := capture_reports .seize n (seizeBody a.cls a.generation) (s.atTick n l)
  have starts := decodeTick_starts (n := n) (stamp := stamp) (e := e) (a := a)
    (s := capture .seize n (seizeBody a.cls a.generation) (s.atTick n l))
    (by rw [reports.line, line', ← begun]; rfl)
    (by rw [reports.setInForce, s.atTick_setInForce n (by rw [← begun]; rfl)]; exact set)
    (by rw [reports.line, line', ← begun]; exact estimator)
    (by rw [reports.clock]; exact short)
  have combined : superviseTick n (some { level := .opened, stamp := stamp })
      (s.atTick n ((s.line n).taken high sc')) =
      { state := (capture .seize n (seizeBody a.cls a.generation) (s.atTick n l)).modLine n fun l =>
          { l with estimator := some (e.trainStart a), decoder := startedTrain a e stamp }
        events := [.seizureComplete] } := by
    rw [supervised]
    unfold Ticked.andThen noting
    dsimp only
    rw [starts]
    rfl
  have written (x : Nat) (f : Line → Line) : ((capture .seize n (seizeBody a.cls a.generation)
      (s.atTick n l)).modLine n f).peek x =
      (capture .seize n (seizeBody a.cls a.generation) (s.atTick n l)).peek x := rfl
  have causes : (capture .seize n (seizeBody a.cls a.generation) (s.atTick n l)).causes = s.causes := by
    rw [capture_goes (addr := addr) .seize n _ goes]; rfl
  have moved := reports.modLine n fun l =>
    { l with estimator := some (e.trainStart a), decoder := startedTrain a e stamp }
  rw [State.atTick_modLine] at moved
  have noLearn' : e.learn = none := by
    have pending := noLearn
    rw [NoLearn, Line.learnPending, estimator] at pending
    exact pending
  have after : ((capture .seize n (seizeBody a.cls a.generation) (s.atTick n l)).modLine n fun l =>
      { l with estimator := some (e.trainStart a), decoder := startedTrain a e stamp }).line n =
      { l with estimator := some (e.trainStart a), decoder := startedTrain a e stamp } := by
    rw [moved.line, State.atTick_line_same]
  have rest : TimersRest n ((capture .seize n (seizeBody a.cls a.generation) (s.atTick n l)).modLine n fun l =>
      { l with estimator := some (e.trainStart a), decoder := startedTrain a e stamp }) :=
    .of_begun (a := a) (by rw [after, ← begun]; rfl) (by rw [after, ← begun]; rfl)
      (by rw [NoLearn, after, Line.learnPending]; exact (Estimator.trainStart_learn e a).trans noLearn')
      (by rw [moved.request, State.atTick_request, noRequest]; rfl)
  obtain ⟨t, -, row, settled⟩ := takes.reports mute combined moved rest
  have muted : (s.atTick n { l with
      estimator := some (e.trainStart a), decoder := startedTrain a e stamp }).muteOn n = true := by
    rw [State.muteOn_of_active (by rw [State.atTick_line_same, ← begun]; rfl), State.atTick_line_same]
    rfl
  obtain ⟨words, frame⟩ := settled.recorded (v := s.atTick n l) (kind := .seize)
    (body := seizeBody a.cls a.generation) sound goes rfl rfl rfl fun x => written x _
  refine ⟨t, row .seizureComplete List.mem_cons_self, ?_, words.trans (seizeWords n s.clock a.cls small),
    frame, settled.form_of_record causes noRequest⟩
  rw [settled.line, muted, ← begun]

/-- Settles O9, by the supervisor's rows for an edge in IDLE and in SEIZING. -/
theorem idleAndSeizingTakeTheirEdges : Obligations.IdleAndSeizingTakeTheirEdges := by
  unfold Obligations.IdleAndSeizingTakeTheirEdges
  refine ⟨fun n high sc a s mute tick closed idle resting noLearn => ?_,
    fun n high sc a z s mute seizing seizure resting noLearn => ⟨fun tick opened early => ?_,
      fun tick early => ?_, fun e addr sound tick opened passed short estimator small goes => ?_⟩⟩
  · have off := mute.off_of_inactive (by rw [idle]; decide : (s.line n).mode ≠ .active)
    have takes := tick.takes
    obtain ⟨-, -, set, -⟩ := tick
    rw [closed] at takes
    have line := s.atTick_line_same n ((s.line n).taken high (sc.turned .closed (edgeStampOf sc s)))
    have supervised := superviseTick_idle_closed (stamp := edgeStampOf sc s)
      (s := s.atTick n ((s.line n).taken high (sc.turned .closed (edgeStampOf sc s)))) (n := n)
      (by rw [line]; exact idle)
    rw [startSeizing_of_set ((taken_setInForce n high _ s).trans set), State.atTick_modLine] at supervised
    obtain ⟨t, ticked, -, same, rest⟩ :=
      takes.moves mute resting noLearn.waits supervised rfl nofun off rfl
    rw [Line.taken_ended resting noLearn] at same
    exact ⟨t, ticked, same, rest⟩
  · have off := mute.off_of_inactive (by rw [seizing]; decide : (s.line n).mode ≠ .active)
    have takes := tick.takes
    rw [opened] at takes
    generalize turned : sc.turned .opened (edgeStampOf sc s) = sc' at takes
    have line := s.atTick_line_same n ((s.line n).taken high sc')
    have abandons := seizingTick_abandons (s := s.atTick n ((s.line n).taken high sc')) (n := n)
      (by rw [line]; exact seizure) early
    have supervised := (superviseTick_seizing (by rw [line]; exact seizing) _).trans abandons
    obtain ⟨t, ticked, -, same, -, -, form⟩ :=
      takes.moves (l := { (s.line n).taken high sc' with mode := .idle, seizure := none }) mute resting
        noLearn.waits supervised (by dsimp only [quietly]; rw [abandonSeizure, State.atTick_modLine])
        nofun off rfl
    rw [Line.taken_ended resting noLearn, ← turned] at same
    exact ⟨t, ticked, same, form⟩
  · have off := mute.off_of_inactive (by rw [seizing]; decide : (s.line n).mode ≠ .active)
    have takes := tick.takes
    have line := s.atTick_line_same n ((s.line n).taken high { sc with run := 0, candidate := none })
    have waits := seizingTick_of_short (n := n)
      (s := s.atTick n ((s.line n).taken high { sc with run := 0, candidate := none })) (by
        intro z' hz
        rw [line] at hz
        obtain rfl : z' = z := Option.some.inj (hz.symm.trans seizure)
        exact early)
    have supervised := (superviseTick_seizing (by rw [line]; exact seizing) none).trans waits
    obtain ⟨t, ticked, -, same, -, -, form⟩ :=
      takes.moves mute resting noLearn.waits supervised rfl
        (by rw [show ((s.line n).taken high { sc with run := 0, candidate := none }).mode = (s.line n).mode from rfl,
          seizing]; decide) off rfl
    rw [Line.taken_ended resting noLearn] at same
    exact ⟨t, ticked, same, form⟩
  · exact lateSeizure n high sc a z s mute seizing seizure resting noLearn e addr sound tick opened passed short
      estimator small goes

end Sys2Proof.Machine
end

section
/-! The timers of a line tick behind a head examination, and what their tests leave of the line. -/

namespace Sys2Proof.Machine

variable {s t u v : State} {n m : LineNo} {c : CallContext} {k : SenderNo} {l l' : Line}

/-! ### Timers that sending leaves alone -/

/-- The timers of a queue unit stand, and so does the slot of its RELEASE or INJECT. -/
structure QueueUnit.SameTimers (q q' : QueueUnit) : Prop where
  execution : q'.execution = q.execution
  gatherTimer : q'.gatherTimer = q.gatherTimer
  owner : q'.order.map OrderRecord.slot = q.order.map OrderRecord.slot

theorem QueueUnit.SameTimers.refl (q : QueueUnit) : q.SameTimers q := ⟨rfl, rfl, rfl⟩

theorem QueueUnit.SameTimers.trans {q q' q'' : QueueUnit} (h : q.SameTimers q') (k : q'.SameTimers q'') :
    q.SameTimers q'' :=
  ⟨k.execution.trans h.execution, k.gatherTimer.trans h.gatherTimer, k.owner.trans h.owner⟩

theorem OrderRecord.leave_slot (r : OrderRecord) (creditLeft : Nat) : (r.leave creditLeft).slot = r.slot := by
  cases r <;> rfl

theorem Line.leaveHead_sameTimers (l : Line) : l.queue.SameTimers l.leaveHead.queue := by
  unfold Line.leaveHead
  split
  · exact ⟨rfl, rfl, rfl⟩
  · refine ⟨rfl, rfl, ?_⟩
    dsimp only
    split
    · rw [Option.map_map]
      exact Option.map_congr fun r _ => r.leave_slot _
    · rfl

theorem bindSender_sameTimers (k : SenderNo) (n : LineNo) (s : State) (m : LineNo) :
    (s.line m).queue.SameTimers ((bindSender k n s).line m).queue := by
  unfold bindSender
  split
  · rw [State.setSender_line, State.modLine_line]
    split
    · next same => rw [same]; exact Line.leaveHead_sameTimers _
    · exact .refl _
  · exact .refl _

theorem grantOnce_sameTimers (s : State) (m : LineNo) :
    (s.line m).queue.SameTimers ((grantOnce s).line m).queue := by
  unfold grantOnce
  split
  · exact .refl _
  · split
    · exact bindSender_sameTimers _ _ (s.setWaitList (withoutRequest _ s.waitList)) m
    · exact .refl _

theorem postRequest_sameTimers (n : LineNo) (s : State) (m : LineNo) :
    (s.line m).queue.SameTimers ((postRequest n s).line m).queue := by
  rw [postRequest_eq]
  refine QueueUnit.SameTimers.trans ?_ (grantOnce_sameTimers _ m)
  rw [asking_line]
  split
  · next same => rw [same]; exact ⟨rfl, rfl, rfl⟩
  · exact .refl _

theorem withdrawRequest_sameTimers (n : LineNo) (s : State) :
    (s.line n).queue.SameTimers ((withdrawRequest n s).line n).queue := by
  rw [withdrawRequest_line_same]
  exact ⟨rfl, rfl, rfl⟩

theorem startRecall_line (n : LineNo) (s : State) :
    (startRecall n s).line n =
      { (s.line n).leaveHead with
        queue := { (s.line n).leaveHead.queue with execution := .recallBreak s.clock }, hold := false } := by
  unfold startRecall
  rw [State.modLine_line_same, State.modLine_line_same]

theorem startPause_line (n : LineNo) (s : State) :
    (startPause n s).line n =
      { (s.line n).leaveHead with
        queue := { (s.line n).leaveHead.queue with execution := .pause s.clock } } := by
  unfold startPause
  rw [State.modQueue_line_same, State.modLine_line_same]

/-- A head examination leaves the gather wait, and the slot of the RELEASE or INJECT. -/
theorem examineHead_unit (n : LineNo) (s : State) :
    ((examineHead n s).line n).queue.gatherTimer = (s.line n).queue.gatherTimer ∧
      ((examineHead n s).line n).queue.order.map OrderRecord.slot =
        (s.line n).queue.order.map OrderRecord.slot := by
  have withdrawn := withdrawRequest_sameTimers n s
  have left := withdrawn.trans (Line.leaveHead_sameTimers ((withdrawRequest n s).line n))
  have posted := postRequest_sameTimers n s n
  generalize examined : examineHead n s = t
  cases examined ▸ examineHead_examination n s with
  | stands | waits => exact ⟨rfl, rfl⟩
  | posts => exact ⟨posted.gatherTimer, posted.owner⟩
  | withdraws => exact ⟨withdrawn.gatherTimer, withdrawn.owner⟩
  | recalls => rw [startRecall_line]; exact ⟨left.gatherTimer, left.owner⟩
  | pauses => rw [startPause_line]; exact ⟨left.gatherTimer, left.owner⟩

theorem examineHead_gatherTimer (n : LineNo) (s : State) :
    ((examineHead n s).line n).queue.gatherTimer = (s.line n).queue.gatherTimer :=
  (examineHead_unit n s).1

/-! ### Requests that sending leaves -/

theorem withoutRequest_find (j n : LineNo) (l : List Request) :
    (withoutRequest j l).find? (fun r => r.line == n) = none ∨
      (withoutRequest j l).find? (fun r => r.line == n) = l.find? fun r => r.line == n := by
  by_cases same : n = j
  · refine .inl (List.find?_eq_none.mpr fun r hr => ?_)
    have apart : r.line ≠ j := by simpa using (List.mem_filter.mp hr).2
    rw [same]
    simpa using apart
  · refine .inr ?_
    unfold withoutRequest
    rw [List.find?_filter]
    congr 1
    funext r
    by_cases line : r.line = n
    · simp [line, same]
    · simp [line]

theorem grantOnce_request (n : LineNo) (s : State) :
    (grantOnce s).request n = none ∨ (grantOnce s).request n = s.request n := by
  generalize grant : grantOnce s = t
  cases grant ▸ grantOnce_granted s with
  | held => exact .inr rfl
  | full => exact .inr rfl
  | binds k r clear free best =>
    unfold State.request
    rw [bindSender_waitList]
    exact withoutRequest_find r.line n s.waitList

theorem withdrawRequest_request (n : LineNo) (s : State) :
    (withdrawRequest n s).request n = none ∨ (withdrawRequest n s).request n = s.request n := by
  unfold State.request
  rw [withdrawRequest_waitList]
  split
  · exact withoutRequest_find n n s.waitList
  · exact .inr rfl

theorem asking_request (n : LineNo) (s : State) :
    (asking n s).request n = some (newRequest n (s.line n)) ∨ (asking n s).request n = s.request n := by
  unfold State.request
  rw [asking_waitList, List.find?_append]
  cases found : s.waitList.find? fun r => r.line == n with
  | none => exact .inl (by simp [newRequest])
  | some r => exact .inr rfl

/-- A request behind a head examination is the line's as it was, or a new one. -/
theorem examineHead_request (n : LineNo) (s : State) :
    (examineHead n s).request n = none ∨ (examineHead n s).request n = s.request n ∨
      (examineHead n s).request n = some (newRequest n (s.line n)) := by
  have withdrawn := (withdrawRequest_request n s).imp_right (Or.inl (b := (withdrawRequest n s).request n =
    some (newRequest n (s.line n))))
  generalize examined : examineHead n s = t
  cases examined ▸ examineHead_examination n s with
  | stands | waits => exact .inr (.inl rfl)
  | posts =>
    rw [postRequest_eq]
    obtain none | same := grantOnce_request n (asking n s)
    · exact .inl none
    · rw [same]
      exact .inr (asking_request n s).symm
  | withdraws => exact withdrawn
  | recalls => exact withdrawn
  | pauses => exact withdrawn

/-! ### Tests behind a head examination -/

/-- Nothing that the head examination of the line starts can end in this line tick, nor can its request. -/
structure SendingWaits (n : LineNo) (c : CallContext) (s : State) : Prop where
  call : (s.line n).call = some c
  execution : (s.line n).queue.execution = .none
  flashOut : 0 < c.flashOut
  senderWait : 0 < c.senderWait
  pauses : ∀ e ∈ (s.line n).queue.entries, e.kind ≠ .pause 0
  request : ∀ r ∈ s.request n, r.expired = true ∨ r.waitCount < r.senderWait

theorem Line.leaveHead_flight {e : Entry} {rest : List Entry} (head : l.queue.entries = e :: rest) :
    l.leaveHead.queue.flight = some { entry := e, owned := l.belongs e } := by
  unfold Line.leaveHead
  rw [head]

theorem Line.leaveHead_call (l : Line) : l.leaveHead.call = l.call := by
  obtain ⟨-, -, -, -, -, -, call, -⟩ := (Line.leaveHead_queueOnly l).sendOnly.keeps
  exact call

theorem Line.executionWaits_recall {t t0 : Tick} (execution : l.queue.execution = .recallBreak t0)
    (call : l.call = some c) (short : since t t0 < c.flashOut) : l.executionWaits t = true := by
  unfold Line.executionWaits
  rw [execution, call]
  exact decide_eq_true short

theorem Line.executionWaits_pause {t t0 : Tick} {f : Flight} {ms : Nat} (execution : l.queue.execution = .pause t0)
    (flight : l.queue.flight = some f) (kind : f.entry.kind = .pause ms) (short : since t t0 < ms) :
    l.executionWaits t = true := by
  unfold Line.executionWaits
  rw [execution, flight, Option.map_some, kind]
  cases l.call <;> exact decide_eq_true short

theorem since_self (t : Tick) : since t t = 0 := by simp [since]

/-- No request's wait ends behind a head examination: it asks for none or for a new one. -/
theorem examineHead_waits (call : (s.line n).call = some c) (senderWait : 0 < c.senderWait)
    (request : ∀ r ∈ s.request n, r.expired = true ∨ r.waitCount < r.senderWait) :
    ∀ r ∈ (examineHead n s).request n, r.expired = true ∨ r.waitCount < r.senderWait := by
  intro r hr
  obtain none | same | new := examineHead_request n s
  · rw [none] at hr; cases hr
  · rw [same] at hr; exact request r hr
  · rw [new] at hr
    cases hr
    rw [newRequest_eq call]
    exact .inr senderWait

theorem waitTest_examined (call : (s.line n).call = some c) (senderWait : 0 < c.senderWait)
    (request : ∀ r ∈ s.request n, r.expired = true ∨ r.waitCount < r.senderWait) :
    waitTest n (examineHead n s) = quietly (examineHead n s) :=
  waitTest_of_waits (examineHead_waits call senderWait request)

theorem SendingWaits.waitTest (h : SendingWaits n c s) :
    Machine.waitTest n (examineHead n s) = quietly (examineHead n s) :=
  waitTest_examined h.call h.senderWait h.request

theorem Line.executionWaits_none {t : Tick} (execution : l.queue.execution = .none) : l.executionWaits t = true := by
  unfold Line.executionWaits
  rw [execution]

theorem Line.executionWaits_congr {t : Tick} (queue : l'.queue = l.queue) (call : l'.call = l.call) :
    l'.executionWaits t = l.executionWaits t := by
  unfold Line.executionWaits
  rw [queue, call]

/-- What a head examination has started does not end in the same line tick. -/
theorem SendingWaits.executionWaits (h : SendingWaits n c s) :
    ((examineHead n s).line n).executionWaits s.clock = true := by
  have withdrawn := withdrawRequest_line_same n s
  have clock : (withdrawRequest n s).clock = s.clock := by
    obtain ⟨-, -, timeBase, -⟩ := (withdrawRequest_sends n s).keeps
    rw [State.clock, State.clock, timeBase]
  generalize examined : examineHead n s = t
  cases examined ▸ examineHead_examination n s with
  | stands | waits => exact Line.executionWaits_none h.execution
  | posts =>
    exact Line.executionWaits_none ((postRequest_sameTimers n s n).execution.trans h.execution)
  | withdraws =>
    exact Line.executionWaits_none ((withdrawRequest_sameTimers n s).execution.trans h.execution)
  | recalls e rest active flight head kind sendable clear =>
    have call : ((withdrawRequest n s).line n).leaveHead.call = some c := by
      rw [Line.leaveHead_call, withdrawn]; exact h.call
    refine Line.executionWaits_recall (c := c) (t0 := s.clock) ?_ ?_ ?_
    · rw [startRecall_line, clock]
    · rw [startRecall_line]; exact call
    · rw [since_self]
      exact h.flashOut
  | pauses e rest ms active flight head kind sendable clear =>
    have long : ms ≠ 0 := fun zero =>
      h.pauses e (by rw [head]; exact List.mem_cons_self) (by rw [kind, zero])
    have left := Line.leaveHead_flight (l := (withdrawRequest n s).line n) (e := e) (rest := rest)
      (by rw [withdrawn]; exact head)
    refine Line.executionWaits_pause (t0 := s.clock) ?_
      (f := { entry := e, owned := ((withdrawRequest n s).line n).belongs e }) ?_ kind ?_
    · rw [startPause_line, clock]
    · rw [startPause_line]; exact left
    · rw [since_self]
      exact Nat.pos_of_ne_zero long

theorem examineHead_clock (n : LineNo) (s : State) : (examineHead n s).clock = s.clock := by
  obtain ⟨-, -, timeBase, -⟩ := (examineHead_sends n s).keeps
  exact congrArg TimeBase.clock timeBase

theorem SendingWaits.executionTest (h : SendingWaits n c s) :
    Machine.executionTest n (examineHead n s) = quietly (examineHead n s) :=
  executionTest_of_waits (by rw [examineHead_clock]; exact h.executionWaits)

/-- No timer ends on a state with the queue unit, the call and the request that a head examination has left. -/
theorem SendingWaits.rest (h : SendingWaits n c s) (queue : (t.line n).queue = ((examineHead n s).line n).queue)
    (call : (t.line n).call = some c) (clock : t.clock = s.clock)
    (request : t.request n = (examineHead n s).request n) (firstDigit : (t.line n).firstDigit = none)
    (learn : ∀ x ∈ (t.line n).learnPending, x.timer.count < x.timer.limit)
    (gather : ∀ g ∈ (s.line n).queue.gatherTimer, g.count < g.limit) : TimersRest n t := by
  have sameCall : (t.line n).call = ((examineHead n s).line n).call := by
    obtain ⟨-, -, -, -, -, -, kept, -⟩ := (examineHead_sendOnly n s n).keeps
    rw [call, kept, h.call]
  refine ⟨firstDigitTest_of_stopped firstDigit, learnTest_of_running learn,
    gatherTest_of_running (by rw [queue, examineHead_gatherTimer]; exact gather),
    executionTest_of_waits (by rw [clock, Line.executionWaits_congr queue sameCall]; exact h.executionWaits),
    waitTest_of_waits fun r hr => ?_⟩
  rw [request] at hr
  exact examineHead_waits h.call h.senderWait h.request r hr

/-! ### What the tests leave of the line -/

/-- The tests of the timers but the first-digit timer's change the queue unit and HOLD of the line, and may end its
LEARN. -/
structure Tested (l l' : Line) : Prop where
  line : l' = { l with queue := l'.queue, hold := l'.hold, estimator := l'.estimator }
  estimator : l'.estimator = l.estimator ∨ l'.estimator = l.estimator.map Estimator.dropLearn

theorem SendOnly.tested (h : SendOnly l l') : Tested l l' := by
  obtain ⟨-, -, -, -, -, -, -, -, -, -, -, -, -, estimator⟩ := h.keeps
  exact ⟨by rw [h.eq], .inl estimator⟩

theorem Tested.sendOnly {l'' : Line} (h : Tested l l') (k : SendOnly l' l'') : Tested l l'' := by
  obtain ⟨-, -, -, -, -, -, -, -, -, -, -, -, -, estimator⟩ := k.keeps
  refine ⟨?_, by rw [estimator]; exact h.estimator⟩
  have first := h.line
  generalize l'.queue = q at first
  generalize l'.hold = hold at first
  have last := k.eq
  generalize l''.queue = q' at last ⊢
  generalize l''.hold = hold' at last ⊢
  rw [estimator, last, first]

theorem learnTest_tested (n : LineNo) (s : State) : Tested (s.line n) ((learnTest n s).state.line n) := by
  have stands : Tested (s.line n) (s.line n) := (SendOnly.refl _).tested
  unfold learnTest
  split
  · show Tested _ ((endLearn n _ _ s).line n)
    unfold endLearn
    split
    · exact stands
    · rw [completeOrder_line, State.modEstimator_line_same]
      exact ⟨rfl, .inr rfl⟩
  · exact stands

theorem gatherTest_sendOnly (n : LineNo) (s : State) : SendOnly (s.line n) ((gatherTest n s).state.line n) := by
  unfold gatherTest
  split
  · exact (State.modQueue_queueOnly s n n _).sendOnly.trans (examineHead_sendOnly n _ n)
  · exact .refl _

theorem executionFinished_sendOnly (n : LineNo) (s : State) :
    SendOnly (s.line n) ((executionFinished n s).line n) :=
  ((State.modQueue_queueOnly s n n _).trans (finishFlight_queueOnly n _ n)).sendOnly.trans
    (examineHead_sendOnly n _ n)

theorem guardTest_sendOnly (n : LineNo) (start : Tick) (s : State) :
    SendOnly (s.line n) ((guardTest n start s).state.line n) := by
  unfold guardTest
  split
  · exact executionFinished_sendOnly n s
  · exact .refl _

theorem endRecallBreak_sendOnly (n : LineNo) (s : State) :
    SendOnly (s.line n) ((endRecallBreak n s).line n) := by
  unfold endRecallBreak
  rw [State.modLine_line_same]
  rfl

theorem executionTest_sendOnly (n : LineNo) (s : State) :
    SendOnly (s.line n) ((executionTest n s).state.line n) := by
  unfold executionTest
  split
  · exact .refl _
  · split
    · exact .refl _
    · split
      · exact (endRecallBreak_sendOnly n s).trans (guardTest_sendOnly n _ _)
      · exact .refl _
    · exact guardTest_sendOnly n _ s
    · split
      · exact executionFinished_sendOnly n s
      · exact .refl _

theorem waitTest_line (n m : LineNo) (s : State) : (waitTest n s).state.line m = s.line m := by
  unfold waitTest
  split
  · split
    · exact (reportFault_reports _ n _ s).line m
    · rfl
  · rfl

/-- The tests of the timers leave the call, the decoder and the counts of a line whose first-digit timer waits. -/
theorem timerTests_tested (firstDigit : firstDigitTest n s = quietly s) :
    Tested (s.line n) ((timerTests n s).state.line n) := by
  have learn := learnTest_tested n s
  unfold timerTests
  rw [expiryTests_of_rest firstDigit]
  have gather := gatherTest_sendOnly n (learnTest n s).state
  have execution := executionTest_sendOnly n ((learnTest n s).andThen (gatherTest n)).state
  have wait := waitTest_line n n (((learnTest n s).andThen (gatherTest n)).andThen (executionTest n)).state
  rw [Ticked.andThen_state, wait]
  exact (learn.sendOnly gather).sendOnly execution

end Sys2Proof.Machine
end

section
/-! The pending pulse is counted. Settles O14. -/

namespace Sys2Proof.Machine

variable {s t u v : State} {n m : LineNo} {high : Bool} {sc : Scan} {l l' : Line} {edge : Option Edge}
  {c : TrainContext} {w : Ticked} {bs stamp : Tick} {d : Decoder} {e : Estimator}

/-! ### The line behind a line tick -/

/-- The line behind a line tick, as the decoder leaves it but for its queue unit, its latches and its estimator. -/
structure TickLine (n : LineNo) (l : Line) (t : State) : Prop where
  line : t.line n =
    { l with
      queue := (t.line n).queue, hold := (t.line n).hold, mute := t.muteOn n
      estimator := (t.line n).estimator }
  estimator : (t.line n).estimator = l.estimator ∨ (t.line n).estimator = l.estimator.map Estimator.dropLearn

theorem Tested.tickLine (h : Tested l (v.line n)) (s : State) : TickLine n l (settle s v) := by
  have line := h.line
  have estimator := h.estimator
  constructor
  · rw [settle_muteOn, settle_line]
    generalize v.line n = l' at line ⊢
    rw [line]
  · rw [settle_line]
    exact estimator

theorem TickLine.keeps (h : TickLine n l t) :
    (t.line n).mode = l.mode ∧ (t.line n).call = l.call ∧ (t.line n).firstDigit = l.firstDigit ∧
      (t.line n).decoder = l.decoder ∧ (t.line n).hitCount = l.hitCount ∧ (t.line n).digits = l.digits ∧
      (t.line n).overflowReported = l.overflowReported ∧
      (t.line n).dialSpeedReported = l.dialSpeedReported := by
  rw [h.line]
  exact ⟨rfl, rfl, rfl, rfl, rfl, rfl, rfl, rfl⟩

theorem TickLine.p16 (h : TickLine n l t) : (t.line n).estimator.map (·.p16) = l.estimator.map (·.p16) := by
  obtain same | dropped := h.estimator
  · rw [same]
  · rw [dropped, Option.map_map]
    rfl

theorem TickLine.mute (h : TickLine n l t) : (t.line n).mute = t.muteOn n := by
  rw [h.line]

/-- A line tick whose line is at its decoder's disposal to the end. -/
theorem Takes.tests (h : Takes n high s sc edge)
    (supervised : superviseTick n edge (s.atTick n ((s.line n).taken high sc)) = w)
    (firstDigit : firstDigitTest n w.state = quietly w.state) :
    ∃ t, exec (.lineTick n high) s = .next t ∧ (∀ e ∈ w.events, exec (e.row n high) s = .next t) ∧
      TickLine n (w.state.line n) t := by
  have tested := timerTests_tested firstDigit
  have ticked := h.tick supervised
  have row (e : TickEvent) (held : e ∈ w.events) := h.row supervised (.inl held)
  generalize (timerTests n w.state).state = v at *
  exact ⟨_, ticked, row, tested.tickLine s⟩

/-! ### Counting a pulse -/

theorem saturate_eq_min (top v : Nat) : saturate top v = min top (v + 1) := by
  unfold saturate
  split <;> omega

theorem Decoder.limit_of (ctx : d.ctx = some c) (f : TrainContext → Nat) : d.limit f = f c := by
  unfold Decoder.limit
  rw [ctx]
  rfl

theorem Decoder.sinceBreak_of (start : d.breakStart = some bs) (t : Tick) : d.sinceBreak t = since t bs := by
  unfold Decoder.sinceBreak
  rw [start]
  rfl

theorem Decoder.sinceMake_of {ms : Tick} (start : d.makeStart = some ms) (t : Tick) :
    d.sinceMake t = since t ms := by
  unfold Decoder.sinceMake
  rw [start]
  rfl

theorem Estimator.period_p16 (e : Estimator) (period : Nat) (c : TrainContext) :
    (e.period period c).p16 =
      if e.mode = .tracking then trackP16 e.p16 period c.pLo16 c.pHi16 else e.p16 := by
  unfold Estimator.period
  cases e.mode <;> rfl

/-- The line with its pending pulse counted. -/
theorem countPulse_line (ctx : (s.line n).decoder.ctx = some c) (start : (s.line n).decoder.breakStart = some bs) :
    (countPulse n s).line n =
        { s.line n with
          firstDigit := none
          decoder := (s.line n).decoder.pulseCounted bs
          estimator := ((countPulse n s).line n).estimator } ∧
      ((countPulse n s).line n).estimator.map (·.p16) =
        (s.line n).estimator.map fun e => e.p16Counted (s.line n).decoder bs c := by
  unfold countPulse completePeriod
  dsimp only
  rw [State.modDecoder_line_same, stopFirstDigit_line_same, ctx]
  generalize line : s.line n = l at *
  dsimp only
  split
  · next full =>
    rw [State.modEstimator_line_same, State.modDecoder_line_same, line]
    refine ⟨?_, ?_⟩
    · simp [Decoder.addPeriod, Decoder.pulseCounted, full, start, saturate_eq_min]
    · rw [Option.map_map]
      refine Option.map_congr fun e _ => ?_
      simp [Estimator.p16Counted, Estimator.period_p16, full, start]
  · next part =>
    rw [line]
    have part' (tracking : Prop) : ¬(1 ≤ l.decoder.pulses ∧ l.decoder.periods < 254 ∧ tracking) :=
      fun ⟨first, room, _⟩ => part ⟨first, room⟩
    refine ⟨?_, ?_⟩
    · simp [Decoder.pulseCounted, part, start, saturate_eq_min]
    · refine Option.map_congr fun e _ => ?_
      simp only [Estimator.p16Counted, part', if_false]

theorem makeTest_counts (pending : (s.line n).decoder.pulsePending = true)
    (long : (s.line n).decoder.limit (·.makeMin) ≤ (s.line n).decoder.sinceMake s.clock) :
    makeTest n s = noting .pulseCounted (countPulse n s) := by
  unfold makeTest
  dsimp only
  rw [if_pos pending, if_pos long]

/-- The estimate is no part of what the timers of a line tick raise. -/
theorem Line.taken_p16Counted (l : Line) (high : Bool) (sc : Scan) (d : Decoder) (bs : Tick) (c : TrainContext) :
    ((l.taken high sc).estimator.map fun e => e.p16Counted d bs c) =
      l.estimator.map fun e => e.p16Counted d bs c := by
  show (l.estimator.map _).map _ = _
  rw [Option.map_map]
  rfl

/-- Settles O14, by the test of a pending pulse, whose count no timer of the line tick undoes. -/
theorem pendingPulseIsCounted : Obligations.PendingPulseIsCounted := by
  unfold Obligations.PendingPulseIsCounted
  intro n high sc c bs ms s tick closed active inMake pending ctx breakStart makeStart long
  have takes := tick.takes
  generalize ({ sc with run := 0, candidate := none } : Scan) = sc' at takes
  have line := s.atTick_line_same n ((s.line n).taken high sc')
  have decoder : ((s.atTick n ((s.line n).taken high sc')).line n).decoder = (s.line n).decoder := by
    rw [line]; rfl
  have counts := makeTest_counts (s := s.atTick n ((s.line n).taken high sc')) (n := n)
    (by rw [decoder]; exact pending)
    (by rw [decoder, Decoder.limit_of ctx, Decoder.sinceMake_of makeStart]; exact long)
  have supervised := ((superviseTick_active (by rw [line]; exact active) none).trans
    (decodeTick_make (by rw [decoder]; exact inMake))).trans counts
  obtain ⟨same, p16⟩ := countPulse_line (s := s.atTick n ((s.line n).taken high sc')) (n := n) (c := c) (bs := bs)
    (by rw [decoder]; exact ctx) (by rw [decoder]; exact breakStart)
  rw [line, Line.taken_p16Counted] at p16
  rw [line] at same
  have stopped : firstDigitTest n (countPulse n (s.atTick n ((s.line n).taken high sc'))) =
      quietly (countPulse n (s.atTick n ((s.line n).taken high sc'))) :=
    firstDigitTest_of_stopped (by rw [same])
  obtain ⟨t, -, row, tested⟩ := takes.tests supervised stopped
  obtain ⟨mode, call, firstDigit, train, hits, digits, -⟩ := tested.keeps
  have estimate := tested.p16.trans p16
  dsimp only [noting] at mode call firstDigit train hits digits
  rw [same] at mode call firstDigit train hits digits
  exact ⟨t, row .pulseCounted List.mem_cons_self, mode.trans active, firstDigit, call, hits, digits, train, estimate⟩

end Sys2Proof.Machine
end

section
/-! The gather wait and the sender wait. Settles O16, O18. -/

namespace Sys2Proof.Machine

variable {s t u v : State} {n m : LineNo} {high : Bool} {sc : Scan} {l l' : Line} {edge : Option Edge}
  {c : CallContext} {w : Ticked} {tm : Timer} {e : TickEvent} {f : QueueUnit → QueueUnit}

/-! ### What the head examination of a line tick finds -/

/-- A state that a line tick has brought to the point of a head examination sends as the one the tick is compared to. -/
theorem queueInTick_sendsAlike (s : State) (n : LineNo) (high : Bool) (sc : Scan) (f : QueueUnit → QueueUnit) :
    SendsAlike (s.queueInTick n f) ((s.atTick n ((s.line n).taken high sc)).modQueue n f) := by
  have waits : (raiseTimers n s).waitList = s.requestsTicked n := by
    show (s.waitList.map fun r => if r.line = n then r.raise s.sendHold else r) = _
    simp only [Request.raise_eq]
    rfl
  refine .of_store (fun m => ?_) rfl ?_ rfl rfl rfl
  · by_cases same : m = n
    · subst same
      unfold State.queueInTick
      rw [State.modQueue_line_same, State.modQueue_line_same, State.atTick_line_same]
      have raised : (raiseTimers m s).line m = (s.line m).raiseTimers := s.modLine_line_same m Line.raiseTimers
      rw [raised]
      exact ⟨rfl, rfl, rfl, rfl⟩
    · unfold State.queueInTick
      rw [State.modQueue_line_other _ _ same, State.modQueue_line_other _ _ same, s.atTick_line_other _ same]
      have other : (raiseTimers n s).line m = s.line m := s.modLine_line_other n m Line.raiseTimers same
      rw [other]
      exact .refl _
  · exact waits.symm

/-- The queue units as a head examination leaves them stand at the end of the line tick. -/
theorem QueuesAs.settle (h : QueuesAs u v) (s : State) : QueuesAs u (settle s v) := by
  obtain ⟨lines, senders, waitList⟩ := h
  obtain ⟨lines', senders', waitList'⟩ := settle_settlesAs s v
  refine ⟨fun m => ?_, senders'.trans senders, waitList'.trans waitList⟩
  rw [lines']
  exact lines m

/-! ### The gather wait -/

theorem gatherTest_ends (active : (s.line n).mode = .active) (timer : (s.line n).queue.gatherTimer = some tm)
    (expired : tm.limit ≤ tm.count) :
    gatherTest n s = noting .gatherWaitExpiry (satisfyGather n s) := by
  unfold gatherTest
  rw [active, timer]
  simp [Timer.expired, expired]

/-- A line tick of an ACTIVE line whose decoder decides nothing. -/
theorem decodes_nothing (high : Bool) (sc : Scan) (active : (s.line n).mode = .active)
    (waits : DecoderWaits n s) :
    superviseTick n none (s.atTick n ((s.line n).taken high sc)) =
      quietly (s.atTick n ((s.line n).taken high sc)) := by
  have line := s.atTick_line_same n ((s.line n).taken high sc)
  exact (superviseTick_active (by rw [line]; exact active) none).trans
    (decodeTick_of_waits (waits.congr (by rw [line]; rfl) rfl))

/-- A satisfied gather with nothing for the head examination to do. -/
theorem satisfyGather_of_idle (idle : (s.line n).queue.flight.isSome = true ∨
      ((s.line n).queue.entries = [] ∧ (s.line n).queue.waiting = false)) :
    satisfyGather n s = s.modQueue n QueueUnit.satisfy := by
  have line := s.modQueue_line_same n QueueUnit.satisfy
  unfold satisfyGather
  obtain flight | ⟨empty, calm⟩ := idle
  · exact examineHead_of_flight (by rw [line]; exact flight)
  · exact examineHead_of_empty (by rw [line]; exact empty) (by rw [line]; exact calm)

/-- On a call whose first-digit timer has stopped, with no LEARN, a line tick raises the gather wait alone. -/
theorem Line.taken_of_call (stopped : l.firstDigit = none) (noLearn : l.learnPending = none) (high : Bool) (sc : Scan) :
    l.taken high sc = { l with raw := high, scan := some sc, queue := l.ticked.queue } := by
  have raised : l.ticked = { l with queue := l.ticked.queue } := by
    cases l
    cases stopped
    rfl
  unfold Line.taken
  rw [Line.learnTicked_of_none (l := l.ticked) noLearn]
  generalize l.ticked.queue = q at raised ⊢
  rw [raised]

theorem Line.taken_queue (l : Line) (high : Bool) (sc : Scan) :
    (l.taken high sc).queue =
      { l.queue with
        gatherTimer := l.queue.gatherTimer.map fun tm => { tm with count := tm.count + 1 } } := rfl

/-- What the timers of a call at rest leave to the head examination of the line tick. -/
theorem SendingWaits.of_timers {c : CallContext} (timers : TimersWait n c s) (call : (u.line n).call = some c)
    (execution : (u.line n).queue.execution = .none)
    (pauses : ∀ e ∈ (u.line n).queue.entries, e.kind ≠ .pause 0)
    (request : u.request n = (s.request n).map (·.ticked s.sendHold)) : SendingWaits n c u := by
  obtain ⟨-, flashOut, -, senderWait, -, -, waits⟩ := timers
  refine ⟨call, execution, flashOut, senderWait, pauses, fun r hr => ?_⟩
  rw [request] at hr
  obtain ⟨q, found, rfl⟩ := Option.mem_map.mp hr
  exact waits q found

theorem learnTest_line (n : LineNo) (s : State) :
    (∃ E, (learnTest n s).state.line n = { s.line n with estimator := E }) ∧
      (learnTest n s).state.waitList = s.waitList := by
  unfold learnTest
  split
  · have kept := endLearn_keeps n .notLearned (·.passedOver) s
    exact ⟨kept.1, kept.2.2.2⟩
  · exact ⟨⟨_, rfl⟩, rfl⟩

/-- The tests behind a gather wait that ends. -/
theorem timerTests_of_gather (firstDigit : firstDigitTest n s = quietly s)
    (gather : gatherTest n (learnTest n s).state = noting .gatherWaitExpiry u) :
    .gatherWaitExpiry ∈ (timerTests n s).events ∧
      (timerTests n s).state = (waitTest n (executionTest n u).state).state := by
  unfold timerTests
  rw [expiryTests_of_rest firstDigit]
  simp [Ticked.andThen, gather, noting]

/-- A gather wait that ends with nothing for the head examination to do. -/
theorem gatherTest_satisfies (active : (s.line n).mode = .active) (timer : (s.line n).queue.gatherTimer = some tm)
    (expired : tm.limit ≤ tm.count) (idle : (s.line n).queue.flight.isSome = true ∨
      ((s.line n).queue.entries = [] ∧ (s.line n).queue.waiting = false)) :
    gatherTest n s = noting .gatherWaitExpiry (s.modQueue n QueueUnit.satisfy) := by
  rw [gatherTest_ends active timer expired, satisfyGather_of_idle idle]

theorem gatherWait_ends {high : Bool} {sc : Scan} {c : CallContext} {tm : Timer} (tick : SteadyTick n high sc s)
    (inCall : InCall n c s) (waits : DecoderWaits n s) (timer : (s.line n).queue.gatherTimer = some tm)
    (expires : tm.limit ≤ tm.count + 1) (execution : (s.line n).queue.execution = .none)
    (idle : (s.line n).queue.flight.isSome = true ∨
      ((s.line n).queue.entries = [] ∧ (s.line n).queue.waiting = false)) :
    ∃ t, exec (.gatherWaitExpiry n high) s = .next t ∧
      (t.line n).queue = { (s.line n).queue with satisfied := true, gatherTimer := none } ∧
      (NoLearn n s →
        t.line n =
          { (s.line n).sampled high sc with
            queue := (t.line n).queue, mute := (t.line n).mute }) := by
  obtain ⟨active, call, stopped⟩ := inCall
  have row := tick.takes.row (e := .gatherWaitExpiry)
    (decodes_nothing high { sc with run := 0, candidate := none } active waits)
  have line := s.atTick_line_same n ((s.line n).taken high { sc with run := 0, candidate := none })
  have sampled (noLearn : NoLearn n s) :=
    Line.taken_of_call stopped noLearn high { sc with run := 0, candidate := none }
  have queue : ((s.line n).taken high { sc with run := 0, candidate := none }).queue =
      { (s.line n).queue with gatherTimer := some { tm with count := tm.count + 1 } } := by
    rw [Line.taken_queue, timer]
    rfl
  have noLearn_quiet (noLearn : NoLearn n s) : learnTest n _ = quietly _ :=
    learnTest_ticked (u := s.atTick n ((s.line n).taken high { sc with run := 0, candidate := none }))
      noLearn.waits (by rw [line]; rfl)
  have mode : ((s.line n).taken high { sc with run := 0, candidate := none }).mode = .active := active
  have quiet : firstDigitTest n (s.atTick n ((s.line n).taken high { sc with run := 0, candidate := none })) =
      quietly (s.atTick n ((s.line n).taken high { sc with run := 0, candidate := none })) :=
    firstDigitTest_ticked (s := s) (by rw [FirstDigitWaits, stopped]; nofun) (by rw [line]; rfl)
  generalize s.atTick n ((s.line n).taken high { sc with run := 0, candidate := none }) = x at *
  generalize (s.line n).taken high { sc with run := 0, candidate := none } = l at *
  obtain ⟨⟨E, learned⟩, -⟩ := learnTest_line n x
  rw [line] at learned
  have gather := gatherTest_satisfies (s := (learnTest n x).state) (n := n)
    (tm := { tm with count := tm.count + 1 }) (by rw [learned]; exact mode) (by rw [learned, queue])
    expires (by rw [learned, queue]; exact idle)
  obtain ⟨held, ends⟩ := timerTests_of_gather quiet gather
  have after : ((learnTest n x).state.modQueue n QueueUnit.satisfy).line n =
      { l with estimator := E, queue := l.queue.satisfy } := by
    rw [State.modQueue_line_same, learned]
  have still := executionTest_of_none (s := (learnTest n x).state.modQueue n QueueUnit.satisfy) (n := n)
    (by rw [after, queue]; exact execution)
  rw [still] at ends
  have last : (timerTests n x).state.line n = { l with estimator := E, queue := l.queue.satisfy } := by
    rw [ends, waitTest_line, ← after]
    rfl
  have next := row (.inr held)
  dsimp only [quietly] at next
  have settled : (settle s (timerTests n x).state).line n =
      { l with
        estimator := E, queue := l.queue.satisfy
        mute := ((settle s (timerTests n x).state).line n).mute } := by
    rw [settle_line, last]
  refine ⟨_, next, by rw [settled, queue]; rfl, fun noLearn => ?_⟩
  have same : E = l.estimator := by
    have quietly_learned := learned
    rw [noLearn_quiet noLearn] at quietly_learned
    exact (congrArg Line.estimator (line.symm.trans quietly_learned)).symm
  have form := sampled noLearn
  generalize settle s (timerTests n x).state = t at settled ⊢
  rw [settled, same, form]
  rfl

/-- Settles O16, by the gather test of the line tick: satisfied, and the head examined. -/
theorem gatherWaitSatisfiesTheGather : Obligations.GatherWaitSatisfiesTheGather := by
  unfold Obligations.GatherWaitSatisfiesTheGather
  refine ⟨fun n high sc c tm s tick inCall waits timer expires execution idle =>
    gatherWait_ends tick inCall waits timer expires execution idle,
    fun n high sc c tm s tick inCall waits noLearn timer expires timers => ?_⟩
  obtain ⟨active, call, stopped⟩ := inCall
  have ⟨execution, _, _, _, pauses, _⟩ := timers
  have row := tick.takes.row (e := .gatherWaitExpiry)
    (decodes_nothing high { sc with run := 0, candidate := none } active waits)
  have alike := (queueInTick_sendsAlike s n high { sc with run := 0, candidate := none }
    QueueUnit.satisfy).examineHead n
  have asks := s.atTick_request n ((s.line n).taken high { sc with run := 0, candidate := none })
  have line := s.atTick_line_same n ((s.line n).taken high { sc with run := 0, candidate := none })
  have learn := learnTest_ticked noLearn.waits
    (u := s.atTick n ((s.line n).taken high { sc with run := 0, candidate := none })) (by rw [line]; rfl)
  have quiet : firstDigitTest n (s.atTick n ((s.line n).taken high { sc with run := 0, candidate := none })) =
      quietly (s.atTick n ((s.line n).taken high { sc with run := 0, candidate := none })) :=
    firstDigitTest_ticked (s := s) (by rw [FirstDigitWaits, stopped]; nofun) (by rw [line]; rfl)
  have running : ((s.line n).taken high { sc with run := 0, candidate := none }).queue.gatherTimer =
      some { tm with count := tm.count + 1 } := by
    rw [Line.taken_queue, timer]
    rfl
  have sending : SendingWaits n c
      ((s.atTick n ((s.line n).taken high { sc with run := 0, candidate := none })).modQueue n
        QueueUnit.satisfy) :=
    .of_timers timers (by rw [State.modQueue_line_same, line]; exact call)
      (by rw [State.modQueue_line_same, line]; exact execution)
      (by rw [State.modQueue_line_same, line]; exact pauses) asks
  have mode : ((s.line n).taken high { sc with run := 0, candidate := none }).mode = .active := active
  generalize s.atTick n ((s.line n).taken high { sc with run := 0, candidate := none }) = x at *
  generalize (s.line n).taken high { sc with run := 0, candidate := none } = l at *
  have gather := gatherTest_ends (s := x) (n := n) (tm := { tm with count := tm.count + 1 })
    (by rw [line]; exact mode) (by rw [line]; exact running) expires
  obtain ⟨held, ends⟩ := timerTests_of_gather (s := x) quiet (by rw [learn]; exact gather)
  have ended : (timerTests n x).state = examineHead n (x.modQueue n QueueUnit.satisfy) := by
    rw [ends]
    unfold satisfyGather
    rw [sending.executionTest]
    dsimp only [quietly]
    rw [sending.waitTest]
    rfl
  have next := row (.inr held)
  dsimp only [quietly] at next
  rw [ended] at next
  exact ⟨_, next, alike.queuesAs.settle s⟩

end Sys2Proof.Machine
end

section
/-! The sender wait, and what a fault leaves. Settles O18. -/

namespace Sys2Proof.Machine

variable {s t u v : State} {n m : LineNo} {high : Bool} {sc : Scan} {l l' : Line} {edge : Option Edge}
  {c : CallContext} {w : Ticked} {e : TickEvent} {k j : Nat} {kind : FaultKind} {detail : Nat} {r : Request}

/-! ### Faults -/

theorem reportFault_words (sound : StoreSound s) (goes : FaultGoesTo s k) :
    (reportFault kind n detail s).words (faultSlotAddress k) 4 = faultWords kind n s.clock detail := by
  rw [reportFault_of_goesTo goes, State.raiseFault_words]
  exact State.pokes_words_mark_last sound (faultSlotAddress_in_store goes.2.1) _ _ _ _

theorem reportFault_frame (goes : FaultGoesTo s k) :
    StoreFrame s (reportFault kind n detail s) [(faultSlotAddress k, 4)] := by
  rw [reportFault_of_goesTo goes]
  exact (StoreFrame.of_pokes (by simp)).raiseFault

theorem reportFault_form (goes : FaultGoesTo s k) :
    reportFault kind n detail s =
      { s with store := (reportFault kind n detail s).store, causes := { s.causes with fault := true } } := by
  rw [reportFault_of_goesTo goes]
  rfl

/-- A fault writes the fault slots and FAULT-OVERFLOW alone. -/
theorem reportFault_peek_other (kind : FaultKind) (n : LineNo) (detail : Nat) (s : State) {a : Nat}
    (overflow : a ≠ 0x005) (slots : a < 0x0A0 ∨ 0x0C0 ≤ a) :
    (reportFault kind n detail s).peek a = s.peek a := by
  by_cases clear : s.peek faultOverflowAddress = 0
  · cases free : freeFaultSlot s with
    | some k =>
      have goes : FaultGoesTo s k := ⟨clear, freeFaultSlot_eq_some_iff.mp free⟩
      have small := goes.2.1
      exact reportFault_frame goes a (by simp [faultSlotAddress]; omega)
    | none =>
      rw [reportFault_of_full clear (freeFaultSlot_eq_none_iff.mp free)]
      exact StoreFrame.of_poke s faultOverflowAddress 1 a (by
        simp only [List.mem_singleton, forall_eq, faultOverflowAddress]; omega)
  · rw [reportFault_of_overflow clear]

/-! ### The wait of a request -/

theorem waitTest_ends (found : s.request n = some r) (due : r.waitDue = true) :
    waitTest n s = noting .senderWait (expireWait n r s) := by
  unfold waitTest
  rw [found]
  exact if_pos due

/-- The tests behind every other timer at rest. -/
theorem timerTests_of_wait (firstDigit : firstDigitTest n s = quietly s) (learn : learnTest n s = quietly s)
    (gather : gatherTest n s = quietly s) (execution : executionTest n s = quietly s) :
    timerTests n s = waitTest n s := by
  unfold timerTests
  rw [expiryTests_of_rest firstDigit, learn, quietly_andThen, gather, quietly_andThen, execution, quietly_andThen]

/-- The line of a call on which the line tick raises timers alone. -/
theorem Line.taken_ticked (noLearn : l.learnPending = none) (high : Bool) (sc : Scan) :
    l.taken high { sc with run := 0, candidate := none } = (l.sampled high sc).ticked := by
  unfold Line.taken
  rw [Line.learnTicked_of_none (l := l.ticked) noLearn]
  rfl

/-- A line tick of a call in which nothing but its request can come to its end. -/
theorem waiting_timers (high : Bool) (sc : Scan) (inCall : InCall n c s) (noLearn : NoLearn n s)
    (execution : (s.line n).queue.execution = .none) (gather : GatherWaits n s) :
    let x := s.atTick n ((s.line n).taken high sc)
    firstDigitTest n x = quietly x ∧ learnTest n x = quietly x ∧ gatherTest n x = quietly x ∧
      executionTest n x = quietly x := by
  obtain ⟨-, -, stopped⟩ := inCall
  have line := s.atTick_line_same n ((s.line n).taken high sc)
  exact ⟨firstDigitTest_ticked (s := s) (by rw [FirstDigitWaits, stopped]; nofun) (by rw [line]; rfl),
    learnTest_ticked noLearn.waits (by rw [line]; rfl), gatherTest_ticked gather (by rw [line]; rfl),
    executionTest_of_none (by rw [line]; exact execution)⟩

theorem waiting_rests (high : Bool) (sc : Scan) (inCall : InCall n c s) (noLearn : NoLearn n s)
    (execution : (s.line n).queue.execution = .none) (gather : GatherWaits n s) :
    timerTests n (s.atTick n ((s.line n).taken high sc)) =
      waitTest n (s.atTick n ((s.line n).taken high sc)) := by
  obtain ⟨firstDigit, learn, gathers, executes⟩ := waiting_timers high sc inCall noLearn execution gather
  exact timerTests_of_wait firstDigit learn gathers executes

/-- What the expiry of a request's wait leaves of the event. -/
theorem expireWait_beside (n : LineNo) (r : Request) (s : State) : Beside n s (expireWait n r s) := by
  refine (reportFault_reports .senderWait n r.age s).beside.trans ?_
  exact ⟨fun _ _ => rfl, rfl, fun _ => rfl, by
    obtain ⟨-, -, -, -, -, -, -, waitList, -⟩ := (reportFault_reports .senderWait n r.age s).keeps
    unfold expireWait
    rw [State.setWaitList_waitList, List.length_map, waitList]⟩

theorem expireWait_form (goes : FaultGoesTo s k) :
    expireWait n r s =
      { s with
        store := (expireWait n r s).store, causes := { s.causes with fault := true }
        waitList := s.waitList.map fun x => if x.line = n then { x with expired := true } else x } := by
  have form := reportFault_form (kind := .senderWait) (n := n) (detail := r.age) goes
  unfold expireWait
  generalize reportFault .senderWait n r.age s = u at form ⊢
  rw [form]
  rfl

theorem expireWait_keeps (n : LineNo) (r : Request) (s : State) :
    (expireWait n r s).lines = s.lines ∧ (expireWait n r s).senders = s.senders := by
  obtain ⟨-, -, -, -, lines, -, senders, -⟩ := (reportFault_reports .senderWait n r.age s).keeps
  exact ⟨lines, senders⟩

theorem senderWait_reports (n : LineNo) (high : Bool) (sc : Scan) (c : CallContext) (r : Request) (s : State)
    (k : Nat) (sound : StoreSound s) (mute : MuteSound s) (tick : SteadyTick n high sc s) (inCall : InCall n c s)
    (waits : DecoderWaits n s) (noLearn : NoLearn n s) (execution : (s.line n).queue.execution = .none)
    (gather : GatherWaits n s) (clear : s.sendHold = false) (found : s.request n = some r)
    (fresh : r.expired = false) (expires : r.senderWait ≤ r.waitCount + 1) (goes : FaultGoesTo s k) :
    ∃ t, exec (.senderWait n high) s = .next t ∧
      t.line n = ((s.line n).sampled high sc).ticked ∧
      t.waitList =
        ((s.requestsTicked n).map fun x => if x.line = n then { x with expired := true } else x) ∧
      t.words (faultSlotAddress k) 4 =
        faultWords .senderWait n s.clock (if r.age < 65535 then r.age + 1 else 65535) ∧
      (∀ m : LineNo, m ≠ n → t.line m = s.line m) ∧
      StoreFrame s t [(faultSlotAddress k, 4), (imageAddress n, 12)] ∧
      t = { s with
        scanBus := s.noteSample n, lines := t.lines, waitList := t.waitList, store := t.store
        causes := { s.causes with fault := true } } := by
  have row := tick.takes.row (e := .senderWait)
    (decodes_nothing high { sc with run := 0, candidate := none } inCall.1 waits)
  have tests := waiting_rests high { sc with run := 0, candidate := none } inCall noLearn execution gather
  have beside := s.atTick_beside n ((s.line n).taken high { sc with run := 0, candidate := none })
  have muted := mute.atTick ((s.line n).taken_mutesAs high { sc with run := 0, candidate := none }) n
  rw [Line.taken_ticked noLearn] at row tests beside muted
  generalize ((s.line n).sampled high sc).ticked = l at *
  have due : (r.ticked s.sendHold).waitDue = true := by
    simp [Request.waitDue, Request.ticked, fresh, clear, expires]
  have age : (r.ticked s.sendHold).age = if r.age < 65535 then r.age + 1 else 65535 := rfl
  have asks : (s.atTick n l).request n = some (r.ticked s.sendHold) := by
    rw [State.atTick_request, found]; rfl
  generalize r.ticked s.sendHold = aged at *
  rw [waitTest_ends asks due] at tests
  have next := row (.inr (by dsimp only [quietly]; rw [tests]; exact List.mem_cons_self))
  dsimp only [quietly] at next
  rw [tests] at next
  dsimp only [noting] at next
  have goes' : FaultGoesTo (s.atTick n l) k := goes
  have words : (expireWait n aged (s.atTick n l)).words (faultSlotAddress k) 4 =
      faultWords .senderWait n s.clock aged.age :=
    reportFault_words (s := s.atTick n l) sound goes'
  have frame : StoreFrame s (expireWait n aged (s.atTick n l)) [(faultSlotAddress k, 4)] :=
    reportFault_frame (s := s.atTick n l) goes'
  have form := expireWait_form (n := n) (r := aged) goes'
  have shown := beside.trans (expireWait_beside n aged (s.atTick n l))
  obtain ⟨sameLines, sameSenders⟩ := expireWait_keeps n aged (s.atTick n l)
  have line : (expireWait n aged (s.atTick n l)).line n = l := by
    rw [State.line_congr sameLines, State.atTick_line_same]
  have muteOn : (expireWait n aged (s.atTick n l)).muteOn n = l.mute := by
    rw [State.atTick_line_same] at muted
    rw [muted]
    exact State.muteOn_congr (by rw [line, State.atTick_line_same]; exact ⟨rfl, rfl, rfl⟩)
      (State.boundSender_congr (fun j => by rw [State.sender_congr sameSenders]) n)
  have slots : faultSlotAddress k + 4 ≤ imageAddress n := by
    have small := goes.2.1
    unfold faultSlotAddress imageAddress
    omega
  generalize expireWait n aged (s.atTick n l) = u at *
  obtain ⟨lines, store, settled⟩ := settle_form s u
  refine ⟨_, next, settle_line_of_mute line muteOn, ?_, ?_,
    fun m other => shown.settle_line_other mute other, fun a outside => ?_, ?_⟩
  · rw [(settle_keeps s u).2.1]
    exact congrArg State.waitList form
  · rw [← age, ← words]
    exact State.words_congr fun i hi => shown.settle_peek mute (.inl (by omega))
  · simp only [List.mem_cons, List.not_mem_nil, or_false, forall_eq_or_imp, forall_eq] at outside
    rw [shown.settle_peek mute outside.2, frame a (by simpa using outside.1)]
  · rw [settled, form]
    rfl

theorem senderWait_waits (n : LineNo) (high : Bool) (sc : Scan) (c : CallContext) (r : Request) (s : State)
    (mute : MuteSound s) (tick : SteadyTick n high sc s) (inCall : InCall n c s) (waits : DecoderWaits n s)
    (noLearn : NoLearn n s) (execution : (s.line n).queue.execution = .none) (gather : GatherWaits n s)
    (found : s.request n = some r)
    (later : r.expired = true ∨ (s.sendHold = true ∧ r.waitCount < r.senderWait) ∨
      (s.sendHold = false ∧ r.waitCount + 1 < r.senderWait)) :
    exec (.senderWait n high) s = .next s ∧
    ∃ t, exec (.lineTick n high) s = .next t ∧
      t.line n = ((s.line n).sampled high sc).ticked ∧
      t.request n =
        some
          { r with
            waitCount :=
              if r.expired = true ∨ s.sendHold = true then r.waitCount else r.waitCount + 1
            age := if r.age < 65535 then r.age + 1 else 65535 } ∧
      (∀ m : LineNo, m ≠ n → t.line m = s.line m ∧ t.request m = s.request m) ∧
      t = { s with
        scanBus := s.noteSample n, lines := t.lines, waitList := s.requestsTicked n } := by
  have takes := tick.takes
  obtain ⟨-, scan, -⟩ := tick
  have supervised := decodes_nothing high { sc with run := 0, candidate := none } inCall.1 waits
  obtain ⟨firstDigit, learn, gathers, executes⟩ :=
    waiting_timers high { sc with run := 0, candidate := none } inCall noLearn execution gather
  have asks := s.atTick_request n ((s.line n).taken high { sc with run := 0, candidate := none })
  have requestWaits : RequestWaits n s := by
    intro q hq
    obtain rfl : r = q := Option.some.inj (found.symm.trans hq)
    obtain expired | ⟨held, before⟩ | ⟨clear, before⟩ := later
    · exact .inl expired
    · exact .inr (by simpa [Request.ticked, held] using before)
    · refine .inr (lt_of_le_of_lt ?_ before)
      unfold Request.ticked
      dsimp only
      split <;> omega
  obtain ⟨still, idle⟩ := takes.still mute scan rfl supervised
    ⟨firstDigit, learn, gathers, executes, waitTest_atTick requestWaits asks⟩
  refine ⟨idle .senderWait, _, still, ?_, ?_, fun m other => ⟨s.atTick_line_other _ other, ?_⟩, rfl⟩
  · rw [State.atTick_line_same, Line.taken_ticked noLearn]
  · rw [asks, found]
    simp [Request.ticked, or_comm]
  · exact find_changed_other (·.ticked s.sendHold) (fun _ => rfl) s.waitList other

/-- Settles O18, by the wait test of a line tick in which every other timer waits. -/
theorem senderWaitReportsOnce : Obligations.SenderWaitReportsOnce := by
  unfold Obligations.SenderWaitReportsOnce
  refine ⟨fun n high sc c r s k => ?_, fun n high sc c r s => ?_⟩
  · exact senderWait_reports n high sc c r s k
  · exact senderWait_waits n high sc c r s

end Sys2Proof.Machine
end

section
/-! Expiries of a line tick that decides nothing else: the LEARN's and the first-digit timer's. Settles O11. -/

namespace Sys2Proof.Machine

variable {s t u v : State} {n m : LineNo} {high : Bool} {sc sc' : Scan} {l l' : Line} {edge : Option Edge}
  {w : Ticked} {tm : Timer} {e : Estimator} {x : Learn} {slot : SlotNo} {code : ResultCode} {detail : Nat}

/-! ### The LEARN's timer -/

theorem learnTest_ends (pending : (s.line n).learnPending = some x) (expired : x.timer.limit ≤ x.timer.count) :
    learnTest n s =
      noting .learnExpiry
        (completeOrder x.slot .notLearned x.passedOver (s.modEstimator n Estimator.dropLearn)) := by
  unfold learnTest learnDue
  rw [endLearn_of_pending pending, pending]
  simp [Timer.expired, expired]

theorem learnTest_of_none (h : NoLearn n s) : learnTest n s = quietly s :=
  learnTest_of_running fun x hx => by
    rw [h] at hx
    cases hx

theorem timerTests_of_learn (firstDigit : firstDigitTest n s = quietly s)
    (learn : learnTest n s = noting .learnExpiry u) (gather : gatherTest n u = quietly u)
    (execution : executionTest n u = quietly u) :
    .learnExpiry ∈ (timerTests n s).events ∧ (timerTests n s).state = (waitTest n u).state := by
  unfold timerTests
  rw [expiryTests_of_rest firstDigit, learn]
  simp [Ticked.andThen, noting, gather, quietly, execution]

/-- The tests of the timers in a line tick that decides nothing, on a state that keeps what they read. -/
theorem OnlyLearnMoves.tests (h : OnlyLearnMoves n sc s) (mode : (u.line n).mode = (s.line n).mode)
    (call : (u.line n).call = (s.line n).call) (firstDigit : (u.line n).firstDigit = (s.line n).ticked.firstDigit)
    (queue : (u.line n).queue = (s.line n).ticked.queue) (clock : u.clock = s.clock)
    (request : u.request n = (s.request n).map (·.ticked s.sendHold)) :
    firstDigitTest n u = quietly u ∧ gatherTest n u = quietly u ∧ executionTest n u = quietly u ∧
      waitTest n u = quietly u := by
  obtain ⟨-, -, active, waits⟩ := h
  refine ⟨?_, ?_, ?_, waitTest_atTick waits request⟩
  all_goals by_cases on : (s.line n).mode = .active
  · exact firstDigitTest_ticked (active on).2.1 firstDigit
  · exact firstDigitTest_of_inactive (by rw [mode]; exact on)
  · exact gatherTest_ticked (active on).2.2.1 (by rw [queue])
  · exact gatherTest_of_inactive (by rw [mode]; exact on)
  · refine executionTest_of_waits ?_
    have executes := (active on).2.2.2
    unfold Line.executionWaits at executes ⊢
    rw [queue, call, clock]
    exact executes
  · exact executionTest_of_inactive (by rw [mode]; exact on)

/-! ### What the end of an event leaves of an order -/

theorem settle_causes (s u : State) : (settle s u).causes = u.causes := by
  obtain ⟨lines, store, form⟩ := settle_form s u
  rw [form]

theorem SlotShows.settle {value : Word} (h : SlotShows u slot value code detail) (s : State) :
    SlotShows (settle s u) slot value code detail := by
  obtain ⟨state, result⟩ := h
  exact ⟨(settle_peek_other s u _ (slotAddress_not_shown slot (i := 0) (by decide))).trans state,
    (settle_peek_other s u _ (slotAddress_not_shown slot (by decide))).trans result⟩

theorem settle_slotHeld (s u : State) (slot : SlotNo) : (settle s u).slotHeld slot = u.slotHeld slot := by
  unfold State.slotHeld
  rw [settle_board]

/-- An order completed at the end of a line tick shows its outcome. -/
theorem completed_shows (sound : StoreSound u) (targets : MarkTargetsSound u) (slot : SlotNo) (code : ResultCode)
    (detail : Nat) (s : State) :
    SlotShows (settle s (completeOrder slot code detail u)) slot slotDone code detail ∧
      (settle s (completeOrder slot code detail u)).slotHeld slot = false ∧
      (settle s (completeOrder slot code detail u)).causes.order = true :=
  ⟨(completeOrder_shows sound targets slot code detail).settle s,
    (settle_slotHeld s _ slot).trans (completeOrder_slotHeld slot code detail u),
    by rw [settle_causes]; exact completeOrder_order slot code detail u⟩

theorem Line.taken_learn (estimator : l.estimator = some e) (learn : e.learn = some x) (high : Bool) (sc : Scan) :
    (l.taken high sc).estimator =
      some { e with learn := some { x with timer := { x.timer with count := x.timer.count + 1 } } } := by
  show (l.estimator.map _) = _
  rw [estimator, Option.map_some, learn]
  rfl

/-- The line of a call in which a line tick raises timers, with its LEARN gone. -/
theorem Line.taken_dropped (estimator : l.estimator = some e) (high : Bool) (sc : Scan) :
    { l.taken high { sc with run := 0, candidate := none } with
        estimator := (l.taken high { sc with run := 0, candidate := none }).estimator.map Estimator.dropLearn } =
      { (l.sampled high sc).ticked with estimator := some { e with learnMark := false, learn := none } } := by
  have dropped : (l.taken high { sc with run := 0, candidate := none }).estimator.map Estimator.dropLearn =
      some { e with learnMark := false, learn := none } := by
    show (l.estimator.map _).map _ = _
    rw [estimator]
    rfl
  rw [dropped]
  rfl

theorem learnExpiry_alone (n : LineNo) (high : Bool) (sc : Scan) (e : Estimator) (x : Learn) (s : State)
    (sound : StoreSound s) (mute : MuteSound s) (targets : MarkTargetsSound s) (tick : SteadyTick n high sc s)
    (only : OnlyLearnMoves n sc s) (estimator : (s.line n).estimator = some e) (learn : e.learn = some x)
    (expires : x.timer.limit ≤ x.timer.count + 1) :
    ∃ t, exec (.learnExpiry n high) s = .next t ∧
       t.line n =
         { ((s.line n).sampled high sc).ticked with
           estimator := some { e with learnMark := false, learn := none } } ∧
       SlotShows t x.slot slotDone .notLearned x.passedOver ∧ t.slotHeld x.slot = false ∧
       t.causes.order = true ∧
       (∀ m : LineNo, m ≠ n → t.line m = s.line m) ∧
       t = { s with
         scanBus := s.noteSample n, lines := t.lines, waitList := s.requestsTicked n
         store := t.store, board := t.board, causes := t.causes } := by
  have row := tick.takes.row (e := .learnExpiry)
    (only.supervises (high := high) (sc' := { sc with run := 0, candidate := none }) rfl rfl)
  have taken := Line.taken_learn estimator learn high { sc with run := 0, candidate := none }
  have dropped := Line.taken_dropped estimator high sc
  have same := (s.line n).taken_mutesAs high { sc with run := 0, candidate := none }
  have kept : ((s.line n).taken high { sc with run := 0, candidate := none }).mode = (s.line n).mode ∧
      ((s.line n).taken high { sc with run := 0, candidate := none }).call = (s.line n).call ∧
      ((s.line n).taken high { sc with run := 0, candidate := none }).firstDigit = (s.line n).ticked.firstDigit ∧
      ((s.line n).taken high { sc with run := 0, candidate := none }).queue = (s.line n).ticked.queue :=
    ⟨rfl, rfl, rfl, rfl⟩
  generalize (s.line n).taken high { sc with run := 0, candidate := none } = l at *
  obtain ⟨mode, call, timer, queue⟩ := kept
  have line := s.atTick_line_same n l
  obtain ⟨firstDigit, -⟩ := only.tests (u := s.atTick n l) (by rw [line]; exact mode) (by rw [line]; exact call)
    (by rw [line]; exact timer) (by rw [line]; exact queue) rfl (s.atTick_request n l)
  have ends := learnTest_ends (s := s.atTick n l) (n := n)
    (by rw [line]; exact Line.learnPending_of taken rfl) expires
  rw [State.modEstimator, State.atTick_modLine, dropped] at ends
  have same' : (s.line n).MutesAs { ((s.line n).sampled high sc).ticked with
      estimator := some { e with learnMark := false, learn := none } } := ⟨rfl, rfl, rfl, rfl⟩
  have muted := mute.atTick same' n
  have shows := completed_shows (u := s.atTick n { ((s.line n).sampled high sc).ticked with
      estimator := some { e with learnMark := false, learn := none } }) sound targets x.slot .notLearned x.passedOver s
  have beside := s.atTick_beside n { ((s.line n).sampled high sc).ticked with
      estimator := some { e with learnMark := false, learn := none } }
  have answers := completeOrder_answers x.slot .notLearned x.passedOver
    (s.atTick n { ((s.line n).sampled high sc).ticked with
      estimator := some { e with learnMark := false, learn := none } })
  have kept' : ({ ((s.line n).sampled high sc).ticked with
      estimator := some { e with learnMark := false, learn := none } } : Line).mode = (s.line n).mode ∧
      ({ ((s.line n).sampled high sc).ticked with
        estimator := some { e with learnMark := false, learn := none } } : Line).call = (s.line n).call ∧
      ({ ((s.line n).sampled high sc).ticked with
        estimator := some { e with learnMark := false, learn := none } } : Line).firstDigit =
          (s.line n).ticked.firstDigit ∧
      ({ ((s.line n).sampled high sc).ticked with
        estimator := some { e with learnMark := false, learn := none } } : Line).queue =
          (s.line n).ticked.queue := ⟨rfl, rfl, rfl, rfl⟩
  generalize ({ ((s.line n).sampled high sc).ticked with
    estimator := some { e with learnMark := false, learn := none } } : Line) = l' at *
  have line' := s.atTick_line_same n l'
  rw [line'] at muted
  have asks := s.atTick_request n l'
  have form : completeOrder x.slot .notLearned x.passedOver (s.atTick n l') = _ := answers
  have clock : (completeOrder x.slot .notLearned x.passedOver (s.atTick n l')).clock = s.clock := by
    obtain ⟨-, -, timeBase, -⟩ := answers.keeps
    rw [State.clock, timeBase]
    rfl
  have bound : (completeOrder x.slot .notLearned x.passedOver (s.atTick n l')).muteOn n = l'.mute := by
    rw [muted]
    obtain ⟨-, -, -, -, -, -, senders, -⟩ := answers.keeps
    exact State.muteOn_congr (by rw [answers.line]; exact ⟨rfl, rfl, rfl⟩)
      (State.boundSender_congr (fun k => by rw [State.sender_congr senders]) n)
  have request : (completeOrder x.slot .notLearned x.passedOver (s.atTick n l')).request n =
      (s.request n).map (·.ticked s.sendHold) := by
    obtain ⟨-, -, -, -, -, -, -, waitList, -⟩ := answers.keeps
    rw [State.request, waitList]
    exact asks
  have settled := (answers.line n).trans line'
  have shown := beside.trans answers.beside
  generalize completeOrder x.slot .notLearned x.passedOver (s.atTick n l') = y at *
  obtain ⟨mode', call', timer', queue'⟩ := kept'
  obtain ⟨-, gather, execution, wait⟩ := only.tests (u := y) (by rw [settled]; exact mode')
    (by rw [settled]; exact call') (by rw [settled]; exact timer') (by rw [settled]; exact queue') clock request
  obtain ⟨held, final⟩ := timerTests_of_learn firstDigit ends gather execution
  rw [wait] at final
  have next := row (.inr held)
  dsimp only [quietly] at next final
  rw [final] at next
  obtain ⟨shows, free, raised⟩ := shows
  refine ⟨_, next, settle_line_of_mute settled bound, shows, free, raised,
    fun m other => shown.settle_line_other mute other, ?_⟩
  obtain ⟨lines, store, settles⟩ := settle_form s y
  rw [settles, form]
  rfl

/-! ### The first-digit timer -/

theorem firstDigitTest_ends (active : (s.line n).mode = .active) (timer : (s.line n).firstDigit = some tm)
    (expired : tm.limit ≤ tm.count) :
    firstDigitTest n s = noting .firstDigitExpiry (expireFirstDigit n s) := by
  unfold firstDigitTest firstDigitDue
  rw [active, timer]
  simp [Timer.expired, expired]

theorem learnDue_of_quiet (h : learnTest n s = quietly s) : learnDue n s = false := by
  cases due : learnDue n s with
  | false => rfl
  | true =>
    unfold learnTest at h
    rw [if_pos due] at h
    exact absurd (congrArg Ticked.events h) (by simp [noting, quietly])

/-- The tests behind a first-digit timer that ends with no LEARN ending. -/
theorem timerTests_of_firstDigit (ends : firstDigitTest n s = noting .firstDigitExpiry u)
    (learn : learnTest n s = quietly s) (rest : TimersRest n u) :
    .firstDigitExpiry ∈ (timerTests n s).events ∧ (timerTests n s).state = u := by
  have first : expiryTests n s = (firstDigitTest n s).andThen (learnTest n) := by
    unfold expiryTests
    rw [learnDue_of_quiet learn, Bool.and_false, Bool.false_and]
    exact if_neg Bool.false_ne_true
  unfold timerTests
  rw [first, ends]
  simp [Ticked.andThen, noting, rest.learn, rest.gather, rest.execution, rest.wait, quietly]

/-- The line whose call has been dropped. -/
def Line.dropped (l : Line) (mode : LineMode) : Line :=
  { l with
    mode := mode, hold := false, decoder := .atRest, firstDigit := none, call := none
    estimator := l.estimator.map Estimator.passOver }

theorem dropCall_atTick (s : State) (n : LineNo) (l : Line) (mode : LineMode) :
    dropCall n mode (s.atTick n l) = s.atTick n (l.dropped mode) := by
  unfold dropCall trainWithoutDigit State.modEstimator
  rw [State.atTick_modLine, State.atTick_modLine]
  rfl

theorem Estimator.passOver_of_none (h : e.learn = none) : e.passOver = { e with learnMark := false } := by
  unfold Estimator.passOver
  rw [h]
  simp

/-- With no LEARN a train without a digit clears the learn mark alone. -/
theorem passOver_of_noLearn (h : l.learnPending = none) :
    l.estimator.map Estimator.passOver = l.estimator.map fun e => { e with learnMark := false } := by
  refine Option.map_congr fun e he => ?_
  have pending := h
  rw [Line.learnPending, he] at pending
  exact Estimator.passOver_of_none pending

/-- A call dropped from an empty queue unit: the timers that the line tick raised go with it. -/
theorem Line.dropped_ticked (empty : l.queue = .empty) (mode : LineMode) :
    l.ticked.dropped mode = l.dropped mode := by
  unfold Line.dropped Line.ticked
  cases l
  cases empty
  rfl

theorem Line.dropped_of_noLearn (h : l.learnPending = none) (mode : LineMode) :
    l.dropped mode =
      { l with
        mode := mode, hold := false, decoder := .atRest, firstDigit := none, call := none
        estimator := l.estimator.map fun e => { e with learnMark := false } } := by
  unfold Line.dropped
  rw [passOver_of_noLearn h]

/-- What the timers find on a line whose call has been dropped. -/
theorem TimersRest.of_dropped (inactive : (u.line n).mode ≠ .active) (noRequest : u.request n = none)
    (noLearn : NoLearn n u) : TimersRest n u :=
  .of_inactive inactive noRequest (learnTest_of_none noLearn)

theorem Line.dropped_learnPending (h : l.learnPending = none) (mode : LineMode) :
    (l.dropped mode).learnPending = none := by
  unfold Line.learnPending Line.dropped
  dsimp only
  rw [passOver_of_noLearn h]
  unfold Line.learnPending at h
  cases estimator : l.estimator with
  | none => rfl
  | some e =>
    rw [estimator] at h
    exact h

theorem reportFault_sound (sound : StoreSound s) (kind : FaultKind) (n : LineNo) (detail : Nat) :
    StoreSound (reportFault kind n detail s) :=
  (reportFault_moves kind n detail s).keeps (fun _ _ => StoreSound.of_move) sound

/-- The one record of a line tick, behind what else it writes. -/
theorem Settled.recorded_after {kind : RecordKind} {body : List Word} {addr : Nat} {regions : List (Nat × Nat)}
    (h : Settled n s l u t) (sound : StoreSound v) (goes : RecordGoesTo s (body.length + 2) addr)
    (frame : StoreFrame s v regions) (capture : v.capture = s.capture)
    (written : ∀ x, u.peek x = (Machine.capture kind n body v).peek x) :
    t.words addr (body.length + 2) = recordWords kind n.val v.clock body ∧
      StoreFrame s t (regions ++ [(addr, body.length + 2), (imageAddress n, 12)]) := by
  have goes' : RecordGoesTo v (body.length + 2) addr := by
    unfold RecordGoesTo
    rw [capture]
    exact goes
  have recorded := capture_frame kind n body goes'
  obtain ⟨high, -⟩ := recordAddress_bounds goes
  have outside := pageAddress_outside_image n high
  refine ⟨?_, fun x apart => ?_⟩
  · rw [← capture_words kind n body sound goes']
    exact State.words_congr fun i _ => (h.peek _ (.inr (by omega))).trans (written _)
  · rw [h.peek x (apart (imageAddress n, 12) (by simp)), written,
      recorded x (by simpa using apart (addr, body.length + 2) (by simp)),
      frame x fun r hr => apart r (List.mem_append_left _ hr)]

theorem expireFirstDigit_reports (n : LineNo) (s : State) :
    Reports (dropCall n .lockout s) (expireFirstDigit n s) :=
  (reportFault_reports .permanentLoop n 0 _).trans (capture_reports .lockout n _ _)

/-- A fault slot and a filling page lie apart. -/
theorem faultSlotAddress_low {k : Nat} (small : k < 8) : faultSlotAddress k + 4 ≤ 0x0C0 := by
  unfold faultSlotAddress
  omega

theorem imageAddress_low (n : LineNo) : 0x400 ≤ imageAddress n := by
  unfold imageAddress
  omega

/-- Settles O11, by the first-digit test, which drops the call and reports. -/
theorem firstDigitExpiryLocksOut : Obligations.FirstDigitExpiryLocksOut := by
  unfold Obligations.FirstDigitExpiryLocksOut
  intro n high sc tm s addr k sound mute tick active waits timer expires empty unserved noLearn goes faults
  obtain ⟨-, noRequest⟩ := unserved
  have row := tick.takes.row (e := .firstDigitExpiry)
    (decodes_nothing high { sc with run := 0, candidate := none } active waits)
  have ticked := Line.taken_ticked noLearn high sc
  have pending : ((s.line n).taken high { sc with run := 0, candidate := none }).learnPending = none := by
    rw [ticked]; exact noLearn
  rw [ticked] at row pending
  have running : ((s.line n).sampled high sc).ticked.firstDigit = some { tm with count := tm.count + 1 } := by
    show (s.line n).firstDigit.map _ = _
    rw [timer]; rfl
  have dropped := Line.dropped_ticked (l := (s.line n).sampled high sc) empty .lockout
  rw [Line.dropped_of_noLearn (l := (s.line n).sampled high sc) noLearn .lockout] at dropped
  have noLearn' := Line.dropped_learnPending pending .lockout
  have learn : learnTest n (s.atTick n ((s.line n).sampled high sc).ticked) = quietly _ :=
    learnTest_of_none (by rw [NoLearn, State.atTick_line_same]; exact pending)
  have mode : ((s.line n).sampled high sc).ticked.mode = .active := active
  generalize ((s.line n).sampled high sc).ticked = l at *
  have drop := dropCall_atTick s n l .lockout
  have ends := firstDigitTest_ends (s := s.atTick n l) (n := n) (tm := { tm with count := tm.count + 1 })
    (by rw [State.atTick_line_same]; exact mode) (by rw [State.atTick_line_same]; exact running) expires
  unfold expireFirstDigit at ends
  rw [drop] at ends
  have inactive : (l.dropped .lockout).mode ≠ .active := nofun
  generalize l.dropped .lockout = l' at *
  have reports := reportFault_reports .permanentLoop n 0 (s.atTick n l')
  have form := reportFault_form (s := s.atTick n l') (kind := .permanentLoop) (n := n) (detail := 0) faults
  have words := reportFault_words (s := s.atTick n l') (kind := .permanentLoop) (n := n) (detail := 0) sound faults
  have frame := reportFault_frame (s := s.atTick n l') (kind := .permanentLoop) (n := n) (detail := 0) faults
  have sound' := reportFault_sound (s := s.atTick n l') sound .permanentLoop n 0
  have clock : (reportFault .permanentLoop n 0 (s.atTick n l')).clock = s.clock := reports.clock
  have captured : (reportFault .permanentLoop n 0 (s.atTick n l')).capture = s.capture := by rw [form]; rfl
  have caused : (reportFault .permanentLoop n 0 (s.atTick n l')).causes = { s.causes with fault := true } := by
    rw [form]; rfl
  generalize reportFault .permanentLoop n 0 (s.atTick n l') = v at *
  have locked := reports.trans (capture_reports .lockout n (lockoutBody .firstDigit) v)
  have rest : TimersRest n (capture .lockout n (lockoutBody .firstDigit) v) :=
    .of_dropped (by rw [locked.line, State.atTick_line_same]; exact inactive)
      (by rw [locked.request, State.atTick_request, noRequest]; rfl)
      (by rw [NoLearn, locked.line, State.atTick_line_same]; exact noLearn')
  obtain ⟨held, final⟩ := timerTests_of_firstDigit ends learn rest
  have next := row (.inr held)
  dsimp only [quietly] at next
  rw [final] at next
  have settled := locked.settled mute
  have goes' : RecordGoesTo v 3 addr := by
    unfold RecordGoesTo
    rw [captured]
    exact goes
  obtain ⟨record, stored⟩ := settled.recorded_after (v := v) (kind := .lockout) (body := lockoutBody .firstDigit)
    sound' goes frame captured fun _ => rfl
  have line := settled.line
  rw [State.muteOn_of_inactive (by rw [State.atTick_line_same]; exact inactive), dropped] at line
  obtain ⟨small, -⟩ := faults.2
  have low := faultSlotAddress_low small
  have image := imageAddress_low n
  obtain ⟨page, -⟩ := recordAddress_bounds goes
  have causes : (capture .lockout n (lockoutBody .firstDigit) v).causes = { s.causes with fault := true } := by
    rw [capture_goes (addr := addr) .lockout n _ goes', caused]
  have written := capture_frame .lockout n (lockoutBody .firstDigit) goes'
  refine ⟨_, next, line, ?_, record.trans (by rw [clock]; exact lockoutWords n s.clock 1), settled.other, stored, ?_⟩
  · refine Eq.trans ?_ words
    refine State.words_congr fun i hi => (settled.peek _ (.inl (by omega))).trans (written _ fun r hr => ?_)
    obtain rfl := List.mem_singleton.mp hr
    exact .inl (by dsimp only; omega)
  · have form := settled.form
    rw [State.requestsTicked_of_none noRequest, causes] at form
    have sameCapture := congrArg State.capture form
    dsimp only at sameCapture
    rw [← sameCapture] at form
    exact form

end Sys2Proof.Machine
end

section
/-! The clear. Settles O13, O19. -/

namespace Sys2Proof.Machine

variable {s t u v : State} {n m : LineNo} {high : Bool} {sc sc' : Scan} {l l' : Line} {edge : Option Edge}
  {w : Ticked} {e : Estimator} {x : Learn} {r : OrderRecord} {addr : Nat}

/-! ### The call's end -/

/-- The line of a call that has been cleared: dropped with its queue unit. -/
def Line.cleared (l : Line) : Line := { l.dropped .idle with queue := .empty }

/-- A clear before its record. -/
def callCleared (n : LineNo) (s : State) : State := releaseSender n (dropCall n .idle (discardQueue n s))

/-- The body of the record of a clear. -/
def Line.clearRecord (l : Line) : List Word :=
  clearBody l.queue.discardCount (decide (0 < l.decoder.pulses)) l.digits

theorem clearCall_eq (n : LineNo) (s : State) :
    clearCall n s = capture .clear n (s.line n).clearRecord (callCleared n s) := rfl

theorem dropCall_line (n : LineNo) (mode : LineMode) (s : State) :
    (dropCall n mode s).line n = (s.line n).dropped mode := by
  unfold dropCall trainWithoutDigit
  rw [State.modLine_line_same, State.modEstimator_line_same]
  rfl

/-- A grant takes nothing from a line with nothing queued. -/
theorem grantOnce_line_of_empty (empty : (s.line n).queue.entries = []) : (grantOnce s).line n = s.line n := by
  generalize grant : grantOnce s = t
  cases grant ▸ grantOnce_granted s with
  | held => rfl
  | full => rfl
  | binds k r clear free best =>
    by_cases same : n = r.line
    · unfold bindSender
      rw [State.setWaitList_line, ← same, empty]
      rfl
    · rw [bindSender_line_other k _ same]
      rfl

theorem releaseSender_line_of_empty (empty : (s.line n).queue.entries = []) :
    (releaseSender n s).line n = s.line n := by
  unfold releaseSender
  split
  · exact grantOnce_line_of_empty (s := s.setSender _ none) empty
  · rfl

theorem callCleared_line (n : LineNo) (s : State) : (callCleared n s).line n = (s.line n).cleared := by
  have dropped := dropCall_line n .idle (discardQueue n s)
  rw [discardQueue_line_same] at dropped
  unfold callCleared
  rw [releaseSender_line_of_empty (by rw [dropped]; rfl), dropped]
  rfl

theorem clearCall_line (n : LineNo) (s : State) : (clearCall n s).line n = (s.line n).cleared := by
  rw [clearCall_eq, capture_line, callCleared_line]

theorem callCleared_ownerWork (n : LineNo) (s : State) : OwnerWork s (callCleared n s) :=
  ((discardQueue_ownerWork n s).trans (setLine_ownerWork _ n _)).trans
    ((setLine_ownerWork _ n _).trans (releaseSender_sends n _).ownerWork)

theorem callCleared_store (n : LineNo) (s : State) :
    (callCleared n s).store = (discardQueue n s).store ∧ (callCleared n s).board = (discardQueue n s).board ∧
      (callCleared n s).causes = (discardQueue n s).causes := by
  obtain ⟨-, -, -, -, -, -, board, -, -, causes, store⟩ :=
    (releaseSender_sends n (dropCall n .idle (discardQueue n s))).keeps
  exact ⟨store, board, causes⟩

theorem callCleared_sound (sound : StoreSound s) (n : LineNo) : StoreSound (callCleared n s) := by
  rw [StoreSound, (callCleared_store n s).1]
  exact discardQueue_sound sound n

theorem callCleared_ends (sound : StoreSound s) (targets : MarkTargetsSound s)
    (order : (s.line n).queue.order = some r) :
    SlotShows (callCleared n s) r.slot slotDone .callEnded r.sent ∧
      (callCleared n s).slotHeld r.slot = false ∧ (callCleared n s).causes.order = true := by
  obtain ⟨store, board, causes⟩ := callCleared_store n s
  obtain ⟨⟨state, result⟩, held⟩ := discardQueue_ends sound targets order
  obtain ⟨-, -, raised⟩ := endQueueOrder_ends (s := withdrawRequest n s) (n := n)
    (by rw [StoreSound, withdrawRequest_store]; exact sound)
    (by rw [MarkTargetsSound, withdrawRequest_board]; exact targets)
    ((withdrawRequest_order n s).trans order) .callEnded
  refine ⟨⟨(State.peek_congr store _).trans state, (State.peek_congr store _).trans result⟩, ?_, ?_⟩
  · rw [State.slotHeld, board]; exact held
  · rw [causes]; exact raised

/-- A clear with nothing of the pool or of the board to end. -/
theorem callCleared_alone (s : State) (n : LineNo) (l : Line) (calm : l.queue.waiting = false)
    (order : l.queue.order = none) (noSender : s.boundSender n = none) :
    callCleared n (s.atTick n l) = s.atTick n l.cleared := by
  have discarded : discardQueue n (s.atTick n l) = s.atTick n { l with queue := .empty } := by
    unfold discardQueue
    rw [withdrawRequest_of_calm (by rw [State.atTick_line_same]; exact calm),
      endQueueOrder_of_none (by rw [State.atTick_line_same]; exact order)]
    unfold State.modQueue
    rw [State.atTick_modLine, State.atTick_modLine]
  unfold callCleared
  rw [discarded, dropCall_atTick]
  unfold releaseSender
  rw [State.atTick_boundSender, noSender]
  rfl

/-! ### The pool through a line tick -/

theorem PoolSound.atTick_taken (h : PoolSound s) (n : LineNo) (high : Bool) (sc : Scan) :
    PoolSound (s.atTick n ((s.line n).taken high sc)) := by
  have base : PoolSound ((s.setScanBus (s.noteSample n)).setLine n
      { s.line n with raw := high, scan := some sc }) := by
    refine h.of_same (fun m => ?_) rfl rfl
    rw [State.setLine_line]
    split
    · next same => rw [same]; rfl
    · rfl
  rw [← Line.raiseTimers_taken, ← raiseTimers_setLine]
  exact base.raiseTimers n

/-! ### The test of an open break -/

theorem breakTest_clears (sub : (s.line n).decoder.sub = .inBreak) (opened : (s.line n).level = some .opened)
    (long : (s.line n).decoder.limit (·.flashMax) ≤ (s.line n).decoder.sinceBreak s.clock) :
    breakTest n s = noting .clear (clearCall n s) :=
  if_pos ⟨sub, opened, long⟩

/-- A steady open break of an ACTIVE line that has reached flash_max. -/
theorem superviseTick_clears (opened : sc.level = .opened)
    (active : (s.line n).mode = .active) (sub : (s.line n).decoder.sub = .inBreak)
    (long : (s.line n).decoder.limit (·.flashMax) ≤ (s.line n).decoder.sinceBreak s.clock) :
    let x := s.atTick n ((s.line n).taken high { sc with run := 0, candidate := none })
    superviseTick n none x = noting .clear (clearCall n x) := by
  have line := s.atTick_line_same n ((s.line n).taken high { sc with run := 0, candidate := none })
  intro x
  have verdict : breakTest n x = noting .clear (clearCall n x) :=
    breakTest_clears (by rw [line]; exact sub) (by rw [line, Line.level]; exact congrArg some opened)
      (by rw [line]; exact long)
  exact ((superviseTick_active (by rw [line]; exact active) none).trans
    (decodeTick_break (by rw [line]; exact sub))).trans verdict

theorem clearRecord_words (n : LineNo) (time : Tick) (room : l.queue.entries.length ≤ 24) :
    recordWords .clear n.val time l.clearRecord =
      [asWord (0x5400 + n.val), time,
        asWord (l.queue.entries.length + l.queue.flight.isSome.toNat
          + (if 0 < l.decoder.pulses then 256 else 0)), asWord l.digits] := by
  have flight : l.queue.flight.isSome.toNat ≤ 1 := Bool.toNat_le _
  have small : l.queue.discardCount % 32 = l.queue.entries.length + l.queue.flight.isSome.toNat :=
    Nat.mod_eq_of_lt (by unfold QueueUnit.discardCount; omega)
  rw [recordWords_eq]
  unfold Line.clearRecord clearBody
  rw [small]
  by_cases some : 0 < l.decoder.pulses <;> simp [recordValue, some]

end Sys2Proof.Machine
end

section
/-! The clear and the LEARN's expiry. Settles O13, O19. -/

namespace Sys2Proof.Machine

variable {s t u v : State} {n m : LineNo} {high : Bool} {sc sc' : Scan} {l l' : Line} {edge : Option Edge}
  {w : Ticked} {e : Estimator} {x : Learn} {r : OrderRecord} {addr : Nat}
  {slot : SlotNo} {code : ResultCode} {detail : Nat}

/-! ### The clear with its record -/

theorem Line.cleared_taken (noLearn : l.learnPending = none) (high : Bool) (sc : Scan) :
    (l.taken high { sc with run := 0, candidate := none }).cleared =
      { l.sampled high sc with
        mode := .idle, hold := false, call := none, firstDigit := none, decoder := .atRest
        estimator := l.estimator.map fun e => { e with learnMark := false }, queue := .empty } := by
  rw [Line.taken_ticked noLearn]
  unfold Line.cleared
  rw [Line.dropped_of_noLearn (l := (l.sampled high sc).ticked) noLearn]
  rfl

theorem callCleared_capture (n : LineNo) (s : State) :
    (callCleared n s).capture = s.capture ∧ (callCleared n s).clock = s.clock := by
  obtain ⟨-, capture, -, timeBase, -, -⟩ := (callCleared_ownerWork n s).keeps
  exact ⟨capture, congrArg TimeBase.clock timeBase⟩

/-- The record of a clear, and that no word before the capture pages moves with it. -/
theorem clearCall_records (sound : StoreSound s) (room : (s.line n).queue.entries.length ≤ 24)
    (goes : RecordGoesTo s 4 addr) :
    (clearCall n s).words addr 4 =
        [asWord (0x5400 + n.val), s.clock,
          asWord ((s.line n).queue.entries.length + (s.line n).queue.flight.isSome.toNat
            + (if 0 < (s.line n).decoder.pulses then 256 else 0)), asWord (s.line n).digits] ∧
      StoreFrame (callCleared n s) (clearCall n s) [(addr, 4)] ∧
      clearCall n s = { callCleared n s with
        store := (clearCall n s).store, capture := (callCleared n s).capture.placed 4 } := by
  obtain ⟨sameCapture, clock⟩ := callCleared_capture n s
  have goes' : RecordGoesTo (callCleared n s) 4 addr := by
    unfold RecordGoesTo
    rw [sameCapture]
    exact goes
  have words := capture_words .clear n (s.line n).clearRecord (callCleared_sound sound n) goes'
  rw [clock] at words
  exact ⟨words.trans (clearRecord_words n s.clock room), capture_frame .clear n (s.line n).clearRecord goes',
    capture_goes .clear n (s.line n).clearRecord goes'⟩

theorem clearCall_unserved (pool : PoolSound s) (n : LineNo) : Unserved n (clearCall n s) := by
  have inactive : ((callCleared n s).line n).mode ≠ .active := by rw [callCleared_line]; nofun
  obtain ⟨bound, request⟩ := (pool.callClears n).unserved inactive
  have reports := capture_reports .clear n (s.line n).clearRecord (callCleared n s)
  rw [clearCall_eq]
  exact ⟨(reports.boundSender n).trans bound, (reports.request n).trans request⟩

theorem clearCall_inactive (n : LineNo) (s : State) : ((clearCall n s).line n).mode ≠ .active := by
  rw [clearCall_line]
  nofun

/-- The words of a capture page are settled as they stand. -/
theorem settle_words_page (s u : State) {a k : Nat} (page : 0xA00 ≤ a) :
    (settle s u).words a k = u.words a k :=
  State.words_congr fun i _ => settle_peek_other s u (a + i) <| Bool.eq_false_iff.mpr fun shown => by
    have := (shownAddress_iff _).mp shown
    omega

/-- What the end of the line tick of a clear shows of it. -/
theorem clearCall_settles (sound : StoreSound u) (targets : MarkTargetsSound u) (pool : PoolSound u)
    (goes : RecordGoesTo u 4 addr) (n : LineNo) (s : State) :
    (settle s (clearCall n u)).line n = { (u.line n).cleared with mute := false } ∧
      Unserved n (settle s (clearCall n u)) ∧
      (settle s (clearCall n u)).words addr 4 =
        [asWord (0x5400 + n.val), u.clock,
          asWord ((u.line n).queue.entries.length + (u.line n).queue.flight.isSome.toNat
            + (if 0 < (u.line n).decoder.pulses then 256 else 0)), asWord (u.line n).digits] ∧
      ∀ r : OrderRecord, (u.line n).queue.order = some r →
        SlotShows (settle s (clearCall n u)) r.slot slotDone .callEnded r.sent ∧
          (settle s (clearCall n u)).slotHeld r.slot = false ∧ (settle s (clearCall n u)).causes.order = true := by
  obtain ⟨words, frame, form⟩ := clearCall_records sound (pool.1 n).1 goes
  obtain ⟨page, -⟩ := recordAddress_bounds goes
  refine ⟨?_, ?_, (settle_words_page s _ page).trans words, fun r order => ?_⟩
  · rw [settle_line, clearCall_line, State.muteOn_of_inactive (clearCall_inactive n u)]
  · obtain ⟨bound, request⟩ := clearCall_unserved pool n
    refine ⟨(settle_boundSender s _ n).trans bound, ?_⟩
    unfold State.request
    rw [(settle_keeps s (clearCall n u)).2.1]
    exact request
  · obtain ⟨⟨state, result⟩, held, raised⟩ := callCleared_ends sound targets order
    have low := r.slot.isLt
    have shows (x : Nat) (below : x < 0xA00) : (clearCall n u).peek x = (callCleared n u).peek x :=
      frame x fun region hr => by
        obtain rfl := List.mem_singleton.mp hr
        exact .inl (by dsimp only; omega)
    refine ⟨SlotShows.settle ⟨(shows _ ?_).trans state, (shows _ ?_).trans result⟩ s, ?_, ?_⟩
    iterate 2 unfold slotAddress; omega
    · rw [settle_slotHeld, form]
      exact held
    · rw [settle_causes, form]
      exact raised

/-- Settles O13: the call's parts end one by one, its record is placed behind them, and nothing is left to expire. -/
theorem clearEndsTheCall : Obligations.ClearEndsTheCall := by
  unfold Obligations.ClearEndsTheCall
  intro n high sc s addr sound pool targets tick opened active sub long noLearn goes
  have row := tick.takes.row (e := .clear) (superviseTick_clears opened active sub long)
  have cleared := Line.cleared_taken noLearn high sc
  have line := s.atTick_line_same n ((s.line n).taken high { sc with run := 0, candidate := none })
  have settled := clearCall_settles (u := s.atTick n ((s.line n).taken high { sc with run := 0, candidate := none }))
    sound targets (pool.atTick_taken n high { sc with run := 0, candidate := none }) goes n s
  have unserved := clearCall_unserved (pool.atTick_taken n high { sc with run := 0, candidate := none }) n
  have noLearn' : NoLearn n (clearCall n (s.atTick n ((s.line n).taken high { sc with run := 0, candidate := none }))) := by
    rw [NoLearn, clearCall_line, line]
    refine Line.dropped_learnPending ?_ .idle
    rw [Line.taken_learnPending, Line.learnTicked_of_none noLearn]
    exact noLearn
  have alone := callCleared_alone s n ((s.line n).taken high { sc with run := 0, candidate := none })
  rw [line, cleared] at settled
  rw [cleared] at alone
  obtain ⟨entries, flight, order, waiting, decoder, digits⟩ :
      ((s.line n).taken high { sc with run := 0, candidate := none }).queue.entries = (s.line n).queue.entries ∧
        ((s.line n).taken high { sc with run := 0, candidate := none }).queue.flight = (s.line n).queue.flight ∧
        ((s.line n).taken high { sc with run := 0, candidate := none }).queue.order = (s.line n).queue.order ∧
        ((s.line n).taken high { sc with run := 0, candidate := none }).queue.waiting = (s.line n).queue.waiting ∧
        ((s.line n).taken high { sc with run := 0, candidate := none }).decoder = (s.line n).decoder ∧
        ((s.line n).taken high { sc with run := 0, candidate := none }).digits = (s.line n).digits :=
    ⟨rfl, rfl, rfl, rfl, rfl, rfl⟩
  generalize (s.line n).taken high { sc with run := 0, candidate := none } = l at *
  rw [entries, flight, order, decoder, digits] at settled
  have rest : TimersRest n (clearCall n (s.atTick n l)) :=
    .of_dropped (clearCall_inactive n _) unserved.2 noLearn'
  have next := row (.inl (List.mem_singleton_self _))
  dsimp only [noting] at next
  rw [rest.tests] at next
  obtain ⟨final, free, words, ended⟩ := settled
  refine ⟨_, next, final, free, words, ended, fun mute noOrder idle => ?_⟩
  dsimp only [quietly]
  have calm := waiting.trans (pool.calm_of_unserved idle)
  rw [clearCall_eq, alone calm (order.trans noOrder) idle.1, State.atTick_line_same]
  generalize Line.mk .. = l' at *
  have reports := capture_reports .clear n l.clearRecord (s.atTick n l')
  have settled := reports.settled mute
  obtain ⟨-, frame⟩ := settled.recorded (v := s.atTick n l') (kind := .clear) (body := l.clearRecord)
    sound goes rfl rfl rfl fun _ => rfl
  have causes : (capture .clear n l.clearRecord (s.atTick n l')).causes = s.causes := by
    rw [capture_goes (s := s.atTick n l') .clear n l.clearRecord goes]
    rfl
  exact ⟨settled.other, frame, settled.form_of_record causes idle.2⟩

/-! ### The LEARN that expires at a clear -/

theorem clearCall_keeps_targets (targets : MarkTargetsSound s) (n : LineNo) (on : Decoding n s) :
    MarkTargetsSound (clearCall n s) :=
  (clearCall_acts n s on).moves.keeps (fun _ _ => .of_move) targets

theorem clearCall_sound (sound : StoreSound s) (n : LineNo) : StoreSound (clearCall n s) :=
  capture_sound (callCleared_sound sound n) .clear n (by simp [clearBody]) (by simp [clearBody])

theorem reportFault_order (kind : FaultKind) (n : LineNo) (detail : Nat) (s : State) :
    (reportFault kind n detail s).board = s.board ∧
      (reportFault kind n detail s).causes.order = s.causes.order := by
  unfold reportFault
  split
  · split <;> exact ⟨rfl, rfl⟩
  · exact ⟨rfl, rfl⟩

/-- The test of a request's wait touches neither the board nor a word but those of faults. -/
theorem waitTest_order (n : LineNo) (s : State) :
    (waitTest n s).state.board = s.board ∧ (waitTest n s).state.causes.order = s.causes.order ∧
      ∀ a, a ≠ 0x005 → a < 0x0A0 ∨ 0x0C0 ≤ a → (waitTest n s).state.peek a = s.peek a := by
  unfold waitTest
  split
  · next r _ =>
    split
    · obtain ⟨board, order⟩ := reportFault_order .senderWait n r.age s
      exact ⟨board, order, fun a => reportFault_peek_other .senderWait n r.age s⟩
    · exact ⟨rfl, rfl, fun _ _ _ => rfl⟩
  · exact ⟨rfl, rfl, fun _ _ _ => rfl⟩

theorem SlotShows.waitTest {value : Word} (h : SlotShows s slot value code detail) (n : LineNo) :
    SlotShows (waitTest n s).state slot value code detail := by
  obtain ⟨-, -, peek⟩ := waitTest_order n s
  obtain ⟨state, result⟩ := h
  have small := slot.isLt
  have first : slotAddress slot = 0x020 + 8 * slot.val := rfl
  exact ⟨(peek _ (by omega) (.inl (by omega))).trans state, (peek _ (by omega) (.inl (by omega))).trans result⟩

/-- A LEARN that expires on a line with no call ends the tests but for a request's wait. -/
theorem timerTests_of_inactive_learn (inactive : (s.line n).mode ≠ .active)
    (pending : (s.line n).learnPending = some x) (expired : x.timer.limit ≤ x.timer.count)
    (sound : StoreSound s) (targets : MarkTargetsSound s) (before : State) :
    .learnExpiry ∈ (timerTests n s).events ∧
      (timerTests n s).state.line n = (s.modEstimator n Estimator.dropLearn).line n ∧
      SlotShows (settle before (timerTests n s).state) x.slot slotDone .notLearned x.passedOver ∧
      (settle before (timerTests n s).state).slotHeld x.slot = false ∧
      (settle before (timerTests n s).state).causes.order = true := by
  have ends := learnTest_ends pending expired
  have dropped : (s.modEstimator n Estimator.dropLearn).line n =
      { s.line n with estimator := (s.line n).estimator.map Estimator.dropLearn } :=
    s.modEstimator_line_same n _
  have shows := completeOrder_shows (s := s.modEstimator n Estimator.dropLearn) sound targets
    x.slot .notLearned x.passedOver
  have free := completeOrder_slotHeld x.slot .notLearned x.passedOver (s.modEstimator n Estimator.dropLearn)
  have raised := completeOrder_order x.slot .notLearned x.passedOver (s.modEstimator n Estimator.dropLearn)
  have line := (completeOrder_answers x.slot .notLearned x.passedOver
    (s.modEstimator n Estimator.dropLearn)).line n
  generalize completeOrder x.slot .notLearned x.passedOver (s.modEstimator n Estimator.dropLearn) = u at *
  have inactive' : (u.line n).mode ≠ .active := by rw [line, dropped]; exact inactive
  obtain ⟨held, final⟩ := timerTests_of_learn (firstDigitTest_of_inactive inactive) ends
    (gatherTest_of_inactive inactive') (executionTest_of_inactive inactive')
  obtain ⟨board, order, -⟩ := waitTest_order n u
  rw [final]
  refine ⟨held, (waitTest_line n n u).trans line, (shows.waitTest n).settle before, ?_, ?_⟩
  · rw [settle_slotHeld, State.slotHeld, board]
    exact free
  · rw [settle_causes, order]
    exact raised

theorem Line.cleared_learn (estimator : l.estimator = some e) (learn : e.learn = some x) (mark : e.learnMark = true)
    (high : Bool) (sc : Scan) :
    (l.taken high sc).cleared.estimator =
      some { e with
        learnMark := false
        learn := some { x with
          timer := { x.timer with count := x.timer.count + 1 }, passedOver := min 4095 (x.passedOver + 1) } } := by
  have taken := Line.taken_learn estimator learn high sc
  show (l.taken high sc).estimator.map Estimator.passOver = _
  rw [taken]
  simp [Estimator.passOver, mark, saturate_eq_min]

theorem learnExpiry_atClear (n : LineNo) (high : Bool) (sc : Scan) (e : Estimator) (x : Learn) (s : State)
    (sound : StoreSound s) (targets : MarkTargetsSound s) (tick : SteadyTick n high sc s)
    (opened : sc.level = .opened) (active : (s.line n).mode = .active) (sub : (s.line n).decoder.sub = .inBreak)
    (long : (s.line n).decoder.limit (·.flashMax) ≤ (s.line n).decoder.sinceBreak s.clock)
    (estimator : (s.line n).estimator = some e) (learn : e.learn = some x) (mark : e.learnMark = true)
    (expires : x.timer.limit ≤ x.timer.count + 1) :
    ∃ t, exec (.clear n high) s = .next t ∧ exec (.learnExpiry n high) s = .next t ∧
      (t.line n).mode = .idle ∧
      (t.line n).estimator = some { e with learnMark := false, learn := none } ∧
      SlotShows t x.slot slotDone .notLearned (min 4095 (x.passedOver + 1)) ∧
      t.slotHeld x.slot = false ∧ t.causes.order = true := by
  have supervised := superviseTick_clears (high := high) opened active sub long
  have clears := tick.takes.row (e := .clear) supervised
  have row := tick.takes.row (e := .learnExpiry) supervised
  have estimated := Line.cleared_learn estimator learn mark high { sc with run := 0, candidate := none }
  have line := clearCall_line n (s.atTick n ((s.line n).taken high { sc with run := 0, candidate := none }))
  have inactive := clearCall_inactive n (s.atTick n ((s.line n).taken high { sc with run := 0, candidate := none }))
  have sound' := clearCall_sound (s := s.atTick n ((s.line n).taken high { sc with run := 0, candidate := none }))
    sound n
  have targets' := clearCall_keeps_targets
    (s := s.atTick n ((s.line n).taken high { sc with run := 0, candidate := none })) targets n
    (.inl (by rw [State.atTick_line_same]; exact active))
  rw [State.atTick_line_same] at line
  rw [← line] at estimated
  have mode : ((clearCall n (s.atTick n ((s.line n).taken high { sc with run := 0, candidate := none }))).line n).mode
      = .idle := by rw [line]; rfl
  dsimp only [noting] at clears row
  generalize clearCall n (s.atTick n ((s.line n).taken high { sc with run := 0, candidate := none })) = u at *
  obtain ⟨held, final, shows, free, raised⟩ := timerTests_of_inactive_learn inactive
    (Line.learnPending_of estimated rfl) expires sound' targets' s
  refine ⟨_, clears (.inl (List.mem_singleton_self _)), row (.inr held), ?_, ?_, shows, free, raised⟩
  · rw [settle_line, final, State.modEstimator_line_same]
    exact mode
  · rw [settle_line, final, State.modEstimator_line_same]
    show (u.line n).estimator.map Estimator.dropLearn = _
    rw [estimated]
    rfl

/-- Settles O19: the LEARN's test, in a line tick that decides nothing else and behind a clear. -/
theorem learnExpires : Obligations.LearnExpires := by
  unfold Obligations.LearnExpires
  exact ⟨fun n high sc e x s sound mute targets tick _ => learnExpiry_alone n high sc e x s sound mute targets tick,
    learnExpiry_atClear⟩

end Sys2Proof.Machine
end

section
/-! Recall breaks, recall guards and pauses run their course (R31, R110, R111, R113, R115). Settles O17. -/

namespace Sys2Proof.Machine

variable {s t u v : State} {n m : LineNo} {high : Bool} {sc sc' : Scan} {l l' : Line} {edge : Option Edge}
  {w : Ticked} {f : Flight} {c : CallContext} {t0 : Tick} {slot : SlotNo} {sent : Nat}

/-! ### The tests before that of the execution -/

/-- The line tick before the test of its execution. -/
def gathered (n : LineNo) (s : State) : State := (gatherTest n (learnTest n s).state).state

theorem timerTests_of_execution (firstDigit : firstDigitTest n s = quietly s)
    (execution : executionTest n (gathered n s) = w) :
    (timerTests n s).state = (waitTest n w.state).state ∧ ∀ e ∈ w.events, e ∈ (timerTests n s).events := by
  unfold timerTests gathered at *
  rw [expiryTests_of_rest firstDigit]
  simp only [Ticked.andThen, execution, true_and]
  intro e held
  simp [held]

/-- With an entry in flight the gather wait satisfies the gather alone. -/
theorem gatherTest_in_flight (flight : (s.line n).queue.flight.isSome = true) :
    (gatherTest n s).state = s ∨ (gatherTest n s).state = s.modQueue n QueueUnit.satisfy := by
  unfold gatherTest
  split
  · exact .inr (satisfyGather_of_idle (.inl flight))
  · exact .inl rfl

theorem learnTest_clock (n : LineNo) (s : State) : (learnTest n s).state.clock = s.clock := by
  unfold learnTest
  split
  · show (endLearn n .notLearned (·.passedOver) s).clock = s.clock
    cases pending : (s.line n).learnPending with
    | none => rw [endLearn_of_none pending]
    | some x =>
      rw [endLearn_of_pending pending]
      obtain ⟨-, -, timeBase, -⟩ :=
        (completeOrder_answers x.slot .notLearned x.passedOver (s.modEstimator n Estimator.dropLearn)).keeps
      exact congrArg TimeBase.clock timeBase
  · rfl

/-- A line as a line tick may have left it before it tests its execution: a LEARN ended, a gather satisfied. -/
structure Line.TestedAs (l l' : Line) : Prop where
  line : l' = { l with queue := l'.queue, estimator := l'.estimator }
  queue : l'.queue = { l.queue with satisfied := l'.queue.satisfied, gatherTimer := l'.queue.gatherTimer }

theorem Line.TestedAs.satisfy {E : Option Estimator} (line : l' = { l with estimator := E }) :
    l.TestedAs { l' with queue := l'.queue.satisfy } := by
  subst line
  exact ⟨rfl, rfl⟩

theorem gathered_line (flight : (s.line n).queue.flight.isSome = true) :
    (s.line n).TestedAs ((gathered n s).line n) ∧ (gathered n s).clock = s.clock := by
  obtain ⟨⟨E, line⟩, -⟩ := learnTest_line n s
  have clock := learnTest_clock n s
  unfold gathered
  generalize (learnTest n s).state = u at *
  obtain same | satisfied := gatherTest_in_flight (s := u) (n := n) (by rw [line]; exact flight)
  · rw [same]
    exact ⟨by rw [line]; exact ⟨rfl, rfl⟩, clock⟩
  · rw [satisfied]
    refine ⟨?_, clock⟩
    rw [State.modQueue_line_same]
    exact .satisfy line

/-- With no LEARN to end, the tests before that of the execution touch the gather alone. -/
theorem gathered_atTick (flight : l.queue.flight.isSome = true)
    (learn : learnTest n (s.atTick n l) = quietly (s.atTick n l)) :
    ∃ l', gathered n (s.atTick n l) = s.atTick n l' ∧
      l' = { l with queue := l'.queue } ∧
      l'.queue = { l.queue with satisfied := l'.queue.satisfied, gatherTimer := l'.queue.gatherTimer } ∧
      (gatherTest n (s.atTick n l) = quietly (s.atTick n l) → l' = l) := by
  unfold gathered
  rw [learn]
  dsimp only [quietly]
  have line := s.atTick_line_same n l
  obtain same | satisfied := gatherTest_in_flight (s := s.atTick n l) (n := n) (by rw [line]; exact flight)
  · exact ⟨l, same, rfl, rfl, fun _ => rfl⟩
  · refine ⟨{ l with queue := l.queue.satisfy }, satisfied.trans (s.atTick_modLine n l _), rfl, rfl, fun quiet => ?_⟩
    rw [quiet] at satisfied
    have same := congrArg (fun v => State.line v n) satisfied
    dsimp only [quietly] at same
    rw [State.modQueue_line_same, line] at same
    exact same.symm

/-! ### The ends of executions -/

theorem guardTest_ends (call : (s.line n).call = some c) (passed : c.recallGuard ≤ since s.clock t0) :
    guardTest n t0 s = noting .recallFinished (executionFinished n s) := by
  unfold guardTest
  rw [call]
  exact if_pos passed

theorem guardTest_runs (call : (s.line n).call = some c) (short : since s.clock t0 < c.recallGuard) :
    guardTest n t0 s = quietly s := by
  unfold guardTest
  rw [call]
  exact if_neg (Nat.not_le.mpr short)

theorem executionTest_guards (active : (s.line n).mode = .active)
    (execution : (s.line n).queue.execution = .recallGuard t0) : executionTest n s = guardTest n t0 s := by
  unfold executionTest
  rw [if_neg (not_not.mpr active), execution]

theorem executionTest_breaks (active : (s.line n).mode = .active)
    (execution : (s.line n).queue.execution = .recallBreak t0) (call : (s.line n).call = some c)
    (passed : c.flashOut ≤ since s.clock t0) :
    executionTest n s = (noting .recallBreakEnd (endRecallBreak n s)).andThen (guardTest n s.clock) := by
  unfold executionTest
  rw [if_neg (not_not.mpr active), execution, call]
  exact if_pos passed

theorem executionTest_pauses {len : Nat} (active : (s.line n).mode = .active)
    (execution : (s.line n).queue.execution = .pause t0) (flight : (s.line n).queue.flight = some f)
    (kind : f.entry.kind = .pause len) (passed : len ≤ since s.clock t0) :
    executionTest n s = noting .pauseFinished (executionFinished n s) := by
  have length : (s.line n).pauseLength = len := by
    unfold Line.pauseLength
    rw [flight]
    obtain ⟨⟨k, origin, owner⟩, owned⟩ := f
    obtain rfl : k = .pause len := kind
    rfl
  unfold executionTest
  rw [if_neg (not_not.mpr active), execution, length]
  exact if_pos passed

/-! ### A recall break that goes over into its guard -/

theorem recallBreak_ends (n : LineNo) (high : Bool) (sc : Scan) (c : CallContext) (t0 : Tick) (s : State)
    (tick : SteadyTick n high sc s) (inCall : InCall n c s) (waits : DecoderWaits n s)
    (execution : (s.line n).queue.execution = .recallBreak t0) (flight : (s.line n).queue.flight.isSome = true)
    (passed : c.flashOut ≤ since s.clock t0) (guard : 0 < c.recallGuard) :
    ∃ t, exec (.recallBreakEnd n high) s = .next t ∧
       (t.line n).hold = true ∧ (t.line n).mute = true ∧ (t.line n).mode = .active ∧
       (t.line n).queue.execution = .recallGuard s.clock ∧
       (t.line n).queue.flight = (s.line n).queue.flight ∧
       (t.line n).queue.entries = (s.line n).queue.entries ∧
       (t.line n).queue.order = (s.line n).queue.order := by
  obtain ⟨active, call, stopped⟩ := inCall
  have row := tick.takes.row (e := .recallBreakEnd)
    (decodes_nothing high { sc with run := 0, candidate := none } active waits)
  have line := s.atTick_line_same n ((s.line n).taken high { sc with run := 0, candidate := none })
  have quiet := firstDigitTest_ticked (s := s)
    (u := s.atTick n ((s.line n).taken high { sc with run := 0, candidate := none }))
    (by rw [FirstDigitWaits, stopped]; nofun) (by rw [line]; rfl)
  obtain ⟨tested, clock⟩ := gathered_line
    (s := s.atTick n ((s.line n).taken high { sc with run := 0, candidate := none })) (n := n)
    (by rw [line]; exact flight)
  have same := s.atTick_clock n ((s.line n).taken high { sc with run := 0, candidate := none })
  rw [line] at tested
  obtain ⟨mode, call', execution', flight', entries, order⟩ :
      ((s.line n).taken high { sc with run := 0, candidate := none }).mode = (s.line n).mode ∧
      ((s.line n).taken high { sc with run := 0, candidate := none }).call = (s.line n).call ∧
      ((s.line n).taken high { sc with run := 0, candidate := none }).queue.execution = (s.line n).queue.execution ∧
      ((s.line n).taken high { sc with run := 0, candidate := none }).queue.flight = (s.line n).queue.flight ∧
      ((s.line n).taken high { sc with run := 0, candidate := none }).queue.entries = (s.line n).queue.entries ∧
      ((s.line n).taken high { sc with run := 0, candidate := none }).queue.order = (s.line n).queue.order :=
    ⟨rfl, rfl, rfl, rfl, rfl, rfl⟩
  generalize s.atTick n ((s.line n).taken high { sc with run := 0, candidate := none }) = x at *
  generalize (s.line n).taken high { sc with run := 0, candidate := none } = l at *
  have tests := timerTests_of_execution (s := x) quiet rfl
  generalize gathered n x = g at *
  obtain ⟨testedLine, testedQueue⟩ := tested
  have gMode : (g.line n).mode = .active := by rw [testedLine]; exact mode.trans active
  have gCall : (g.line n).call = some c := by rw [testedLine]; exact call'.trans call
  have ends := executionTest_breaks (s := g) gMode (by rw [testedQueue]; exact execution'.trans execution)
    gCall (by rw [clock, same]; exact passed)
  have broken : (endRecallBreak n g).line n =
      { g.line n with hold := true, queue := { (g.line n).queue with execution := .recallGuard g.clock } } :=
    g.modLine_line_same n _
  have runs : guardTest n g.clock (endRecallBreak n g) = quietly (endRecallBreak n g) :=
    guardTest_runs (c := c) (by rw [broken]; exact gCall) (by
      show since g.clock g.clock < _
      rw [since_self]
      exact guard)
  rw [ends] at tests
  obtain ⟨final, held⟩ := tests
  rw [Ticked.andThen_state] at final
  dsimp only [noting] at final
  rw [runs] at final
  dsimp only [quietly] at final row
  have next := row (.inr (held _ (by simp [Ticked.andThen, noting])))
  rw [final] at next
  have after := (waitTest_line n n (endRecallBreak n g)).trans broken
  have muted : ((waitTest n (endRecallBreak n g)).state).muteOn n = true := by
    rw [State.muteOn_of_active (by rw [after]; exact gMode), after]
    simp [recallRunning]
  refine ⟨_, next, ?_⟩
  rw [settle_line, muted, after, clock, same]
  refine ⟨rfl, rfl, gMode, rfl, ?_, ?_, ?_⟩
  · dsimp only; rw [testedQueue]; exact flight'
  · dsimp only; rw [testedQueue]; exact entries
  · dsimp only; rw [testedQueue]; exact order

/-! ### An execution that finishes -/

theorem executionFinished_atTick (n : LineNo) (s : State) (l : Line) :
    executionFinished n (s.atTick n l) =
      examineHead n (finishFlight n (s.atTick n { l with queue := { l.queue with execution := .none } })) := by
  unfold executionFinished State.modQueue
  rw [State.atTick_modLine]

theorem State.atTick_setLine (s : State) (n : LineNo) (l l' : Line) : (s.atTick n l).setLine n l' = s.atTick n l' :=
  s.atTick_modLine n l fun _ => l'

theorem EntriesSound.atTick (h : EntriesSound s) (entries : l.queue.entries = (s.line n).queue.entries)
    (flight : l.queue.flight = (s.line n).queue.flight) : EntriesSound (s.atTick n l) := by
  intro m
  by_cases same : m = n
  · subst same
    rw [State.atTick_line_same, entries, flight]
    exact h m
  · rw [s.atTick_line_other l same]
    exact h m

theorem QueueUnit.finished_of_tested {q q' : QueueUnit}
    (h : q' = { q with satisfied := q'.satisfied, gatherTimer := q'.gatherTimer }) (f : Flight) :
    (q'.finished f).order = (q.finished f).order := by
  rw [h]
  rfl

/-- The order that ends with its last entry shows it at the end of the line tick (R113, R115). -/
theorem finishes_shows (finish : Finishes n f u v) (sound : StoreSound u) (targets : MarkTargetsSound u)
    (owned : f.owned = true)
    (order : (u.line n).queue.order = some (.inject slot sent 1) ∨
      (u.line n).queue.order = some (.release slot sent true)) (s : State) :
    let t := settle s (waitTest n (examineHead n v)).state
    SlotShows t slot slotDone .ok sent ∧ t.slotHeld slot = false ∧ t.causes.order = true := by
  obtain ⟨⟨state, result⟩, free, raised⟩ := finish.shows sound targets owned order
  obtain ⟨-, -, -, -, -, -, board, -, -, causes, store⟩ := (examineHead_sends n v).keeps
  obtain ⟨board', order', -⟩ := waitTest_order n (examineHead n v)
  have shows : SlotShows (examineHead n v) slot slotDone .ok sent :=
    ⟨(State.peek_congr store _).trans state, (State.peek_congr store _).trans result⟩
  refine ⟨(shows.waitTest n).settle s, ?_, ?_⟩
  · rw [settle_slotHeld, State.slotHeld, board', board]
    exact free
  · rw [settle_causes, order', causes]
    exact raised

/-- What the end of an execution comes to in a line tick, apart from its row. -/
def FinishedAs (n : LineNo) (c : CallContext) (f : Flight) (hold : Bool) (s t : State) : Prop :=
  (∀ slot sent, f.owned = true →
    (s.line n).queue.order = some (.inject slot sent 1) ∨ (s.line n).queue.order = some (.release slot sent true) →
    SlotShows t slot slotDone .ok sent ∧ t.slotHeld slot = false ∧ t.causes.order = true) ∧
  (GatherWaits n s → RequestWaits n s → 0 < c.senderWait →
    QueuesAs (examineHead n ((s.queueInTick n (·.finished f)).modLine n fun l => { l with hold := hold })) t) ∧
  ((s.line n).queue.entries = [] → (s.line n).queue.waiting = false →
    (t.line n).queue.execution = .none ∧ (t.line n).queue.flight = none ∧ (t.line n).hold = hold ∧
      (t.line n).queue.order = ((s.line n).queue.finished f).order)

theorem queueInTick_done (high : Bool) (sc : Scan) (mode : l.mode = (s.line n).mode) (call : l.call = (s.line n).call)
    (queue : l.queue = ((s.line n).taken high sc).queue.finished f) :
    SendsAlike ((s.queueInTick n (·.finished f)).modLine n fun k => { k with hold := l.hold }) (s.atTick n l) := by
  have alike := queueInTick_sendsAlike s n high sc (·.finished f)
  have sends := alike.line n
  rw [State.modQueue_line_same, State.atTick_line_same] at sends
  have set := alike.setLine (n := n) (l := { (s.queueInTick n (·.finished f)).line n with hold := l.hold }) (l' := l)
    ⟨mode.trans sends.mode, call.trans sends.call, queue.trans sends.queue, rfl⟩ (fun _ he => he)
  have final : ((s.atTick n ((s.line n).taken high sc)).modQueue n (·.finished f)).setLine n l = s.atTick n l := by
    unfold State.modQueue
    rw [State.atTick_modLine, State.atTick_setLine]
  rw [final] at set
  exact set

/-- The finish of the entry in flight, whatever ended it: `l` is the line with its execution stopped. -/
theorem finishFlight_finishesAs (high : Bool) (sc : Scan) (sound : StoreSound s) (targets : MarkTargetsSound s)
    (entries : EntriesSound s) (flight : (s.line n).queue.flight = some f) (call : (s.line n).call = some c)
    (line : l = { (s.line n).taken high sc with hold := l.hold, queue := l.queue })
    (queue : l.queue = { (s.line n).queue with
      execution := .none, satisfied := l.queue.satisfied, gatherTimer := l.queue.gatherTimer })
    (gather : GatherWaits n s → l.queue = { ((s.line n).taken high sc).queue with execution := .none }) :
    FinishedAs n c f l.hold s (settle s (waitTest n (examineHead n (finishFlight n (s.atTick n l)))).state) := by
  have atLine := s.atTick_line_same n l
  have flight' : l.queue.flight = some f := by rw [queue]; exact flight
  have finish := finishFlight_finishes (s := s.atTick n l) (n := n) (f := f) (by rw [atLine]; exact flight')
  have done : (l.done f).queue.entries = (s.line n).queue.entries ∧
      (l.done f).queue.waiting = (s.line n).queue.waiting ∧
      (l.done f).queue.execution = .none ∧
      (l.done f).queue.order = ((s.line n).queue.finished f).order := by
    unfold Line.done
    rw [queue]
    exact ⟨rfl, rfl, rfl, rfl⟩
  have mode : l.mode = (s.line n).mode := by rw [line]; rfl
  have call' : l.call = (s.line n).call := by rw [line]; rfl
  have order : l.queue.order = (s.line n).queue.order := by rw [queue]
  have entries' := entries.atTick (l := l) (n := n) (by rw [queue]) (by rw [queue])
  have alike := finish.sendsAlike targets entries'
  have finished := finish.line_same
  have pool := finish.pool
  rw [atLine, State.atTick_setLine] at alike
  rw [atLine] at finished
  refine ⟨fun slot sent owned ends => ?_, fun waits request senderWait => ?_, fun empty calm => ?_⟩
  · exact finishes_shows finish sound targets owned (by rw [atLine, order]; exact ends) s
  · have base := queueInTick_done (s := s) (n := n) (f := f) (l := l.done f) high sc mode call' (by
      unfold Line.done
      rw [gather waits]
      rfl)
    have asks : (finishFlight n (s.atTick n l)).request n = (s.request n).map (·.ticked s.sendHold) := by
      rw [State.request, pool.2.1]
      exact s.atTick_request n l
    rw [waitTest_examined (c := c) (by rw [finished]; exact call'.trans call) senderWait fun r hr => by
      rw [asks] at hr
      obtain ⟨q, asked, rfl⟩ := Option.map_eq_some_iff.mp hr
      exact request q asked]
    exact ((base.trans alike).examineHead n).queuesAs.settle s
  · obtain ⟨noEntries, calmed, stopped, left⟩ := done
    rw [examineHead_of_empty (by rw [finished, noEntries]; exact empty) (by rw [finished, calmed]; exact calm),
      settle_line, waitTest_line, finished]
    exact ⟨stopped, rfl, rfl, left⟩

/-- A line tick of a call with an entry in flight, up to the test of its execution. -/
structure TestsExecution (n : LineNo) (high : Bool) (s : State) (taken l : Line) : Prop where
  line : l = { taken with queue := l.queue }
  queue : l.queue = { taken.queue with satisfied := l.queue.satisfied, gatherTimer := l.queue.gatherTimer }
  gather : GatherWaits n s → l = taken
  row : ∀ w, executionTest n (s.atTick n l) = w →
    ∀ e ∈ w.events, exec (e.row n high) s = .next (settle s (waitTest n w.state).state)

theorem SteadyTick.testsExecution (tick : SteadyTick n high sc s) (inCall : InCall n c s) (waits : DecoderWaits n s)
    (learn : LearnWaits n s) (flight : (s.line n).queue.flight.isSome = true) :
    ∃ l, TestsExecution n high s ((s.line n).taken high { sc with run := 0, candidate := none }) l := by
  obtain ⟨active, -, stopped⟩ := inCall
  have row := fun e => tick.takes.row (e := e)
    (decodes_nothing high { sc with run := 0, candidate := none } active waits)
  have line := s.atTick_line_same n ((s.line n).taken high { sc with run := 0, candidate := none })
  have quiet := firstDigitTest_ticked (s := s)
    (u := s.atTick n ((s.line n).taken high { sc with run := 0, candidate := none }))
    (by rw [FirstDigitWaits, stopped]; nofun) (by rw [line]; rfl)
  have rests := learnTest_ticked learn
    (u := s.atTick n ((s.line n).taken high { sc with run := 0, candidate := none })) (by rw [line]; rfl)
  have gathers (waits : GatherWaits n s) := gatherTest_ticked waits
    (u := s.atTick n ((s.line n).taken high { sc with run := 0, candidate := none })) (by rw [line]; rfl)
  have flight' : ((s.line n).taken high { sc with run := 0, candidate := none }).queue.flight.isSome = true := flight
  generalize (s.line n).taken high { sc with run := 0, candidate := none } = l0 at *
  obtain ⟨l, gathered, same, queue, gather⟩ := gathered_atTick flight' rests
  refine ⟨l, same, queue, fun waits => gather (gathers waits), fun w execution e held => ?_⟩
  obtain ⟨final, events⟩ := timerTests_of_execution quiet (gathered ▸ execution)
  have next := row e (.inr (events e held))
  dsimp only [quietly] at next
  rw [final] at next
  exact next

theorem TestsExecution.row_of_noting {taken : Line} {e : TickEvent} (h : TestsExecution n high s taken l)
    (ends : executionTest n (s.atTick n l) = noting e u) :
    exec (e.row n high) s = .next (settle s (waitTest n u).state) :=
  h.row _ ends e (List.mem_singleton_self _)

/-- The end of an execution of the line, from the test that finds it. -/
theorem TestsExecution.finishes (h : TestsExecution n high s ((s.line n).taken high sc) l) (hold : Bool)
    (execution : Execution) (sound : StoreSound s) (targets : MarkTargetsSound s) (entries : EntriesSound s)
    (flight : (s.line n).queue.flight = some f) (call : (s.line n).call = some c)
    (found : u = s.atTick n { l with hold := hold, queue := { l.queue with execution := execution } }) :
    FinishedAs n c f hold s (settle s (waitTest n (executionFinished n u)).state) := by
  obtain ⟨line, queue, gather, -⟩ := h
  rw [found, executionFinished_atTick]
  refine finishFlight_finishesAs (l := { l with hold := hold, queue := { l.queue with execution := .none } })
    high sc sound targets entries flight call ?_ ?_ ?_
  · dsimp only
    rw [line]
  · dsimp only
    rw [queue]
    rfl
  · intro waits
    rw [gather waits]

/-- Settles O17: each execution is found at its end by the line tick's test, and its finish is one for all three. -/
theorem recallAndPauseRunTheirCourse : Obligations.RecallAndPauseRunTheirCourse := by
  unfold Obligations.RecallAndPauseRunTheirCourse
  refine ⟨recallBreak_ends, fun n high sc c f t0 s sound targets entries tick inCall waits learn flight => ?_⟩
  obtain ⟨l, tests⟩ := tick.testsExecution inCall waits learn (by rw [flight]; rfl)
  obtain ⟨active, call, -⟩ := inCall
  have finishes := fun hold execution u => tests.finishes (u := u) hold execution sound targets entries flight call
  have ⟨line, queue, _, row⟩ := tests
  have atLine := s.atTick_line_same n l
  have kept : l.mode = .active ∧ l.call = some c ∧ l.hold = (s.line n).hold ∧
      l.queue.flight = some f ∧ l.queue.execution = (s.line n).queue.execution := by
    rw [queue, line]
    exact ⟨active, call, rfl, flight, rfl⟩
  obtain ⟨mode, call', hold, flight', execution⟩ := kept
  have same : { l with hold := (s.line n).hold, queue := { l.queue with execution := l.queue.execution } } = l := by
    rw [← hold]
  have finish := finishes (s.line n).hold l.queue.execution (s.atTick n l) (by rw [same])
  intro finished
  refine ⟨fun breaks passed noGuard => ?_, fun guards passed => ?_, fun len pauses kind passed => ?_⟩
  · have ends := executionTest_breaks (s := s.atTick n l) (n := n) (t0 := t0) (c := c) (by rw [atLine]; exact mode)
      (by rw [atLine, execution]; exact breaks) (by rw [atLine]; exact call') passed
    have finish := finishes true (.recallGuard s.clock) (endRecallBreak n (s.atTick n l)) (s.atTick_modLine n l _)
    have callOn : ((endRecallBreak n (s.atTick n l)).line n).call = some c := by
      unfold endRecallBreak
      rw [State.modLine_line_same, atLine]
      exact call'
    have clock : (endRecallBreak n (s.atTick n l)).clock = s.clock := rfl
    generalize endRecallBreak n (s.atTick n l) = y at *
    have guard := guardTest_ends (t0 := s.clock) callOn (by rw [noGuard]; exact Nat.zero_le _)
    rw [Ticked.andThen, s.atTick_clock n l] at ends
    dsimp only [noting] at ends
    rw [guard] at ends
    have rows := row _ ends
    dsimp only [noting] at rows
    exact ⟨settle s (waitTest n (executionFinished n y)).state, rows .recallBreakEnd (by simp),
      rows .recallFinished (by simp), finish⟩
  · have ends := executionTest_guards (s := s.atTick n l) (n := n) (t0 := t0) (by rw [atLine]; exact mode)
      (by rw [atLine, execution]; exact guards)
    have guard := guardTest_ends (s := s.atTick n l) (n := n) (t0 := t0) (c := c) (by rw [atLine]; exact call') passed
    exact ⟨_, tests.row_of_noting (ends.trans guard), finish⟩
  · have ends := executionTest_pauses (s := s.atTick n l) (n := n) (t0 := t0) (f := f) (by rw [atLine]; exact mode)
      (by rw [atLine, execution]; exact pauses) (by rw [atLine]; exact flight') kind passed
    exact ⟨_, tests.row_of_noting ends, finish⟩

end Sys2Proof.Machine
end

section
/-! What a DIALLED hand-over comes to in a line tick (R100, R102, R103): the layer of O15, O42, O43, O44 and O46. -/

namespace Sys2Proof.Machine

variable {s t u v x y : State} {n m : LineNo} {high : Bool} {sc sc' : Scan} {l l' : Line}
  {w : Ticked} {e : Entry} {k : CallContext} {kind : RecordKind} {body : List Word} {addr : Nat}

/-! ### The queue unit that a hand-over finds and leaves -/

/-- The line with a DIALLED entry handed over, before its head is examined. -/
def Line.handed (e : Entry) (l : Line) : Line := { l.restartGather.appendDialled e with firstDigit := none }

theorem Line.restartGather_of_call (call : l.call = some k) :
    l.restartGather = { l with queue := l.queue.restarted k } := by
  have limit : (l.call.map (·.gatherWait)).getD 0 = k.gatherWait := by rw [call]; rfl
  unfold Line.restartGather QueueUnit.restarted
  rw [Line.discipline_of_call call, limit]
  cases k.discipline with
  | gather => cases satisfied : l.queue.satisfied <;> simp [satisfied]
  | immediate => simp
  | held => simp

theorem Line.appendDialled_of_call (call : l.call = some k) :
    (l.appendDialled e).queue =
      if k.discipline = .gather then
        if l.queue.satisfied = false ∧ saturate 255 l.queue.gatherCount = k.gatherN then
          QueueUnit.satisfy
            { l.queue with entries := l.queue.entries ++ [e], gatherCount := saturate 255 l.queue.gatherCount }
        else
          { l.queue with entries := l.queue.entries ++ [e], gatherCount := saturate 255 l.queue.gatherCount }
      else { l.queue with entries := l.queue.entries ++ [e] } := by
  have count : (l.call.map (·.gatherN)).getD 0 = k.gatherN := by rw [call]; rfl
  unfold Line.appendDialled
  rw [Line.discipline_of_call call, count]
  cases k.discipline with
  | gather => simp
  | immediate => simp
  | held => simp

theorem Line.handed_queue_of_call (call : l.call = some k) : (l.handed e).queue = l.queue.handed k e := by
  have appended := Line.appendDialled_of_call (l := l.restartGather) (e := e) (k := k)
    (by rw [Line.restartGather_of_call call]; exact call)
  refine appended.trans ?_
  rw [Line.restartGather_of_call call]
  unfold QueueUnit.handed QueueUnit.restarted QueueUnit.satisfy saturate
  by_cases gather : k.discipline = .gather
  · cases satisfied : l.queue.satisfied with
    | true => simp [gather, satisfied]
    | false => simp only [gather, and_self, if_true, true_and, Bool.false_eq_true, if_false]
  · simp [gather]

/-- A hand-over appends its entry and moves the items of the gather alone. -/
structure QueueUnit.Appended (e : Entry) (q q' : QueueUnit) : Prop where
  entries : q'.entries = q.entries ++ [e]
  flight : q'.flight = q.flight
  execution : q'.execution = q.execution
  order : q'.order = q.order

theorem Line.handed_line (l : Line) (e : Entry) :
    l.handed e = { l with firstDigit := none, queue := (l.handed e).queue } ∧
      l.queue.Appended e (l.handed e).queue := by
  obtain ⟨g, restarted⟩ := l.restartGather_eq
  obtain ⟨count, satisfied, timer, -, appended⟩ := l.restartGather.appendDialled_eq e
  unfold Line.handed
  rw [appended, restarted]
  exact ⟨rfl, rfl, rfl, rfl, rfl⟩

theorem Line.handed_of_call (call : l.call = some k) :
    l.handed e = { l with firstDigit := none, queue := l.queue.handed k e } := by
  obtain ⟨line, -⟩ := l.handed_line e
  rw [line, Line.handed_queue_of_call call]

theorem handOver_taken (room : (s.line n).queue.entries.length < 24) :
    handOver n e s = (examineHead n (s.modLine n (Line.handed e)), false) := by
  have has : (s.line n).hasRoom = true := decide_eq_true room
  have first := handOver_of_room (e := e) has
  refine Prod.ext first ?_
  unfold handOver
  dsimp only
  rw [if_pos has]

theorem handOver_lost (full : 24 ≤ (s.line n).queue.entries.length) :
    handOver n e s = (reportOverflow n e (s.modLine n Line.restartGather), true) := by
  have has : (s.line n).hasRoom = false := decide_eq_false (Nat.not_lt.mpr full)
  have first := handOver_of_full (e := e) has
  refine Prod.ext first ?_
  unfold handOver
  dsimp only
  rw [if_neg (by rw [has]; exact Bool.false_ne_true)]

/-! ### A queue unit changed behind the line's own events -/

/-- The queue units of a line tick whose other work leaves sending as it was. -/
theorem queueInTick_moved (high : Bool) (sc : Scan) (f : QueueUnit → QueueUnit) (g : Line → Line)
    (alike : SendsAlike (s.atTick n ((s.line n).taken high sc)) y)
    (tones : ∀ code, readTone y.store code = readTone s.store code)
    (moved : Line.SendsAs { y.line n with queue := f (y.line n).queue } (g (y.line n))) :
    SendsAlike (s.queueInTick n f) (y.modLine n g) := by
  have base := queueInTick_sendsAlike s n high sc f
  refine ⟨fun m => ?_, alike.senders.trans base.senders, alike.waitList.trans base.waitList,
    alike.sendHold.trans base.sendHold, alike.clock.trans base.clock, fun _ _ _ code _ => tones code⟩
  refine (base.line m).trans ?_
  have same := alike.line m
  by_cases here : m = n
  · subst here
    rw [State.modQueue_line_same, State.modLine_line_same]
    exact (same.modQueue f).trans moved
  · rw [State.modQueue_line_other _ _ here, State.modLine_line_other _ _ _ _ here]
    exact same

/-- Reports leave sending as it was, if they keep the tone plan. -/
theorem Reports.sendsAlike (h : Reports s t) (tones : ∀ code, readTone t.store code = readTone s.store code) :
    SendsAlike s t := by
  obtain ⟨-, -, timeBase, -, -, -, senders, waitList, -, -, control⟩ := h.keeps
  refine ⟨fun m => ?_, senders, waitList, ?_, congrArg TimeBase.clock timeBase, fun _ _ _ code _ => tones code⟩
  · rw [h.line]
    exact .refl _
  · unfold State.sendHold
    rw [control]

theorem reportFault_tones (kind : FaultKind) (n : LineNo) (detail : Nat) (s : State) (code : Nat) :
    readTone (reportFault kind n detail s).store code = readTone s.store code :=
  readTone_congr fun i _ => reportFault_peek_other kind n detail s
    (by unfold toneAddress; omega) (.inr (by unfold toneAddress; omega))

theorem QueuesAs.trans (h : QueuesAs s t) (h' : QueuesAs t u) : QueuesAs s u := by
  obtain ⟨lines, senders, waitList⟩ := h
  obtain ⟨lines', senders', waitList'⟩ := h'
  refine ⟨fun m => ?_, senders'.trans senders, waitList'.trans waitList⟩
  exact ⟨(lines' m).1.trans (lines m).1, (lines' m).2.trans (lines m).2⟩

theorem Reports.queuesAs (h : Reports s t) : QueuesAs s t := by
  obtain ⟨-, -, -, -, -, -, senders, waitList, -⟩ := h.keeps
  exact ⟨fun m => by rw [h.line]; exact ⟨rfl, rfl⟩, senders, waitList⟩

/-! ### The timers behind a hand-over -/

/-- The gather wait that a hand-over leaves does not end in its line tick. -/
theorem QueueUnit.handed_gather {q : QueueUnit} (gatherWait : 0 < k.gatherWait)
    (stopped : k.discipline ≠ .gather ∨ q.satisfied = true → q.gatherTimer = none) :
    ∀ g ∈ (q.handed k e).gatherTimer, g.count < g.limit := by
  unfold QueueUnit.handed
  generalize (if q.gatherCount < 255 then q.gatherCount + 1 else 255) = count
  by_cases gather : k.discipline = .gather
  · by_cases satisfied : q.satisfied = true
    · simp [gather, satisfied, stopped (.inr satisfied)]
    · rw [if_pos gather, if_neg satisfied]
      split <;> simp [gatherWait]
  · simp [gather, stopped (.inl gather)]

theorem QueueUnit.restarted_gather {q : QueueUnit} (gatherWait : 0 < k.gatherWait)
    (stopped : k.discipline ≠ .gather ∨ q.satisfied = true → q.gatherTimer = none) :
    ∀ g ∈ (q.restarted k).gatherTimer, g.count < g.limit := by
  unfold QueueUnit.restarted
  by_cases open_ : k.discipline = .gather ∧ q.satisfied = false
  · simp [open_, gatherWait]
  · have closed : k.discipline ≠ .gather ∨ q.satisfied = true := by
      rw [not_and_or, Bool.not_eq_false] at open_
      exact open_
    simp [open_, stopped closed]

theorem QueueUnit.restarted_execution (q : QueueUnit) (k : CallContext) :
    (q.restarted k).execution = q.execution := by
  unfold QueueUnit.restarted
  split <;> rfl

/-- The queue unit of a line tick that has raised the timers, as `TimersWait` finds it before. -/
structure Raised (n : LineNo) (s : State) (y : State) : Prop where
  call : (y.line n).call = (s.line n).call
  queue : (y.line n).queue = (s.line n).ticked.queue
  request : y.request n = (s.request n).map (·.ticked s.sendHold)
  clock : y.clock = s.clock

theorem SendsAlike.raised {high : Bool} {sc : Scan} (h : SendsAlike (s.atTick n ((s.line n).taken high sc)) y) :
    Raised n s y := by
  have line := h.line n
  rw [State.atTick_line_same] at line
  refine ⟨line.call, line.queue, ?_, h.clock⟩
  rw [State.request, h.waitList]
  exact s.atTick_request n _

theorem Raised.stopped (h : Raised n s y) (timers : TimersWait n k s) :
    k.discipline ≠ .gather ∨ (y.line n).queue.satisfied = true → (y.line n).queue.gatherTimer = none := by
  intro closed
  have none : (s.line n).queue.gatherTimer = none :=
    timers.2.2.2.2.2.1 (closed.imp_right fun satisfied => by rw [h.queue] at satisfied; exact satisfied)
  rw [h.queue]
  exact congrArg (Option.map _) none

theorem Raised.sending (h : Raised n s y) (timers : TimersWait n k s) (call : (s.line n).call = some k)
    (kind : ∀ ms, e.kind ≠ .pause ms) : SendingWaits n k (y.modLine n (Line.handed e)) := by
  obtain ⟨line, appended⟩ := (y.line n).handed_line e
  have ⟨execution, _, _, _, pauses, _⟩ := timers
  refine .of_timers timers ?_ ?_ ?_ h.request
  · rw [State.modLine_line_same, line]
    exact h.call.trans call
  · rw [State.modLine_line_same, appended.execution, h.queue]
    exact execution
  · rw [State.modLine_line_same, appended.entries, h.queue]
    intro entry held
    obtain old | new := List.mem_append.mp held
    · exact pauses entry old
    · rw [List.mem_singleton.mp new]
      exact kind 0

/-! ### The entry taken -/

/-- A hand-over with room and the record behind it. -/
def handedOver (kind : RecordKind) (n : LineNo) (body : List Word) (e : Entry) (y : State) : State :=
  capture kind n body (examineHead n (y.modLine n (Line.handed e)))

theorem handedOver_line (kind : RecordKind) (n : LineNo) (body : List Word) (e : Entry) (y : State) :
    (handedOver kind n body e y).line n =
      { y.line n with
        firstDigit := none, queue := ((handedOver kind n body e y).line n).queue
        hold := ((handedOver kind n body e y).line n).hold } := by
  have sent := examineHead_sendOnly n (y.modLine n (Line.handed e)) n
  unfold handedOver
  rw [capture_line]
  unfold SendOnly at sent
  obtain ⟨line, -⟩ := (y.line n).handed_line e
  rw [State.modLine_line_same, line] at sent
  exact sent

theorem handedOver_rest (raised : Raised n s y) (timers : TimersWait n k s) (call : (s.line n).call = some k)
    (notPause : ∀ ms, e.kind ≠ .pause ms) (queue : (t.line n).queue = ((handedOver kind n body e y).line n).queue)
    (sameCall : (t.line n).call = some k) (clock : t.clock = s.clock)
    (request : t.request n = (handedOver kind n body e y).request n) (firstDigit : (t.line n).firstDigit = none)
    (noLearn : NoLearn n t) : TimersRest n t := by
  have reports := capture_reports kind n body (examineHead n (y.modLine n (Line.handed e)))
  refine (raised.sending timers call notPause).rest (queue.trans (congrArg Line.queue (reports.line n))) sameCall
    (clock.trans raised.clock.symm) (request.trans (reports.request n)) firstDigit ?_ ?_
  · rw [noLearn]
    nofun
  · rw [State.modLine_line_same, Line.handed_of_call (raised.call.trans call)]
    exact QueueUnit.handed_gather timers.2.2.1 (raised.stopped timers)

theorem handedOver_queuesAs (high : Bool) (sc : Scan)
    (alike : SendsAlike (s.atTick n ((s.line n).taken high sc)) y)
    (tones : ∀ code, readTone y.store code = readTone s.store code) (call : (s.line n).call = some k) :
    QueuesAs (examineHead n (s.queueInTick n (·.handed k e))) (handedOver kind n body e y) := by
  have line := Line.handed_of_call (e := e) (alike.raised.call.trans call)
  have moved := queueInTick_moved high sc (·.handed k e) (Line.handed e) alike tones
    (by rw [line]; exact ⟨rfl, rfl, rfl, rfl⟩)
  exact (moved.examineHead n).queuesAs.trans (capture_reports kind n body _).queuesAs

theorem examineHead_keeps (n : LineNo) (s : State) :
    (examineHead n s).store = s.store ∧ (examineHead n s).capture = s.capture ∧
      (examineHead n s).causes = s.causes ∧ (examineHead n s).board = s.board ∧
      (examineHead n s).clock = s.clock := by
  obtain ⟨-, -, timeBase, -, -, -, board, capture, -, causes, store⟩ := (examineHead_sends n s).keeps
  exact ⟨store, capture, causes, board, congrArg TimeBase.clock timeBase⟩

/-- The record behind the hand-over. -/
theorem handedOver_records (sound : StoreSound y) (goes : RecordGoesTo y (body.length + 2) addr) :
    (handedOver kind n body e y).words addr (body.length + 2) = recordWords kind n.val y.clock body ∧
      StoreFrame y (handedOver kind n body e y) [(addr, body.length + 2)] ∧
      (handedOver kind n body e y).causes = y.causes := by
  obtain ⟨store, sameCapture, causes, -, clock⟩ := examineHead_keeps n (y.modLine n (Line.handed e))
  have goes' : RecordGoesTo (examineHead n (y.modLine n (Line.handed e))) (body.length + 2) addr := by
    unfold RecordGoesTo
    rw [sameCapture]
    exact goes
  have words := capture_words kind n body (by rw [StoreSound, store]; exact sound) goes'
  have frame := capture_frame kind n body goes'
  have form := capture_goes kind n body goes'
  rw [clock] at words
  refine ⟨words, fun a outside => (frame a outside).trans (State.peek_congr store a), ?_⟩
  unfold handedOver
  rw [form]
  exact causes

/-! ### The entry lost -/

/-- A hand-over to a full queue and the record behind it. -/
def handedLost (kind : RecordKind) (n : LineNo) (body : List Word) (e : Entry) (y : State) : State :=
  capture kind n body (reportOverflow n e (y.modLine n Line.restartGather))

theorem handedLost_line (kind : RecordKind) (n : LineNo) (body : List Word) (e : Entry) (y : State) :
    (handedLost kind n body e y).line n = { (y.line n).restartGather with overflowReported := true } := by
  unfold handedLost
  rw [capture_line, reportOverflow_line_same, State.modLine_line_same]

theorem State.setLine_self (s : State) (n : LineNo) : s.setLine n (s.line n) = s := by
  unfold State.setLine State.line
  simp

theorem State.modLine_of_same {f : Line → Line} (same : f (s.line n) = s.line n) : s.modLine n f = s := by
  unfold State.modLine
  rw [same]
  exact s.setLine_self n

theorem reportOverflow_of_reported (reported : (s.line n).overflowReported = true) : reportOverflow n e s = s :=
  if_pos reported

theorem reportOverflow_of_fresh (fresh : (s.line n).overflowReported = false) :
    reportOverflow n e s =
      (reportFault .queueOverflow n (lostCode e.kind) s).modLine n fun l => { l with overflowReported := true } :=
  if_neg (by rw [fresh]; exact Bool.false_ne_true)

theorem reportOverflow_reports (n : LineNo) (e : Entry) (s : State) :
    Reports (s.modLine n fun l => { l with overflowReported := true }) (reportOverflow n e s) := by
  cases reported : (s.line n).overflowReported with
  | true =>
    rw [reportOverflow_of_reported reported, State.modLine_of_same (by rw [← reported])]
    exact .refl s
  | false =>
    rw [reportOverflow_of_fresh reported]
    exact (reportFault_reports .queueOverflow n (lostCode e.kind) s).modLine n _

theorem handedLost_reports (kind : RecordKind) (n : LineNo) (body : List Word) (e : Entry) (y : State) :
    Reports ((y.modLine n Line.restartGather).modLine n fun l => { l with overflowReported := true })
      (handedLost kind n body e y) :=
  (reportOverflow_reports n e _).trans (capture_reports kind n body _)

theorem handedLost_rest (raised : Raised n s y) (timers : TimersWait n k s) (call : (s.line n).call = some k)
    (queue : (t.line n).queue = ((handedLost kind n body e y).line n).queue) (request : t.request n = y.request n)
    (firstDigit : (t.line n).firstDigit = none) (noLearn : NoLearn n t) : TimersRest n t := by
  have ⟨execution, _, _, _, _, _, waits⟩ := timers
  rw [handedLost_line, Line.restartGather_of_call (raised.call.trans call)] at queue
  refine ⟨firstDigitTest_of_stopped firstDigit, learnTest_of_none noLearn, gatherTest_of_running ?_,
    executionTest_of_none ?_, waitTest_atTick waits (request.trans raised.request)⟩
  · rw [queue]
    exact QueueUnit.restarted_gather timers.2.2.1 (raised.stopped timers)
  · rw [queue]
    dsimp only
    rw [QueueUnit.restarted_execution, raised.queue]
    exact execution

theorem handedLost_queuesAs (high : Bool) (sc : Scan)
    (alike : SendsAlike (s.atTick n ((s.line n).taken high sc)) y)
    (tones : ∀ code, readTone y.store code = readTone s.store code) (call : (s.line n).call = some k) :
    QueuesAs (s.queueInTick n (·.restarted k)) (handedLost kind n body e y) := by
  have line := Line.restartGather_of_call (alike.raised.call.trans call)
  have moved := queueInTick_moved high sc (·.restarted k)
    (fun l => { l.restartGather with overflowReported := true }) alike tones
    (by rw [line]; exact ⟨rfl, rfl, rfl, rfl⟩)
  have reports := handedLost_reports kind n body e y
  rw [State.modLine_modLine] at reports
  exact moved.queuesAs.trans reports.queuesAs

/-! ### The fault and the record of an entry lost -/

theorem reportFault_capture (kind : FaultKind) (n : LineNo) (detail : Nat) (s : State) :
    (reportFault kind n detail s).capture = s.capture := by
  unfold reportFault
  split
  · split <;> rfl
  · rfl

/-- QUEUE-OVERFLOW reported on a call for the first time, or not again. -/
theorem reportOverflow_store (n : LineNo) (e : Entry) (s : State) :
    (reportOverflow n e s).capture = s.capture ∧ (StoreSound s → StoreSound (reportOverflow n e s)) ∧
      ((s.line n).overflowReported = true → reportOverflow n e s = s) ∧
      (StoreSound s → ∀ j : Nat, (s.line n).overflowReported = false → FaultGoesTo s j →
        (reportOverflow n e s).words (faultSlotAddress j) 4 =
            faultWords .queueOverflow n s.clock (lostCode e.kind) ∧
          (reportOverflow n e s).causes.fault = true) := by
  cases reported : (s.line n).overflowReported with
  | true =>
    rw [reportOverflow_of_reported reported]
    exact ⟨rfl, id, fun _ => rfl, fun _ _ => nofun⟩
  | false =>
    rw [reportOverflow_of_fresh reported]
    refine ⟨reportFault_capture .queueOverflow n (lostCode e.kind) s,
      fun sound => reportFault_sound sound .queueOverflow n (lostCode e.kind), nofun, fun sound j _ goes => ?_⟩
    refine ⟨reportFault_words sound goes, ?_⟩
    have form := reportFault_form (kind := .queueOverflow) (n := n) (detail := lostCode e.kind) goes
    show (reportFault .queueOverflow n (lostCode e.kind) s).causes.fault = true
    rw [form]

/-- The record behind the entry lost, and the fault that it does not touch. -/
theorem handedLost_records (sound : StoreSound y) (goes : RecordGoesTo y (body.length + 2) addr) :
    (handedLost kind n body e y).words addr (body.length + 2) = recordWords kind n.val y.clock body ∧
      (∀ j : Nat, (y.line n).overflowReported = false → FaultGoesTo y j →
        (handedLost kind n body e y).words (faultSlotAddress j) 4 =
            faultWords .queueOverflow n y.clock (lostCode e.kind) ∧
          (handedLost kind n body e y).causes.fault = true) ∧
      ((y.line n).overflowReported = true →
        (handedLost kind n body e y).causes = y.causes ∧
          StoreFrame y (handedLost kind n body e y) [(addr, body.length + 2)]) := by
  have reports := reportOverflow_reports n e (y.modLine n Line.restartGather)
  obtain ⟨sameCapture, sound', again, fresh⟩ := reportOverflow_store n e (y.modLine n Line.restartGather)
  have flag : ((y.modLine n Line.restartGather).line n).overflowReported = (y.line n).overflowReported := by
    obtain ⟨g, restarted⟩ := (y.line n).restartGather_eq
    rw [State.modLine_line_same, restarted]
  rw [flag] at again fresh
  have clock : (reportOverflow n e (y.modLine n Line.restartGather)).clock = y.clock := reports.clock
  have fresh' := fresh sound
  have goes' : RecordGoesTo (reportOverflow n e (y.modLine n Line.restartGather)) (body.length + 2) addr := by
    unfold RecordGoesTo
    rw [sameCapture]
    exact goes
  have words := capture_words kind n body (sound' sound) goes'
  have frame := capture_frame kind n body goes'
  have form := capture_goes kind n body goes'
  have causes : (handedLost kind n body e y).causes = (reportOverflow n e (y.modLine n Line.restartGather)).causes := by
    unfold handedLost
    rw [form]
  rw [clock] at words
  obtain ⟨page, -⟩ := recordAddress_bounds goes
  refine ⟨words, fun j first goes => ?_, fun reported => ?_⟩
  · obtain ⟨fault, raised⟩ := fresh' j first goes
    have low := faultSlotAddress_low goes.2.1
    refine ⟨Eq.trans (State.words_congr fun i hi => frame _ fun r hr => ?_) fault, causes ▸ raised⟩
    obtain rfl := List.mem_singleton.mp hr
    exact .inl (by dsimp only; omega)
  · rw [again reported] at frame causes
    refine ⟨causes, ?_⟩
    unfold handedLost
    rw [again reported]
    exact frame

end Sys2Proof.Machine
end

section
/-! A train that ends with a digit, or with none (R53 to R57, R66, R100). -/

namespace Sys2Proof.Machine

variable {s t u v x y : State} {n m : LineNo} {high : Bool} {sc sc' : Scan} {l l' : Line} {d : Decoder}
  {w : Ticked} {e : Entry} {k : CallContext} {c : TrainContext} {digit p16 : Nat} {addr j : Nat} {off lost : Bool}

/-! ### The digit of a train -/

theorem mapDigit_of_pulses {m : DigitMap} {count : Nat} (one : 1 ≤ count) (ten : count ≤ 10) :
    mapDigit m count = some (digitOf m count) := by
  unfold mapDigit digitOf
  rw [if_neg (by omega)]
  cases m with
  | direct =>
    refine congrArg some ?_
    dsimp only
    split
    · next last => rw [last]
    · next other => exact (Nat.mod_eq_of_lt (by omega)).symm
  | offset => rfl
  | inverse => rfl

theorem digitOf_lt {m : DigitMap} {count : Nat} (one : 1 ≤ count) (ten : count ≤ 10) : digitOf m count < 16 :=
  mapDigit_lt (mapDigit_of_pulses one ten)

theorem endTrain_digit (ctx : (s.line n).decoder.ctx = some c) (one : 1 ≤ (s.line n).decoder.pulses)
    (ten : (s.line n).decoder.pulses ≤ 10) :
    endTrain n s = digitEnds n (digitOf c.map (s.line n).decoder.pulses) c s := by
  unfold endTrain
  dsimp only
  rw [ctx]
  dsimp only
  rw [mapDigit_of_pulses one ten]

theorem endTrain_tooMany (ctx : (s.line n).decoder.ctx = some c) (many : 10 < (s.line n).decoder.pulses) :
    endTrain n s =
      abandonTrain n (capture .mutilated n (mutilatedBody .tooMany (s.line n).decoder.pulses) s) := by
  have none : mapDigit c.map (s.line n).decoder.pulses = none := if_pos (.inr many)
  unfold endTrain
  dsimp only
  rw [ctx]
  dsimp only
  rw [none]

theorem makeTest_ends (counted : (s.line n).decoder.pulsePending = false)
    (long : (s.line n).decoder.limit (·.tId) ≤ (s.line n).decoder.sinceMake s.clock) :
    makeTest n s = noting .trainEnd (endTrain n s) := by
  unfold makeTest
  dsimp only
  rw [if_neg (by rw [counted]; exact Bool.false_ne_true)]
  exact if_pos long

/-! ### The line with its digit counted -/

/-- The line of a train that has ended with a digit, before the digit is handed over. -/
def Line.digitCounted (off : Bool) (l : Line) : Line :=
  { l with
    estimator := l.estimator.map Estimator.passOver, dialSpeedReported := l.dialSpeedReported || off
    digits := saturate 65535 l.digits, decoder := .atRest }

/-- A train that has ended with a digit, before the digit is handed over. -/
def digitCounted (n : LineNo) (c : TrainContext) (s : State) : State :=
  let d := (s.line n).decoder
  let learned := learnFromTrain n s
  (if offBand (trainStatistics d) c then reportDialSpeed n (meanPeriod d.periods d.periodSum) learned
    else learned).modLine n
    fun l => { l with digits := saturate 65535 l.digits, decoder := .atRest }

/-- The body of a DIGIT record. -/
def digitRecord (digit : Nat) (c : TrainContext) (d : Decoder) (lost : Bool) (p16 : Nat) : List Word :=
  digitBody digit d.pulses (offBand (trainStatistics d) c) d.hits lost p16 (trainStatistics d)

theorem digitEnds_eq (n : LineNo) (digit : Nat) (c : TrainContext) (s : State) :
    digitEnds n digit c s =
      capture .digit n
        (digitRecord digit c (s.line n).decoder (handOver n (dialledTone digit) (digitCounted n c s)).2
          ((((digitCounted n c s).line n).estimator.map (·.p16)).getD 0))
        (handOver n (dialledTone digit) (digitCounted n c s)).1 := by
  unfold digitCounted
  rw [State.modLine_line_same]
  rfl

theorem reportDialSpeed_reports (n : LineNo) (mean : Nat) (s : State) :
    Reports (s.modLine n fun l => { l with dialSpeedReported := true }) (reportDialSpeed n mean s) := by
  unfold reportDialSpeed
  split
  · next reported =>
    rw [State.modLine_of_same (by rw [← reported])]
    exact .refl s
  · exact (reportFault_reports .dialSpeed n mean s).modLine n _

theorem learnFromTrain_of_noLearn (noLearn : NoLearn n s) :
    learnFromTrain n s = s.modEstimator n Estimator.passOver := by
  unfold learnFromTrain
  dsimp only
  split
  · next none =>
    refine (State.modLine_of_same ?_).symm
    rw [none]
    cases line : s.line n
    rw [line] at none
    obtain rfl := none
    rfl
  · next estimator =>
    split
    · next learn _ =>
      rw [NoLearn, Line.learnPending_of estimator learn] at noLearn
      cases noLearn
    · rfl

theorem digitCounted_steady (noLearn : NoLearn n s) (off : offBand (trainStatistics (s.line n).decoder) c = false) :
    digitCounted n c s = s.modLine n (Line.digitCounted false) := by
  unfold digitCounted
  dsimp only
  rw [if_neg (by rw [off]; exact Bool.false_ne_true), learnFromTrain_of_noLearn noLearn, State.modEstimator,
    State.modLine_modLine]
  unfold State.modLine Line.digitCounted
  rw [Bool.or_false]

theorem digitCounted_off (noLearn : NoLearn n s) (off : offBand (trainStatistics (s.line n).decoder) c = true) :
    digitCounted n c s =
      (reportDialSpeed n (meanPeriod (s.line n).decoder.periods (s.line n).decoder.periodSum)
        (s.modEstimator n Estimator.passOver)).modLine n
          fun l => { l with digits := saturate 65535 l.digits, decoder := .atRest } := by
  unfold digitCounted
  dsimp only
  rw [if_pos off, learnFromTrain_of_noLearn noLearn]

theorem digitCounted_reports (noLearn : NoLearn n s) :
    Reports (s.modLine n (Line.digitCounted (offBand (trainStatistics (s.line n).decoder) c)))
      (digitCounted n c s) := by
  cases off : offBand (trainStatistics (s.line n).decoder) c with
  | false =>
    rw [digitCounted_steady noLearn off]
    exact .refl _
  | true =>
    rw [digitCounted_off noLearn off]
    have reports := (reportDialSpeed_reports n
      (meanPeriod (s.line n).decoder.periods (s.line n).decoder.periodSum)
      (s.modEstimator n Estimator.passOver)).modLine n
        fun l => { l with digits := saturate 65535 l.digits, decoder := .atRest }
    unfold State.modEstimator at reports ⊢
    rw [State.modLine_modLine, State.modLine_modLine] at reports
    unfold Line.digitCounted
    simp only [Bool.or_true]
    exact reports

theorem digitCounted_line (noLearn : NoLearn n s) :
    (digitCounted n c s).line n =
      (s.line n).digitCounted (offBand (trainStatistics (s.line n).decoder) c) := by
  rw [(digitCounted_reports noLearn).line, State.modLine_line_same]

theorem reportDialSpeed_of_reported (reported : (s.line n).dialSpeedReported = true) (mean : Nat) :
    reportDialSpeed n mean s = s :=
  if_pos reported

theorem reportDialSpeed_of_fresh (fresh : (s.line n).dialSpeedReported = false) (mean : Nat) :
    reportDialSpeed n mean s =
      (reportFault .dialSpeed n mean s).modLine n fun l => { l with dialSpeedReported := true } :=
  if_neg (by rw [fresh]; exact Bool.false_ne_true)

/-- Beside the line, a train's digit may report DIAL-SPEED, once a call, and comes to nothing else. -/
theorem digitCounted_store (noLearn : NoLearn n s) :
    (digitCounted n c s).capture = s.capture ∧ (StoreSound s → StoreSound (digitCounted n c s)) ∧
      (∀ a, a ≠ 0x005 → a < 0x0A0 ∨ 0x0C0 ≤ a → (digitCounted n c s).peek a = s.peek a) ∧
      (offBand (trainStatistics (s.line n).decoder) c = false ∨ (s.line n).dialSpeedReported = true →
        (digitCounted n c s).causes = s.causes ∧ ∀ a, (digitCounted n c s).peek a = s.peek a) ∧
      (StoreSound s → ∀ j : Nat, offBand (trainStatistics (s.line n).decoder) c = true →
        (s.line n).dialSpeedReported = false → FaultGoesTo s j →
        (digitCounted n c s).words (faultSlotAddress j) 4 =
            faultWords .dialSpeed n s.clock
              (meanPeriod (s.line n).decoder.periods (s.line n).decoder.periodSum) ∧
          (digitCounted n c s).causes.fault = true) := by
  cases off : offBand (trainStatistics (s.line n).decoder) c with
  | false =>
    rw [digitCounted_steady noLearn off]
    exact ⟨rfl, id, fun _ _ _ => rfl, fun _ => ⟨rfl, fun _ => rfl⟩, fun _ _ => nofun⟩
  | true =>
    rw [digitCounted_off noLearn off]
    have flag : ((s.modEstimator n Estimator.passOver).line n).dialSpeedReported = (s.line n).dialSpeedReported := by
      rw [State.modEstimator_line_same]
    cases reported : (s.line n).dialSpeedReported with
    | true =>
      rw [reportDialSpeed_of_reported (flag.trans reported)]
      exact ⟨rfl, id, fun _ _ _ => rfl, fun _ => ⟨rfl, fun _ => rfl⟩, fun _ _ _ => nofun⟩
    | false =>
      rw [reportDialSpeed_of_fresh (flag.trans reported)]
      generalize meanPeriod (s.line n).decoder.periods (s.line n).decoder.periodSum = mean
      refine ⟨reportFault_capture .dialSpeed n mean (s.modEstimator n Estimator.passOver),
        fun sound => reportFault_sound (s := s.modEstimator n Estimator.passOver) sound .dialSpeed n mean,
        fun a => reportFault_peek_other .dialSpeed n mean (s.modEstimator n Estimator.passOver), ?_,
        fun sound j _ _ goes => ?_⟩
      · rintro (inBand | again)
        · cases inBand
        · cases again
      · refine ⟨reportFault_words (s := s.modEstimator n Estimator.passOver) sound goes, ?_⟩
        have form := reportFault_form (s := s.modEstimator n Estimator.passOver) (kind := .dialSpeed) (n := n)
          (detail := mean) goes
        show (reportFault .dialSpeed n mean (s.modEstimator n Estimator.passOver)).causes.fault = true
        rw [form]

theorem digitCounted_tones (noLearn : NoLearn n s) (code : Nat) :
    readTone (digitCounted n c s).store code = readTone s.store code := by
  obtain ⟨-, -, peek, -⟩ := digitCounted_store (c := c) noLearn
  exact readTone_congr fun i _ => peek _ (by unfold toneAddress; omega) (.inr (by unfold toneAddress; omega))

/-- The line with its digit counted sends as before. -/
theorem digitCounted_sendsAlike (noLearn : NoLearn n s) : SendsAlike s (digitCounted n c s) := by
  have reports := digitCounted_reports (c := c) noLearn
  have moved : SendsAlike s (s.modLine n
      (Line.digitCounted (offBand (trainStatistics (s.line n).decoder) c))) := by
    refine .of_store (fun m => ?_) rfl rfl rfl rfl rfl
    rw [State.modLine_line]
    split
    · next here => subst here; exact ⟨rfl, rfl, rfl, rfl⟩
    · exact .refl _
  exact moved.trans (reports.sendsAlike (digitCounted_tones noLearn))

theorem digitCounted_p16 (noLearn : NoLearn n s) :
    ((digitCounted n c s).line n).estimator.map (·.p16) = (s.line n).estimator.map (·.p16) := by
  rw [digitCounted_line noLearn]
  show ((s.line n).estimator.map Estimator.passOver).map (·.p16) = _
  rw [Option.map_map]
  rfl

/-! ### The digit handed over -/

theorem digitEnds_taken (noLearn : NoLearn n s) (room : (s.line n).queue.entries.length < 24) :
    digitEnds n digit c s =
      handedOver .digit n
        (digitRecord digit c (s.line n).decoder false (((s.line n).estimator.map (·.p16)).getD 0))
        (dialledTone digit) (digitCounted n c s) := by
  have few : ((digitCounted n c s).line n).queue.entries.length < 24 := by
    rw [digitCounted_line noLearn]
    exact room
  rw [digitEnds_eq, handOver_taken few, digitCounted_p16 noLearn]
  rfl

theorem digitEnds_lost (noLearn : NoLearn n s) (full : 24 ≤ (s.line n).queue.entries.length) :
    digitEnds n digit c s =
      handedLost .digit n
        (digitRecord digit c (s.line n).decoder true (((s.line n).estimator.map (·.p16)).getD 0))
        (dialledTone digit) (digitCounted n c s) := by
  have many : 24 ≤ ((digitCounted n c s).line n).queue.entries.length := by
    rw [digitCounted_line noLearn]
    exact full
  rw [digitEnds_eq, handOver_lost many, digitCounted_p16 noLearn]
  rfl

/-! ### The record of a digit -/

theorem digitRecord_length (digit : Nat) (c : TrainContext) (d : Decoder) (lost : Bool) (p16 : Nat) :
    (digitRecord digit c d lost p16).length + 2 = if d.periods = 0 then 4 else 6 := by
  unfold digitRecord digitBody trainStatistics
  split <;> simp

theorem digitRecord_words (n : LineNo) (time : Tick) (small : digit < 16) (ten : d.pulses < 16) :
    recordWords .digit n.val time (digitRecord digit c d lost p16) =
      asWord (0x2000 + (if d.periods = 0 then 4 else 6) * 256 + n.val) :: time ::
        asWord (digit + 16 * d.pulses + (if offBand (trainStatistics d) c then 256 else 0)
          + (if d.hits then 512 else 0) + (if lost then 1024 else 0)) ::
        asWord p16 ::
        if d.periods = 0 then []
        else [asWord (meanPeriod d.periods d.periodSum), asWord (makePercent d.periodSum d.makeSum)] := by
  rw [recordWords_eq, digitRecord_length]
  unfold digitRecord digitBody
  rw [Nat.mod_eq_of_lt small, Nat.mod_eq_of_lt ten, Nat.mul_comm d.pulses 16]
  have stats : trainStatistics d =
      if d.periods = 0 then none
      else some (meanPeriod d.periods d.periodSum, makePercent d.periodSum d.makeSum) := rfl
  have flag (b : Bool) (k : Nat) : b.toNat * k = if b then k else 0 := by cases b <;> simp
  simp only [flag]
  rw [stats]
  by_cases none : d.periods = 0
  · simp [none, recordValue]
  · simp [none, recordValue]

end Sys2Proof.Machine
end

section
/-! The end of a train at its interdigital time. Settles O15. -/

namespace Sys2Proof.Machine

variable {s t u v x y : State} {n m : LineNo} {high : Bool} {sc sc' : Scan} {l l' : Line} {d : Decoder}
  {w : Ticked} {e : Entry} {k : CallContext} {c : TrainContext} {digit p16 : Nat} {addr j : Nat}
  {kind : FaultKind} {detail : Nat} {edge : Option Edge} {time ms : Tick}

/-! ### A fault slot that is taken -/

theorem reportFault_keeps_taken (taken : s.peek (faultSlotAddress j) ≠ 0) (small : j < 8) :
    (reportFault kind n detail s).words (faultSlotAddress j) 4 = s.words (faultSlotAddress j) 4 := by
  by_cases clear : s.peek faultOverflowAddress = 0
  · cases free : freeFaultSlot s with
    | some k =>
      have goes : FaultGoesTo s k := ⟨clear, freeFaultSlot_eq_some_iff.mp free⟩
      have apart : k ≠ j := fun same => taken (same ▸ goes.2.2.1)
      refine State.words_congr fun i hi => reportFault_frame goes _ fun r hr => ?_
      obtain rfl := List.mem_singleton.mp hr
      dsimp only
      unfold faultSlotAddress
      omega
    | none =>
      rw [reportFault_of_full clear (freeFaultSlot_eq_none_iff.mp free)]
      refine State.words_congr fun i hi => StoreFrame.of_poke s faultOverflowAddress 1 _ fun r hr => ?_
      obtain rfl := List.mem_singleton.mp hr
      dsimp only
      unfold faultSlotAddress faultOverflowAddress
      omega
  · rw [reportFault_of_overflow clear]

theorem reportFault_fault (kind : FaultKind) (n : LineNo) (detail : Nat) (h : s.causes.fault = true) :
    (reportFault kind n detail s).causes.fault = true := by
  unfold reportFault
  split
  · split <;> rfl
  · exact h

theorem faultValue_ne_zero (kind : FaultKind) : faultValue kind ≠ 0 := by
  cases kind <;> decide

/-- The test of a request's wait keeps a fault that stands. -/
theorem waitTest_keeps_fault (words : s.words (faultSlotAddress j) 4 = faultWords kind m time detail) (small : j < 8)
    (raised : s.causes.fault = true) :
    (waitTest n s).state.words (faultSlotAddress j) 4 = faultWords kind m time detail ∧
      (waitTest n s).state.causes.fault = true := by
  have taken : s.peek (faultSlotAddress j) ≠ 0 := by
    have head : some (s.peek (faultSlotAddress j)) = some (faultValue kind) := congrArg List.head? words
    rw [Option.some.inj head]
    exact faultValue_ne_zero kind
  unfold waitTest
  split
  · next r _ =>
    split
    · exact ⟨(reportFault_keeps_taken taken small).trans words, reportFault_fault .senderWait n r.age raised⟩
    · exact ⟨words, raised⟩
  · exact ⟨words, raised⟩

/-! ### The line tick of a train's end -/

theorem superviseTick_ends (active : (x.line n).mode = .active) (sub : (x.line n).decoder.sub = .inMake)
    (counted : (x.line n).decoder.pulsePending = false) (ctx : (x.line n).decoder.ctx = some c)
    (start : (x.line n).decoder.makeStart = some ms) (long : c.tId ≤ since x.clock ms) :
    superviseTick n none x = noting .trainEnd (endTrain n x) :=
  ((superviseTick_active active none).trans (decodeTick_make sub)).trans
    (makeTest_ends counted (by rw [Decoder.limit_of ctx, Decoder.sinceMake_of start]; exact long))

/-- A line tick behind whose decisions no timer ends. -/
theorem Takes.rests (h : Takes n high s sc edge)
    (supervised : superviseTick n edge (s.atTick n ((s.line n).taken high sc)) = w) (rest : TimersRest n w.state) :
    exec (.lineTick n high) s = .next (settle s w.state) ∧
      ∀ e ∈ w.events, exec (e.row n high) s = .next (settle s w.state) := by
  have tests : (timerTests n w.state).state = w.state := by rw [rest.tests]; rfl
  have tick := h.tick supervised
  rw [tests] at tick
  refine ⟨tick, fun e held => ?_⟩
  have row := h.row supervised (.inl held)
  rw [tests] at row
  exact row

/-- The words of the fault slots are settled as they stand. -/
theorem settle_words_fault (s u : State) (small : j < 8) :
    (settle s u).words (faultSlotAddress j) 4 = u.words (faultSlotAddress j) 4 := by
  have low := faultSlotAddress_low small
  have first : faultSlotAddress j = 0x0A0 + 4 * j := rfl
  exact State.words_congr fun i hi => settle_peek_other s u _ <| Bool.eq_false_iff.mpr fun shown => by
    have := (shownAddress_iff _).mp shown
    omega

theorem taken_digits (l : Line) (high : Bool) (sc : Scan) :
    saturate 65535 (l.taken high sc).digits = if l.digits < 65535 then l.digits + 1 else 65535 := rfl

/-! ### A digit with an entry in flight -/

/-- The tests of the timers behind a hand-over with an entry in flight: the gather may be satisfied, and the wait of
the line's request may end. -/
theorem timerTests_in_flight (firstDigit : (v.line n).firstDigit = none) (noLearn : NoLearn n v)
    (flight : (v.line n).queue.flight.isSome = true) (execution : (v.line n).queue.execution = .none) :
    ∃ g, (timerTests n v).state = (waitTest n g).state ∧ g.store = v.store ∧ g.causes = v.causes ∧
      g.waitList = v.waitList ∧ g.clock = v.clock ∧
      g.line n = { v.line n with queue := (g.line n).queue } ∧
      (g.line n).queue = { (v.line n).queue with
        satisfied := (g.line n).queue.satisfied, gatherTimer := (g.line n).queue.gatherTimer } := by
  have learn := learnTest_of_none noLearn
  have quiet : gathered n v = (gatherTest n v).state := by
    unfold gathered
    rw [learn]
    rfl
  have rests (g : State) (same : (g.line n).queue.execution = .none) (found : gathered n v = g) :
      (timerTests n v).state = (waitTest n g).state := by
    obtain ⟨final, -⟩ := timerTests_of_execution (firstDigitTest_of_stopped firstDigit)
      (w := quietly g) (by rw [found]; exact executionTest_of_none same)
    exact final
  obtain same | satisfied := gatherTest_in_flight flight
  · exact ⟨v, rests v execution (quiet.trans same), rfl, rfl, rfl, rfl, rfl, rfl⟩
  · refine ⟨v.modQueue n QueueUnit.satisfy, rests _ ?_ (quiet.trans satisfied), rfl, rfl, rfl, rfl, ?_⟩
    · rw [State.modQueue_line_same]
      exact execution
    · rw [State.modQueue_line_same]
      exact ⟨rfl, rfl⟩

theorem peek_of_words {ws : List Word} {i len : Nat} {word : Word} (words : s.words addr len = ws)
    (found : ws[i]? = some word) : s.peek (addr + i) = word := by
  rw [← words, State.words, List.getElem?_map] at found
  obtain ⟨i', here, peek⟩ := Option.map_eq_some_iff.mp found
  obtain ⟨inside, same⟩ := List.getElem?_eq_some_iff.mp here
  rw [List.getElem_range] at same
  rw [same]
  exact peek

/-- What a train's digit comes to on a line with an entry in flight: the entry joins the queue and nothing starts. -/
theorem digitEnds_in_flight (noLearn : NoLearn n x) (room : (x.line n).queue.entries.length < 24)
    (flight : (x.line n).queue.flight.isSome = true) (sound : StoreSound x)
    (goes : RecordGoesTo x (if (x.line n).decoder.periods = 0 then 4 else 6) addr) :
    let d := (x.line n).decoder
    let off := offBand (trainStatistics d) c
    let v := digitEnds n digit c x
    v.line n = Line.handed (dialledTone digit) ((x.line n).digitCounted off) ∧ v.waitList = x.waitList ∧
      v.words addr (if d.periods = 0 then 4 else 6) =
        recordWords .digit n.val x.clock
          (digitRecord digit c d false (((x.line n).estimator.map (·.p16)).getD 0)) ∧
      (∀ j : Nat, off = true → (x.line n).dialSpeedReported = false → FaultGoesTo x j →
        v.words (faultSlotAddress j) 4 = faultWords .dialSpeed n x.clock (meanPeriod d.periods d.periodSum) ∧
          v.causes.fault = true) ∧
      (off = false ∨ (x.line n).dialSpeedReported = true →
        v.causes = x.causes ∧ ∀ j < 8, v.words (faultSlotAddress j) 4 = x.words (faultSlotAddress j) 4) := by
  intro d off v
  have counted := digitCounted_line (c := c) noLearn
  have reports := digitCounted_reports (c := c) noLearn
  obtain ⟨sameCapture, sound', -, same, fault⟩ := digitCounted_store (c := c) noLearn
  have ends : v = _ := digitEnds_taken (digit := digit) (c := c) noLearn room
  have stands : examineHead n ((digitCounted n c x).modLine n (Line.handed (dialledTone digit))) =
      (digitCounted n c x).modLine n (Line.handed (dialledTone digit)) := by
    refine examineHead_of_flight ?_
    obtain ⟨-, appended⟩ := ((digitCounted n c x).line n).handed_line (dialledTone digit)
    rw [State.modLine_line_same, appended.flight, counted]
    exact flight
  have waits : (digitCounted n c x).waitList = x.waitList := by
    obtain ⟨-, -, -, -, -, -, -, waitList, -⟩ := reports.keeps
    exact waitList
  have length := digitRecord_length digit c d false (((x.line n).estimator.map (·.p16)).getD 0)
  have clock : (digitCounted n c x).clock = x.clock := reports.clock
  have goes' : RecordGoesTo (digitCounted n c x)
      ((digitRecord digit c d false (((x.line n).estimator.map (·.p16)).getD 0)).length + 2) addr := by
    unfold RecordGoesTo
    rw [sameCapture, length]
    exact goes
  obtain ⟨page, -⟩ := recordAddress_bounds goes'
  obtain ⟨words, frame, causes⟩ := handedOver_records (n := n) (kind := .digit) (e := dialledTone digit)
    (sound' sound) goes'
  rw [clock, length] at words
  rw [← ends] at words frame causes
  have low (j : Nat) (small : j < 8) :
      v.words (faultSlotAddress j) 4 = (digitCounted n c x).words (faultSlotAddress j) 4 := by
    refine State.words_congr fun i hi => frame _ fun r hr => ?_
    obtain rfl := List.mem_singleton.mp hr
    have := faultSlotAddress_low small
    exact .inl (by dsimp only; omega)
  refine ⟨?_, ?_, words, fun j outside first goes => ?_, fun quiet => ?_⟩
  · rw [ends, handedOver, stands, capture_line, State.modLine_line_same, counted]
  · rw [ends, handedOver, stands]
    obtain ⟨-, -, -, -, -, -, -, waitList, -⟩ := (capture_reports .digit n
      (digitRecord digit c d false (((x.line n).estimator.map (·.p16)).getD 0))
      ((digitCounted n c x).modLine n (Line.handed (dialledTone digit)))).keeps
    exact waitList.trans waits
  · obtain ⟨reported, raised⟩ := fault sound j outside first goes
    exact ⟨(low j goes.2.1).trans reported, by rw [causes]; exact raised⟩
  · obtain ⟨sameCauses, peek⟩ := same quiet
    exact ⟨causes.trans sameCauses, fun j small => (low j small).trans (State.words_congr fun i _ => peek _)⟩

theorem Line.digitCounted_learnPending (h : l.learnPending = none) (off : Bool) :
    (l.digitCounted off).learnPending = none :=
  Line.dropped_learnPending h .active

theorem Line.handed_digitCounted (l : Line) (e : Entry) (off : Bool) :
    (Line.handed e (l.digitCounted off)) =
        { l with
          estimator := l.estimator.map Estimator.passOver, dialSpeedReported := l.dialSpeedReported || off
          digits := saturate 65535 l.digits, decoder := .atRest, firstDigit := none
          queue := (Line.handed e (l.digitCounted off)).queue } ∧
      l.queue.Appended e (Line.handed e (l.digitCounted off)).queue :=
  (l.digitCounted off).handed_line e

/-- The words of a record stand at the end of the line tick, whatever the wait of the line's request comes to. -/
theorem settle_waitTest_page (s g : State) {a k : Nat} (page : 0xA00 ≤ a) :
    (settle s (waitTest n g).state).words a k = g.words a k := by
  obtain ⟨-, -, peek⟩ := waitTest_order n g
  exact (settle_words_page s _ page).trans
    (State.words_congr fun i _ => peek _ (by omega) (.inr (by omega)))

theorem trainEnds_in_flight (sound : StoreSound s) (tick : SteadyTick n high sc s)
    (active : (s.line n).mode = .active) (sub : (s.line n).decoder.sub = .inMake)
    (counted : (s.line n).decoder.pulsePending = false) (ctx : (s.line n).decoder.ctx = some c)
    (start : (s.line n).decoder.makeStart = some ms) (long : c.tId ≤ since s.clock ms)
    (one : 1 ≤ (s.line n).decoder.pulses) (ten : (s.line n).decoder.pulses ≤ 10)
    (noLearn : NoLearn n s) (flight : (s.line n).queue.flight.isSome = true)
    (execution : (s.line n).queue.execution = .none) (room : (s.line n).queue.entries.length < 24)
    (goes : RecordGoesTo s (if (s.line n).decoder.periods = 0 then 4 else 6) addr) :
    ∃ t, exec (.trainEnd n high) s = .next t ∧
      let d := (s.line n).decoder
      let off := offBand (trainStatistics d) c
      let digit := digitOf c.map d.pulses
      (t.line n).decoder = .atRest ∧ (t.line n).firstDigit = none ∧
      (t.line n).digits = saturate 65535 (s.line n).digits ∧
      (t.line n).queue.entries = (s.line n).queue.entries ++ [dialledTone digit] ∧
      (t.line n).queue.flight = (s.line n).queue.flight ∧ (t.line n).mode = .active ∧
      (t.line n).hold = (s.line n).hold ∧ (t.line n).call = (s.line n).call ∧
      (t.line n).hitCount = (s.line n).hitCount ∧
      (t.line n).dialSpeedReported = ((s.line n).dialSpeedReported || off) ∧
      (∀ j : Nat, off = true → (s.line n).dialSpeedReported = false → FaultGoesTo s j →
        t.words (faultSlotAddress j) 4 = faultWords .dialSpeed n s.clock (meanPeriod d.periods d.periodSum) ∧
          t.causes.fault = true) ∧
      (off = false ∨ (s.line n).dialSpeedReported = true → s.waitList = [] →
        t.causes = s.causes ∧ ∀ j < 8, t.words (faultSlotAddress j) 4 = s.words (faultSlotAddress j) 4) ∧
      t.words addr (if d.periods = 0 then 4 else 6) =
        recordWords .digit n.val s.clock
          (digitRecord digit c d false (((s.line n).estimator.map (·.p16)).getD 0)) := by
  have supervised := superviseTick_ends (c := c) (ms := ms)
    (x := s.atTick n ((s.line n).taken high { sc with run := 0, candidate := none }))
    (by rw [State.atTick_line_same]; exact active) (by rw [State.atTick_line_same]; exact sub)
    (by rw [State.atTick_line_same]; exact counted) (by rw [State.atTick_line_same]; exact ctx)
    (by rw [State.atTick_line_same]; exact start) long
  rw [endTrain_digit (c := c) (by rw [State.atTick_line_same]; exact ctx)
    (by rw [State.atTick_line_same]; exact one) (by rw [State.atTick_line_same]; exact ten)] at supervised
  have next := tick.takes.row (e := .trainEnd) supervised (.inl (List.mem_singleton_self _))
  have noLearn' : ((s.line n).taken high { sc with run := 0, candidate := none }).learnPending = none := by
    rw [Line.taken_learnPending, Line.learnTicked_of_none noLearn]
    exact noLearn
  have line := s.atTick_line_same n ((s.line n).taken high { sc with run := 0, candidate := none })
  have handed := digitEnds_in_flight (n := n) (c := c) (addr := addr)
    (digit := digitOf c.map (s.line n).decoder.pulses)
    (x := s.atTick n ((s.line n).taken high { sc with run := 0, candidate := none }))
    (by rw [NoLearn, line]; exact noLearn') (by rw [line]; exact room) (by rw [line]; exact flight) sound
    (by rw [line]; exact goes)
  have estimate := Line.taken_estimator noLearn high { sc with run := 0, candidate := none }
  rw [line, estimate] at handed
  dsimp only [noting] at next
  rw [line] at next
  have decoder : ((s.line n).taken high { sc with run := 0, candidate := none }).decoder = (s.line n).decoder := rfl
  have entries : ((s.line n).taken high { sc with run := 0, candidate := none }).queue.entries =
    (s.line n).queue.entries := rfl
  have waits : s.waitList = [] →
      (s.atTick n ((s.line n).taken high { sc with run := 0, candidate := none })).waitList = [] := fun none => by
    rw [State.atTick_waitList, State.requestsTicked, none]
    rfl
  have clock := s.atTick_clock n ((s.line n).taken high { sc with run := 0, candidate := none })
  rw [decoder] at handed next
  have faults (j : Nat) : (s.atTick n ((s.line n).taken high { sc with run := 0, candidate := none })).words
    (faultSlotAddress j) 4 = s.words (faultSlotAddress j) 4 := rfl
  have causes : (s.atTick n ((s.line n).taken high { sc with run := 0, candidate := none })).causes = s.causes := rfl
  have goesOn (j : Nat) (goes : FaultGoesTo s j) :
    FaultGoesTo (s.atTick n ((s.line n).taken high { sc with run := 0, candidate := none })) j := goes
  generalize s.atTick n ((s.line n).taken high { sc with run := 0, candidate := none }) = x at *
  generalize digitEnds n (digitOf c.map (s.line n).decoder.pulses) c x = v at *
  obtain ⟨vLine, waitList, words, fresh, same⟩ := handed
  obtain ⟨handedLine, appended⟩ := Line.handed_digitCounted
    ((s.line n).taken high { sc with run := 0, candidate := none })
    (dialledTone (digitOf c.map (s.line n).decoder.pulses)) (offBand (trainStatistics (s.line n).decoder) c)
  rw [← vLine] at handedLine appended
  have noLearn'' : NoLearn n v := by
    rw [NoLearn, handedLine]
    exact Line.digitCounted_learnPending noLearn' false
  obtain ⟨g, final, gStore, gCauses, gWaitList, gClock, gLine, gQueue⟩ := timerTests_in_flight (v := v) (n := n)
    (by rw [handedLine]) noLearn'' (by rw [appended.flight]; exact flight)
    (by rw [appended.execution]; exact execution)
  rw [final] at next
  obtain ⟨page, -⟩ := recordAddress_bounds goes
  have gWords (a k : Nat) : g.words a k = v.words a k := State.words_congr fun i _ => State.peek_congr gStore _
  have gEntries : (g.line n).queue.entries = (v.line n).queue.entries := by rw [gQueue]
  have gFlight : (g.line n).queue.flight = (v.line n).queue.flight := by rw [gQueue]
  have noRequest (empty : s.waitList = []) : (waitTest n g).state = g := by
    have none : g.request n = none := by
      rw [State.request, gWaitList, waitList, waits empty]
      rfl
    rw [waitTest_of_no_request none]
    rfl
  refine ⟨_, next, ?_⟩
  dsimp only
  rw [settle_line, waitTest_line]
  dsimp only
  rw [gEntries, gFlight, appended.entries, appended.flight, gLine, handedLine]
  refine ⟨rfl, rfl, rfl, rfl, rfl, active, rfl, rfl, rfl, rfl, fun j outside first goes => ?_, fun quiet empty => ?_, ?_⟩
  · obtain ⟨fault, raised⟩ := fresh j outside first (goesOn j goes)
    rw [clock] at fault
    obtain ⟨stands, stays⟩ := waitTest_keeps_fault (n := n) (s := g) (by rw [gWords]; exact fault) goes.2.1
      (by rw [gCauses]; exact raised)
    exact ⟨(settle_words_fault s _ goes.2.1).trans stands, by rw [settle_causes]; exact stays⟩
  · obtain ⟨sameCauses, sameFaults⟩ := same quiet
    rw [noRequest empty, settle_causes, gCauses]
    exact ⟨sameCauses.trans causes, fun j small =>
      (settle_words_fault s g small).trans ((gWords _ _).trans ((sameFaults j small).trans (faults j)))⟩
  · rw [settle_waitTest_page s g page, gWords, words, clock]

/-! ### A digit behind which the head is examined -/

theorem digitEnds_line (noLearn : NoLearn n x) (room : (x.line n).queue.entries.length < 24) :
    (digitEnds n digit c x).line n =
      { (x.line n).digitCounted (offBand (trainStatistics (x.line n).decoder) c) with
        firstDigit := none, queue := ((digitEnds n digit c x).line n).queue
        hold := ((digitEnds n digit c x).line n).hold } := by
  have line := handedOver_line .digit n
    (digitRecord digit c (x.line n).decoder false (((x.line n).estimator.map (·.p16)).getD 0))
    (dialledTone digit) (digitCounted n c x)
  rw [← digitEnds_taken noLearn room] at line
  have counted := digitCounted_line (c := c) noLearn
  generalize digitEnds n digit c x = v at *
  rw [counted] at line
  exact line

theorem digitEnds_queuesAs (high : Bool) (sc : Scan) (alike : SendsAlike (s.atTick n ((s.line n).taken high sc)) x)
    (store : x.store = s.store) (noLearn : NoLearn n x) (room : (x.line n).queue.entries.length < 24)
    (call : (s.line n).call = some k) :
    QueuesAs (examineHead n (s.queueInTick n (·.handed k (dialledTone digit)))) (digitEnds n digit c x) := by
  rw [digitEnds_taken noLearn room]
  exact handedOver_queuesAs high sc (alike.trans (digitCounted_sendsAlike noLearn))
    (fun code => by rw [digitCounted_tones noLearn, store]) call

/-- No timer ends behind a digit handed over, on a state that keeps what its timers read. -/
theorem digitEnds_rest (raised : Raised n s x) (timers : TimersWait n k s) (call : (s.line n).call = some k)
    (noLearn : NoLearn n x) (room : (x.line n).queue.entries.length < 24)
    (queue : (t.line n).queue = ((digitEnds n digit c x).line n).queue) (sameCall : (t.line n).call = some k)
    (clock : t.clock = s.clock) (request : t.request n = (digitEnds n digit c x).request n)
    (firstDigit : (t.line n).firstDigit = none) (noLearn' : NoLearn n t) : TimersRest n t := by
  rw [digitEnds_taken noLearn room] at queue request
  have reports := digitCounted_reports (c := c) noLearn
  have counted := digitCounted_line (c := c) noLearn
  have raised' : Raised n s (digitCounted n c x) :=
    ⟨by rw [counted]; exact raised.call, by rw [counted]; exact raised.queue,
      (reports.request n).trans raised.request, reports.clock.trans raised.clock⟩
  have notPause (ms : Nat) : (dialledTone digit).kind ≠ .pause ms := EntryKind.noConfusion
  exact handedOver_rest raised' timers call notPause queue sameCall clock request firstDigit noLearn'

theorem digitEnds_clock (noLearn : NoLearn n x) (room : (x.line n).queue.entries.length < 24) :
    (digitEnds n digit c x).clock = x.clock := by
  rw [digitEnds_taken noLearn room]
  obtain ⟨-, -, -, -, clock⟩ := examineHead_keeps n ((digitCounted n c x).modLine n (Line.handed (dialledTone digit)))
  exact (capture_reports .digit n _ _).clock.trans (clock.trans (digitCounted_reports (c := c) noLearn).clock)

theorem digitEnds_learnPending (noLearn : NoLearn n x) (room : (x.line n).queue.entries.length < 24) :
    NoLearn n (digitEnds n digit c x) := by
  have line := digitEnds_line (digit := digit) (c := c) noLearn room
  generalize digitEnds n digit c x = v at *
  rw [NoLearn, Line.learnPending, line]
  exact Line.digitCounted_learnPending noLearn (offBand (trainStatistics (x.line n).decoder) c)

/-- A line tick of a call in which a train ends with its make. -/
structure EndsTrain (n : LineNo) (c : TrainContext) (s : State) : Prop where
  active : (s.line n).mode = .active
  sub : (s.line n).decoder.sub = .inMake
  counted : (s.line n).decoder.pulsePending = false
  ctx : (s.line n).decoder.ctx = some c
  long : ∃ ms, (s.line n).decoder.makeStart = some ms ∧ c.tId ≤ since s.clock ms

theorem EndsTrain.supervises (h : EndsTrain n c s) (high : Bool) (sc : Scan) :
    superviseTick n none (s.atTick n ((s.line n).taken high sc)) =
      noting .trainEnd (endTrain n (s.atTick n ((s.line n).taken high sc))) := by
  obtain ⟨active, sub, counted, ctx, ms, start, long⟩ := h
  have line := s.atTick_line_same n ((s.line n).taken high sc)
  exact superviseTick_ends (c := c) (ms := ms) (by rw [line]; exact active) (by rw [line]; exact sub)
    (by rw [line]; exact counted) (by rw [line]; exact ctx) (by rw [line]; exact start) long

theorem taken_noLearn (noLearn : NoLearn n s) (high : Bool) (sc : Scan) :
    NoLearn n (s.atTick n ((s.line n).taken high sc)) := by
  rw [NoLearn, State.atTick_line_same, Line.taken_learnPending, Line.learnTicked_of_none noLearn]
  exact noLearn

theorem trainEnds_queued (tick : SteadyTick n high sc s) (ends : EndsTrain n c s) (call : (s.line n).call = some k)
    (noLearn : NoLearn n s) (timers : TimersWait n k s) (one : 1 ≤ (s.line n).decoder.pulses)
    (ten : (s.line n).decoder.pulses ≤ 10) (room : (s.line n).queue.entries.length < 24) :
    ∃ t, exec (.trainEnd n high) s = .next t ∧ (t.line n).decoder = .atRest ∧ (t.line n).firstDigit = none ∧
      QueuesAs (examineHead n (s.queueInTick n
        (·.handed k (dialledTone (digitOf c.map (s.line n).decoder.pulses))))) t := by
  have takes := tick.takes
  generalize ({ sc with run := 0, candidate := none } : Scan) = sc' at takes
  have supervised := ends.supervises high sc'
  have line := s.atTick_line_same n ((s.line n).taken high sc')
  rw [endTrain_digit (c := c) (by rw [line]; exact ends.ctx) (by rw [line]; exact one)
    (by rw [line]; exact ten), line] at supervised
  have decoder : ((s.line n).taken high sc').decoder = (s.line n).decoder := rfl
  rw [decoder] at supervised
  have noLearn' := taken_noLearn noLearn high sc'
  have alike : SendsAlike (s.atTick n ((s.line n).taken high sc')) (s.atTick n ((s.line n).taken high sc')) :=
    .of_store (fun _ => .refl _) rfl rfl rfl rfl rfl
  have few : ((s.atTick n ((s.line n).taken high sc')).line n).queue.entries.length < 24 := by
    rw [line]; exact room
  have handed := digitEnds_line (digit := digitOf c.map (s.line n).decoder.pulses) (c := c) noLearn' few
  rw [line] at handed
  have queues := digitEnds_queuesAs (digit := digitOf c.map (s.line n).decoder.pulses) (c := c) high sc' alike rfl
    noLearn' few call
  have rests := digitEnds_rest (digit := digitOf c.map (s.line n).decoder.pulses) (c := c)
    (t := digitEnds n (digitOf c.map (s.line n).decoder.pulses) c (s.atTick n ((s.line n).taken high sc')))
    alike.raised timers call noLearn' few rfl
  have clock := digitEnds_clock (digit := digitOf c.map (s.line n).decoder.pulses) (c := c) noLearn' few
  have pending := digitEnds_learnPending (digit := digitOf c.map (s.line n).decoder.pulses) (c := c) noLearn' few
  generalize digitEnds n (digitOf c.map (s.line n).decoder.pulses) c (s.atTick n ((s.line n).taken high sc')) = v at *
  have rest := rests (by rw [handed]; exact call) clock rfl (by rw [handed]) pending
  obtain ⟨-, row⟩ := takes.rests supervised rest
  refine ⟨_, row .trainEnd (List.mem_singleton_self _), ?_, ?_, queues.settle s⟩
  · dsimp only [noting]
    rw [settle_line, handed]
    rfl
  · dsimp only [noting]
    rw [settle_line, handed]

/-! ### An entry lost -/

/-- A line tick that decides a hand-over to a full queue, on a state `y` that sends as the line tick found the part. -/
theorem Takes.lost {body : List Word} {kind : RecordKind} (takes : Takes n high s sc edge)
    (supervised : superviseTick n edge (s.atTick n ((s.line n).taken high sc)) = w)
    (state : w.state = handedLost kind n body e y)
    (alike : SendsAlike (s.atTick n ((s.line n).taken high sc)) y) (store : y.store = s.store)
    (capture : y.capture = s.capture) (causes : y.causes = s.causes) (call : (s.line n).call = some k)
    (timers : TimersWait n k s) (stopped : (y.line n).firstDigit = none) (noLearn : NoLearn n y)
    (sound : StoreSound s) (goes : RecordGoesTo s (body.length + 2) addr) :
    ∃ t, exec (.lineTick n high) s = .next t ∧ (∀ e ∈ w.events, exec (e.row n high) s = .next t) ∧
      (t.line n).decoder = (y.line n).decoder ∧ (t.line n).digits = (y.line n).digits ∧
      QueuesAs (s.queueInTick n (·.restarted k)) t ∧
      t.words addr (body.length + 2) = recordWords kind n.val s.clock body ∧
      (t.line n).overflowReported = true ∧
      (∀ j : Nat, (y.line n).overflowReported = false → FaultGoesTo s j →
        t.words (faultSlotAddress j) 4 = faultWords .queueOverflow n s.clock (lostCode e.kind) ∧
          t.causes.fault = true) ∧
      ((y.line n).overflowReported = true →
        t.causes = s.causes ∧ ∀ j < 8, t.words (faultSlotAddress j) 4 = s.words (faultSlotAddress j) 4) := by
  have raised := alike.raised
  have peek := State.peek_congr store
  have lost := handedLost_line kind n body e y
  have restarted := Line.restartGather_of_call (raised.call.trans call)
  rw [restarted] at lost
  have queues := handedLost_queuesAs (kind := kind) (e := e) (body := body) high sc alike
    (fun code => by rw [store]) call
  have rests := handedLost_rest (kind := kind) (e := e) (body := body) (t := handedLost kind n body e y)
    raised timers call rfl
  have reports := handedLost_reports kind n body e y
  obtain ⟨words, fresh, again⟩ := handedLost_records (n := n) (kind := kind) (e := e) (addr := addr) (y := y)
    (body := body) (by rw [StoreSound, store]; exact sound) (by unfold RecordGoesTo; rw [capture]; exact goes)
  rw [raised.clock] at words fresh
  obtain ⟨page, -⟩ := recordAddress_bounds goes
  have request := reports.request n
  generalize handedLost kind n body e y = v at *
  have rest : TimersRest n w.state := by
    rw [state]
    exact rests request (by rw [lost]; exact stopped)
      (by rw [NoLearn, Line.learnPending, lost]; exact noLearn)
  obtain ⟨next, row⟩ := takes.rests supervised rest
  rw [state] at next row
  refine ⟨_, next, row, by rw [settle_line, lost], by rw [settle_line, lost], queues.settle s,
    (settle_words_page s v page).trans words, by rw [settle_line, lost], fun j first goes => ?_, fun reported => ?_⟩
  · have goes' : FaultGoesTo y j := by
      obtain ⟨clear, small, free, taken⟩ := goes
      exact ⟨(peek _).trans clear, small, (peek _).trans free, fun i before => by rw [peek]; exact taken i before⟩
    obtain ⟨fault, up⟩ := fresh j first goes'
    exact ⟨(settle_words_fault s v goes.2.1).trans fault, by rw [settle_causes]; exact up⟩
  · obtain ⟨sameCauses, frame⟩ := again reported
    refine ⟨by rw [settle_causes, sameCauses, causes], fun j small => ?_⟩
    refine (settle_words_fault s v small).trans (State.words_congr fun i hi => ?_)
    refine (frame _ fun r hr => ?_).trans (peek _)
    obtain rfl := List.mem_singleton.mp hr
    have := faultSlotAddress_low small
    exact .inl (by dsimp only; omega)

theorem sendsAlike_atTick (same : l.SendsAs l') : SendsAlike (s.atTick n l) (s.atTick n l') := by
  refine .of_store (fun m => ?_) rfl rfl rfl rfl rfl
  by_cases here : m = n
  · subst here
    rw [State.atTick_line_same, State.atTick_line_same]
    exact same
  · rw [s.atTick_line_other _ here, s.atTick_line_other _ here]
    exact .refl _

theorem trainEnds_full (sound : StoreSound s) (tick : SteadyTick n high sc s) (ends : EndsTrain n c s)
    (call : (s.line n).call = some k) (noLearn : NoLearn n s) (timers : TimersWait n k s)
    (one : 1 ≤ (s.line n).decoder.pulses) (ten : (s.line n).decoder.pulses ≤ 10)
    (full : 24 ≤ (s.line n).queue.entries.length) (stopped : (s.line n).firstDigit = none)
    (inBand : offBand (trainStatistics (s.line n).decoder) c = false)
    (goes : RecordGoesTo s (if (s.line n).decoder.periods = 0 then 4 else 6) addr) :
    let d := (s.line n).decoder
    let digit := digitOf c.map d.pulses
    ∃ t, exec (.trainEnd n high) s = .next t ∧ (t.line n).decoder = .atRest ∧
      QueuesAs (s.queueInTick n (·.restarted k)) t ∧
      (t.line n).digits = saturate 65535 (s.line n).digits ∧
      t.words addr (if d.periods = 0 then 4 else 6) =
        recordWords .digit n.val s.clock
          (digitRecord digit c d true (((s.line n).estimator.map (·.p16)).getD 0)) ∧
      (t.line n).overflowReported = true ∧
      (∀ j : Nat, (s.line n).overflowReported = false → FaultGoesTo s j →
        t.words (faultSlotAddress j) 4 = faultWords .queueOverflow n s.clock digit ∧ t.causes.fault = true) ∧
      ((s.line n).overflowReported = true →
        t.causes = s.causes ∧ ∀ j < 8, t.words (faultSlotAddress j) 4 = s.words (faultSlotAddress j) 4) := by
  have takes := tick.takes
  generalize ({ sc with run := 0, candidate := none } : Scan) = sc' at takes
  have supervised := ends.supervises high sc'
  have line := s.atTick_line_same n ((s.line n).taken high sc')
  have noLearn' := taken_noLearn noLearn high sc'
  have decoder : ((s.line n).taken high sc').decoder = (s.line n).decoder := rfl
  have estimate := Line.taken_estimator noLearn high sc'
  rw [endTrain_digit (c := c) (by rw [line]; exact ends.ctx) (by rw [line]; exact one)
    (by rw [line]; exact ten), digitEnds_lost noLearn' (by rw [line]; exact full),
    digitCounted_steady noLearn' (by rw [line]; exact inBand), State.atTick_modLine, line, decoder, estimate]
    at supervised
  rw [NoLearn, line] at noLearn'
  intro d digit
  have length := digitRecord_length digit c d true (((s.line n).estimator.map (·.p16)).getD 0)
  have alike : SendsAlike (s.atTick n ((s.line n).taken high sc'))
      (s.atTick n (((s.line n).taken high sc').digitCounted false)) := sendsAlike_atTick ⟨rfl, rfl, rfl, rfl⟩
  have line' := s.atTick_line_same n (((s.line n).taken high sc').digitCounted false)
  have stopped' : (((s.line n).taken high sc').digitCounted false).firstDigit = none := by
    show (s.line n).firstDigit.map _ = none
    rw [stopped]
    rfl
  have again : ((s.atTick n (((s.line n).taken high sc').digitCounted false)).line n).overflowReported =
      (s.line n).overflowReported := by rw [line']; rfl
  obtain ⟨t, -, row, train, digits, queues, words, flag, fresh, rest⟩ := takes.lost supervised rfl alike rfl rfl rfl
    call timers (by rw [line']; exact stopped')
    (by rw [NoLearn, line']; exact Line.digitCounted_learnPending noLearn' false) sound
    (by rw [length]; exact goes)
  rw [line'] at train digits
  rw [again] at fresh rest
  rw [length] at words
  exact ⟨t, row .trainEnd (List.mem_singleton_self _), train, queues, digits, words, flag, fresh, rest⟩

/-! ### A train without a digit -/

/-- The line of a train that has ended without a digit. -/
def Line.abandoned (l : Line) : Line := { l with estimator := l.estimator.map Estimator.passOver, decoder := .atRest }

theorem abandonTrain_eq (n : LineNo) (s : State) : abandonTrain n s = s.modLine n Line.abandoned := by
  unfold abandonTrain trainWithoutDigit State.modDecoder State.modEstimator
  rw [State.modLine_modLine]
  rfl

theorem Line.abandoned_learnPending (h : l.learnPending = none) : l.abandoned.learnPending = none :=
  Line.dropped_learnPending h .active

/-- The timers of a call whose queue unit the line tick leaves alone. -/
theorem Raised.rest (raised : Raised n s t) (timers : TimersWait n k s) (gather : GatherWaits n s)
    (stopped : (t.line n).firstDigit = none) (noLearn : NoLearn n t) : TimersRest n t := by
  have ⟨execution, _, _, _, _, _, waits⟩ := timers
  exact ⟨firstDigitTest_of_stopped stopped, learnTest_of_none noLearn,
    gatherTest_ticked gather (congrArg QueueUnit.gatherTimer raised.queue),
    executionTest_of_none (by rw [raised.queue]; exact execution), waitTest_atTick waits raised.request⟩

theorem tooManyWords (n : LineNo) (time : Tick) (count : Nat) :
    recordWords .mutilated n.val time (mutilatedBody .tooMany count) =
      [asWord (0x3300 + n.val), time, asWord (512 + count % 256)] := by
  rw [recordWords_eq]
  simp [recordValue, mutilatedBody]

theorem longBreakWords (n : LineNo) (time : Tick) (count : Nat) :
    recordWords .mutilated n.val time (mutilatedBody .longBreak count) =
      [asWord (0x3300 + n.val), time, asWord (256 + count % 256)] := by
  rw [recordWords_eq]
  simp [recordValue, mutilatedBody]

/-- A line tick that decides that a train is lost, with its record. -/
theorem Takes.mutilates {reason : MutilatedReason} {count : Nat} (takes : Takes n high s sc edge)
    (supervised : superviseTick n edge (s.atTick n ((s.line n).taken high sc)) = w)
    (state : w.state = abandonTrain n (capture .mutilated n (mutilatedBody reason count)
      (s.atTick n ((s.line n).taken high sc))))
    (timers : TimersWait n k s) (gather : GatherWaits n s) (stopped : (s.line n).firstDigit = none)
    (noLearn : NoLearn n s) (sound : StoreSound s) (goes : RecordGoesTo s 3 addr) :
    ∃ t, exec (.lineTick n high) s = .next t ∧ (∀ e ∈ w.events, exec (e.row n high) s = .next t) ∧
      (t.line n).decoder = .atRest ∧ QueuesAs (s.queueInTick n id) t ∧ (t.line n).digits = (s.line n).digits ∧
      t.words addr 3 = recordWords .mutilated n.val s.clock (mutilatedBody reason count) ∧ t.causes = s.causes := by
  have line := s.atTick_line_same n ((s.line n).taken high sc)
  have noLearn' := taken_noLearn noLearn high sc
  have reports := (capture_reports .mutilated n (mutilatedBody reason count)
    (s.atTick n ((s.line n).taken high sc))).modLine n Line.abandoned
  have words := capture_words .mutilated n (mutilatedBody reason count)
    (s := s.atTick n ((s.line n).taken high sc)) sound goes
  have form := capture_goes .mutilated n (mutilatedBody reason count)
    (s := s.atTick n ((s.line n).taken high sc)) goes
  have causes : (capture .mutilated n (mutilatedBody reason count)
      (s.atTick n ((s.line n).taken high sc))).causes = s.causes := by rw [form]; rfl
  have alike := queueInTick_moved (s := s) (n := n) (y := s.atTick n ((s.line n).taken high sc)) high sc id
    Line.abandoned (.of_store (fun _ => .refl _) rfl rfl rfl rfl rfl) (fun _ => rfl) ⟨rfl, rfl, rfl, rfl⟩
  have queues := alike.queuesAs.trans reports.queuesAs
  have stopped' : ((s.line n).taken high sc).firstDigit = none := by
    show (s.line n).firstDigit.map _ = none
    rw [stopped]
    rfl
  have moved := abandonTrain_eq n (capture .mutilated n (mutilatedBody reason count)
    (s.atTick n ((s.line n).taken high sc)))
  have last : (abandonTrain n (capture .mutilated n (mutilatedBody reason count)
      (s.atTick n ((s.line n).taken high sc)))).line n = ((s.line n).taken high sc).abandoned := by
    rw [moved, reports.line, State.modLine_line_same, line]
  have request := reports.request n
  have clock := reports.clock
  obtain ⟨page, -⟩ := recordAddress_bounds goes
  rw [← moved] at queues request clock
  rw [NoLearn, line] at noLearn'
  have store : (abandonTrain n (capture .mutilated n (mutilatedBody reason count)
      (s.atTick n ((s.line n).taken high sc)))).store = (capture .mutilated n (mutilatedBody reason count)
      (s.atTick n ((s.line n).taken high sc))).store := by rw [moved]; rfl
  have causes' : (abandonTrain n (capture .mutilated n (mutilatedBody reason count)
      (s.atTick n ((s.line n).taken high sc)))).causes = s.causes := by rw [moved]; exact causes
  have asks := s.atTick_request n ((s.line n).taken high sc)
  generalize capture .mutilated n (mutilatedBody reason count) (s.atTick n ((s.line n).taken high sc)) = u at *
  generalize abandonTrain n u = v at *
  have raised : Raised n s v := ⟨by rw [last]; rfl, by rw [last]; rfl, request.trans asks, clock⟩
  have rest : TimersRest n w.state := by
    rw [state]
    exact raised.rest timers gather (by rw [last]; exact stopped')
      (by rw [NoLearn, last]; exact Line.abandoned_learnPending noLearn')
  obtain ⟨next, row⟩ := takes.rests supervised rest
  rw [state] at next row
  refine ⟨_, next, row, by rw [settle_line, last]; rfl, queues.settle s, by rw [settle_line, last]; rfl, ?_, ?_⟩
  · exact (settle_words_page s v page).trans ((State.words_congr fun i _ => State.peek_congr store _).trans words)
  · rw [settle_causes, causes']

/-- Settles O15: a digit is counted, handed over or lost, and recorded; the timers' tests behind it find nothing but a
gather or a request's wait. -/
theorem trainEndsAsDigitOrMutilated : Obligations.TrainEndsAsDigitOrMutilated := by
  unfold Obligations.TrainEndsAsDigitOrMutilated
  refine ⟨?_, ?_⟩
  · intro n high sc c ms e digit s addr sound tick closed active sub counted ctx start long one ten digit_eq
      estimator noLearn flight execution room goes
    obtain ⟨t, next, decoder, firstDigit, digits, entries, inFlight, mode, hold, call, hits, reported, fresh, quiet,
      words⟩ := trainEnds_in_flight sound tick active sub counted ctx start long one ten noLearn flight execution
        room goes
    subst digit_eq
    have small := digitOf_lt (m := c.map) one ten
    rw [estimator, digitRecord_words n s.clock small (by omega)] at words
    refine ⟨t, next, decoder, firstDigit, digits, entries, inFlight, mode, hold, call, hits, reported, fresh, quiet, ?_⟩
    by_cases none : (s.line n).decoder.periods = 0
    · simpa [none, Nat.add_assoc] using words
    · simpa [none, Nat.add_assoc, meanPeriod, makePercent] using words
  · intro n high sc c k ms s tick closed active call sub counted ctx start long noLearn timers
    have ends : EndsTrain n c s := ⟨active, sub, counted, ctx, ms, start, long⟩
    refine ⟨fun one ten room => trainEnds_queued tick ends call noLearn timers one ten room,
      fun addr sound one ten full stopped inBand goes => ?_, fun addr sound many stopped gather goes => ?_⟩
    · obtain ⟨t, next, decoder, queues, digits, words, flag, fresh, again⟩ :=
        trainEnds_full sound tick ends call noLearn timers one ten full stopped inBand goes
      refine ⟨t, next, decoder, queues, digits, ?_, flag, fresh, again⟩
      rw [digitRecord_words n s.clock (digitOf_lt one ten) (by omega), inBand] at words
      exact peek_of_words (i := 2) words rfl
    · have line := s.atTick_line_same n ((s.line n).taken high { sc with run := 0, candidate := none })
      have supervised := ends.supervises high { sc with run := 0, candidate := none }
      rw [endTrain_tooMany (c := c) (by rw [line]; exact ctx) (by rw [line]; exact many), line] at supervised
      obtain ⟨t, -, row, decoder, queues, digits, words, causes⟩ :=
        tick.takes.mutilates supervised rfl timers gather stopped noLearn sound goes
      exact ⟨t, row .trainEnd (List.mem_singleton_self _), decoder, queues, digits,
        words.trans (tooManyWords n s.clock _), causes⟩

end Sys2Proof.Machine
end

section
/-! The edges that a decoder takes (R40 to R43). Settles O42. -/

namespace Sys2Proof.Machine

variable {s t u v x y : State} {n m : LineNo} {high : Bool} {sc sc' : Scan} {l l' : Line} {d : Decoder}
  {w : Ticked} {e : Estimator} {k : CallContext} {c : TrainContext} {digit : Nat} {addr j : Nat}
  {edge : Option Edge} {stamp bs ms : Tick} {a : AdoptedSet}

/-! ### What every test of a timer keeps of the line -/

theorem firstDigitTest_line (n : LineNo) (s : State) :
    (firstDigitTest n s).state.line n = s.line n ∨
      (firstDigitTest n s).state.line n = (s.line n).dropped .lockout := by
  unfold firstDigitTest
  split
  · refine .inr ?_
    show (expireFirstDigit n s).line n = _
    rw [(expireFirstDigit_reports n s).line, dropCall_line]
  · exact .inl rfl

/-- What the end of a call, the end of a LEARN and sending keep of a line, the tests of the timers keep. -/
theorem timerTests_keeps {p : Line → Prop} (dropped : ∀ l : Line, p l → p (l.dropped .lockout))
    (estimator : ∀ (l : Line) (E : Option Estimator), p l → p { l with estimator := E })
    (sent : ∀ l l' : Line, SendOnly l l' → p l → p l') (h : p (s.line n)) :
    p ((timerTests n s).state.line n) := by
  have first (u : State) (hu : p (u.line n)) : p ((firstDigitTest n u).state.line n) := by
    obtain same | drops := firstDigitTest_line n u
    · rw [same]; exact hu
    · rw [drops]; exact dropped _ hu
  have learn (u : State) (hu : p (u.line n)) : p ((learnTest n u).state.line n) := by
    obtain ⟨⟨E, line⟩, -⟩ := learnTest_line n u
    rw [line]
    exact estimator _ E hu
  have expiry : p ((expiryTests n s).state.line n) := by
    unfold expiryTests
    split
    · exact first _ (learn s h)
    · exact learn _ (first s h)
  unfold timerTests
  simp only [Ticked.andThen]
  rw [waitTest_line]
  exact sent _ _ (executionTest_sendOnly n _) (sent _ _ (gatherTest_sendOnly n _) expiry)

theorem timerTests_atRest {hits : Nat} (h : (s.line n).decoder = .atRest ∧ (s.line n).hitCount = hits) :
    ((timerTests n s).state.line n).decoder = .atRest ∧ ((timerTests n s).state.line n).hitCount = hits := by
  refine timerTests_keeps (p := fun l => l.decoder = .atRest ∧ l.hitCount = hits) (fun _ hl => ⟨rfl, hl.2⟩)
    (fun _ _ hl => hl) (fun _ _ sent hl => ?_) h
  obtain ⟨-, -, -, -, -, -, -, -, -, hitCount, -, -, decoder, -⟩ := sent.keeps
  exact ⟨decoder.trans hl.1, hitCount.trans hl.2⟩

/-! ### The end of a break -/

theorem breakEnds_hit (short : (s.line n).decoder.sinceBreak stamp < (s.line n).decoder.limit (·.breakMin))
    (none : (s.line n).decoder.pulses = 0) :
    breakEnds n stamp s = quietly (abandonTrain n (raiseHits n s)) := by
  unfold breakEnds
  dsimp only
  rw [if_pos short, if_pos none]

theorem breakEnds_hit_counted
    (short : (s.line n).decoder.sinceBreak stamp < (s.line n).decoder.limit (·.breakMin))
    (some : 0 < (s.line n).decoder.pulses) : breakEnds n stamp s = makeTest n (hitInMake n s) := by
  unfold breakEnds
  dsimp only
  rw [if_pos short, if_neg (Nat.pos_iff_ne_zero.mp some)]

theorem breakEnds_pulse (least : (s.line n).decoder.limit (·.breakMin) ≤ (s.line n).decoder.sinceBreak stamp)
    (most : (s.line n).decoder.sinceBreak stamp ≤ (s.line n).decoder.limit (·.breakMax)) :
    breakEnds n stamp s = makeTest n (candidatePulse n stamp s) := by
  unfold breakEnds
  dsimp only
  rw [if_neg (Nat.not_lt.mpr least), if_pos most]

theorem breakEnds_longer (least : (s.line n).decoder.limit (·.breakMin) ≤ (s.line n).decoder.sinceBreak stamp)
    (more : (s.line n).decoder.limit (·.breakMax) < (s.line n).decoder.sinceBreak stamp)
    (short : (s.line n).decoder.sinceBreak stamp < (s.line n).decoder.limit (·.flashMax)) :
    breakEnds n stamp s = quietly
      (if (s.line n).decoder.pulses = 0 then flash n ((s.line n).decoder.sinceBreak stamp) s
        else longBreak n s) := by
  unfold breakEnds
  dsimp only
  rw [if_neg (Nat.not_lt.mpr least), if_neg (Nat.not_le.mpr more), if_pos short]

theorem breakEnds_clears (least : (s.line n).decoder.limit (·.breakMin) ≤ (s.line n).decoder.sinceBreak stamp)
    (more : (s.line n).decoder.limit (·.breakMax) < (s.line n).decoder.sinceBreak stamp)
    (long : (s.line n).decoder.limit (·.flashMax) ≤ (s.line n).decoder.sinceBreak stamp) :
    breakEnds n stamp s = noting .clear (startSeizing n stamp (clearCall n s)) := by
  unfold breakEnds
  dsimp only
  rw [if_neg (Nat.not_lt.mpr least), if_neg (Nat.not_le.mpr more), if_neg (Nat.not_lt.mpr long)]

/-! ### The lines that edges leave -/

/-- The line with a hit counted. -/
def Line.hit (l : Line) : Line := { l with hitCount := saturate 255 l.hitCount }

/-- The decoder that a hit in MAKE leaves: the make goes on, with the pulse counted. -/
def Decoder.hitInMake (d : Decoder) : Decoder :=
  { d with
    sub := .inMake, pulsePending := false, breakStart := d.countedBreakStart, candidateMake := none, hits := true }

theorem raiseHits_atTick (s : State) (n : LineNo) (l : Line) : raiseHits n (s.atTick n l) = s.atTick n l.hit :=
  s.atTick_modLine n l _

/-- The line behind a hit in MAKE. -/
def Line.hitInMake (l : Line) : Line := { l.hit with decoder := l.decoder.hitInMake }

/-- The line with a candidate pulse, its make begun at the stamp. -/
def Line.candidate (stamp : Tick) (l : Line) : Line :=
  { l with decoder := { l.decoder with sub := .inMake, pulsePending := true, makeStart := some stamp } }

theorem hitInMake_atTick (s : State) (n : LineNo) (l : Line) :
    hitInMake n (s.atTick n l) = s.atTick n l.hitInMake := by
  unfold hitInMake State.modDecoder
  rw [raiseHits_atTick, State.atTick_modLine]
  rfl

theorem candidatePulse_atTick (s : State) (n : LineNo) (l : Line) (stamp : Tick) :
    candidatePulse n stamp (s.atTick n l) = s.atTick n (l.candidate stamp) := by
  unfold candidatePulse State.modDecoder
  rw [State.atTick_modLine]
  rfl

theorem abandonTrain_atTick (s : State) (n : LineNo) (l : Line) :
    abandonTrain n (s.atTick n l) = s.atTick n l.abandoned := by
  rw [abandonTrain_eq, State.atTick_modLine]

theorem makeTest_atTick
    (pending : l.decoder.pulsePending = true → l.decoder.sinceMake s.clock < l.decoder.limit (·.makeMin))
    (counted : l.decoder.pulsePending = false → l.decoder.sinceMake s.clock < l.decoder.limit (·.tId)) :
    makeTest n (s.atTick n l) = quietly (s.atTick n l) := by
  have line := s.atTick_line_same n l
  exact makeTest_of_short (by rw [line]; exact pending) (by rw [line]; exact counted)

/-! ### A line tick that moves the decoder -/

/-- A line tick that moves the decoder, the counts of the call or the estimator, with the first-digit timer running
on. -/
theorem Takes.decides (takes : Takes n high s sc edge)
    (supervised : superviseTick n edge (s.atTick n ((s.line n).taken high sc)) = quietly (s.atTick n l))
    (waits : FirstDigitWaits n s) (firstDigit : l.firstDigit = (s.line n).ticked.firstDigit) :
    ∃ t, exec (.lineTick n high) s = .next t ∧ (t.line n).mode = l.mode ∧
      (t.line n).firstDigit = (s.line n).ticked.firstDigit ∧ (t.line n).decoder = l.decoder ∧
      (t.line n).hitCount = l.hitCount ∧ (t.line n).estimator.map (·.p16) = l.estimator.map (·.p16) ∧
      (t.line n).mute = t.muteOn n := by
  have line := s.atTick_line_same n l
  have quiet : firstDigitTest n (s.atTick n l) = quietly (s.atTick n l) :=
    firstDigitTest_ticked waits (by rw [line]; exact firstDigit)
  obtain ⟨t, next, -, tested⟩ := takes.tests supervised quiet
  have kept := tested.keeps
  have p16 := tested.p16
  have mute := tested.mute
  dsimp only [quietly] at kept p16
  rw [line] at kept p16
  obtain ⟨mode, -, firstDigit', decoder, hits, -⟩ := kept
  exact ⟨t, next, mode, firstDigit'.trans firstDigit, decoder, hits, p16, mute⟩

/-! ### The start of a train -/

theorem Line.taken_estimator_some (h : l.estimator = some e) (high : Bool) (sc : Scan) :
    ∃ L, (l.taken high sc).estimator = some { e with learn := L } := by
  refine ⟨e.learn.map fun x => { x with timer := { x.timer with count := x.timer.count + 1 } }, ?_⟩
  show l.estimator.map _ = _
  rw [h]
  rfl

theorem Estimator.trainStart_p16 (e : Estimator) (L : Option Learn) (a : AdoptedSet) :
    (Estimator.trainStart { e with learn := L } a).p16 = (e.trainStart a).p16 := by
  unfold Estimator.trainStart
  dsimp only
  split <;> rfl

theorem startedTrain_learn (e : Estimator) (L : Option Learn) (a : AdoptedSet) (stamp : Tick) :
    startedTrain a { e with learn := L } stamp = startedTrain a e stamp := by
  unfold startedTrain
  rw [Estimator.trainStart_p16]

theorem opensInQuiet (n : LineNo) (high : Bool) (sc : Scan) (a : AdoptedSet) (k : CallContext) (e : Estimator)
    (s : State) (tick : EdgeTick n high sc a s) (opened : corrected sc.polarity high = .opened)
    (onCall : OnCall n k s) (waits : FirstDigitWaits n s) (quiet : (s.line n).decoder.sub = .quiet)
    (estimator : (s.line n).estimator = some e) (short : since s.clock (edgeStampOf sc s) < a.flashMax) :
    ∃ t, exec (.lineTick n high) s = .next t ∧ (t.line n).mode = .active ∧
       (t.line n).mute = true ∧
       (t.line n).decoder = startedTrain a e (edgeStampOf sc s) ∧
       (t.line n).firstDigit = (s.line n).ticked.firstDigit ∧
       (t.line n).estimator.map (·.p16) = some (e.trainStart a).p16 := by
  have takes := tick.takes
  obtain ⟨-, -, set, -⟩ := tick
  obtain ⟨active, -⟩ := onCall
  rw [opened] at takes
  generalize sc.turned .opened (edgeStampOf sc s) = sc' at takes
  obtain ⟨L, estimated⟩ := Line.taken_estimator_some estimator high sc'
  have line := s.atTick_line_same n ((s.line n).taken high sc')
  have starts := decodeTick_starts (s := s.atTick n ((s.line n).taken high sc')) (n := n) (a := a)
    (stamp := edgeStampOf sc s) (e := { e with learn := L }) (by rw [line]; exact quiet)
    ((taken_setInForce n high sc' s).trans set) (by rw [line]; exact estimated) short
  rw [State.atTick_modLine, startedTrain_learn] at starts
  have supervised := (superviseTick_active (s := s.atTick n ((s.line n).taken high sc')) (n := n)
    (by rw [line]; exact active) _).trans starts
  obtain ⟨t, next, mode, firstDigit, decoder, -, p16, mute⟩ := takes.decides supervised waits rfl
  refine ⟨t, next, mode.trans active, ?_, decoder, firstDigit, ?_⟩
  · rw [mute, State.muteOn_of_active (mode.trans active), decoder]
    rfl
  · rw [p16]
    exact congrArg some (Estimator.trainStart_p16 e L a)

/-! ### A CLOSED edge in BREAK -/

/-- A line tick that finds a CLOSED edge at the end of a break. -/
structure EndsBreak (n : LineNo) (high : Bool) (sc' : Scan) (stamp : Tick) (c : TrainContext) (bs : Tick)
    (s : State) : Prop where
  takes : Takes n high s sc' (some { level := .closed, stamp := stamp })
  active : (s.line n).mode = .active
  sub : (s.line n).decoder.sub = .inBreak
  ctx : (s.line n).decoder.ctx = some c
  start : (s.line n).decoder.breakStart = some bs

theorem EdgeTick.endsBreak (tick : EdgeTick n high sc a s) (closed : corrected sc.polarity high = .closed)
    (active : (s.line n).mode = .active) (sub : (s.line n).decoder.sub = .inBreak)
    (ctx : (s.line n).decoder.ctx = some c) (start : (s.line n).decoder.breakStart = some bs) :
    EndsBreak n high (sc.turned .closed (edgeStampOf sc s)) (edgeStampOf sc s) c bs s := by
  have takes := tick.takes
  rw [closed] at takes
  exact ⟨takes, active, sub, ctx, start⟩

theorem EndsBreak.supervises (h : EndsBreak n high sc' stamp c bs s) :
    superviseTick n (some { level := .closed, stamp := stamp }) (s.atTick n ((s.line n).taken high sc')) =
      breakEnds n stamp (s.atTick n ((s.line n).taken high sc')) := by
  have line := s.atTick_line_same n ((s.line n).taken high sc')
  exact (superviseTick_active (by rw [line]; exact h.active) _).trans
    (decodeTick_break_closed (by rw [line]; exact h.sub))

theorem EndsBreak.decoder (h : EndsBreak n high sc' stamp c bs s) (f : TrainContext → Nat) :
    let d := ((s.atTick n ((s.line n).taken high sc')).line n).decoder
    d.limit f = f c ∧ d.sinceBreak stamp = since stamp bs ∧ d.pulses = (s.line n).decoder.pulses := by
  have line := s.atTick_line_same n ((s.line n).taken high sc')
  intro d
  have same : d = (s.line n).decoder := (congrArg Line.decoder line).trans rfl
  rw [same]
  exact ⟨Decoder.limit_of h.ctx f, Decoder.sinceBreak_of h.start stamp, rfl⟩

theorem EndsBreak.hit (h : EndsBreak n high sc' stamp c bs s) (short : since stamp bs < c.breakMin)
    (none : (s.line n).decoder.pulses = 0) (waits : FirstDigitWaits n s) :
    ∃ t, exec (.lineTick n high) s = .next t ∧ (t.line n).decoder = .atRest ∧
        (t.line n).firstDigit = (s.line n).ticked.firstDigit ∧
        (t.line n).hitCount = min 255 ((s.line n).hitCount + 1) := by
  obtain ⟨limit, since, pulses⟩ := h.decoder (·.breakMin)
  have supervised := h.supervises.trans (breakEnds_hit (by rw [limit, since]; exact short) (pulses.trans none))
  rw [raiseHits_atTick, abandonTrain_atTick] at supervised
  obtain ⟨t, next, -, firstDigit, decoder, hits, -⟩ := h.takes.decides supervised waits rfl
  exact ⟨t, next, decoder, firstDigit, hits.trans (saturate_eq_min 255 _)⟩

theorem EndsBreak.hit_counted (h : EndsBreak n high sc' stamp c bs s) (short : since stamp bs < c.breakMin)
    (some : 0 < (s.line n).decoder.pulses)
    (runs : since s.clock ((s.line n).decoder.makeStart.getD 0) < c.tId) (waits : FirstDigitWaits n s) :
    ∃ t, exec (.lineTick n high) s = .next t ∧
      (t.line n).decoder = (s.line n).decoder.hitInMake ∧
      (t.line n).firstDigit = (s.line n).ticked.firstDigit ∧
      (t.line n).hitCount = min 255 ((s.line n).hitCount + 1) := by
  obtain ⟨limit, since, pulses⟩ := h.decoder (·.breakMin)
  have supervised := h.supervises.trans
    (breakEnds_hit_counted (by rw [limit, since]; exact short) (by rw [pulses]; exact some))
  rw [hitInMake_atTick] at supervised
  have rests := makeTest_atTick (s := s) (n := n) (l := ((s.line n).taken high sc').hitInMake) nofun
    fun _ => runs.trans_eq (Decoder.limit_of (d := (s.line n).decoder.hitInMake) h.ctx _).symm
  obtain ⟨t, next, -, firstDigit, decoder, hits, -⟩ := h.takes.decides (supervised.trans rests) waits rfl
  exact ⟨t, next, decoder, firstDigit, hits.trans (saturate_eq_min 255 _)⟩

theorem EndsBreak.candidate (h : EndsBreak n high sc' stamp c bs s) (least : c.breakMin ≤ since stamp bs)
    (most : since stamp bs ≤ c.breakMax) (runs : since s.clock stamp < c.makeMin) (waits : FirstDigitWaits n s) :
    ∃ t, exec (.lineTick n high) s = .next t ∧
      (t.line n).decoder =
        { (s.line n).decoder with sub := .inMake, pulsePending := true, makeStart := some stamp } ∧
      (t.line n).firstDigit = (s.line n).ticked.firstDigit ∧
      (t.line n).hitCount = (s.line n).hitCount := by
  obtain ⟨limit, since, -⟩ := h.decoder (·.breakMin)
  obtain ⟨limit', -, -⟩ := h.decoder (·.breakMax)
  have supervised := h.supervises.trans
    (breakEnds_pulse (by rw [limit, since]; exact least) (by rw [limit', since]; exact most))
  rw [candidatePulse_atTick] at supervised
  have rests := makeTest_atTick (s := s) (n := n) (l := ((s.line n).taken high sc').candidate stamp)
    (fun _ => runs.trans_eq (Decoder.limit_of (d := ((s.line n).candidate stamp).decoder) h.ctx _).symm) nofun
  obtain ⟨t, next, -, firstDigit, decoder, hits, -⟩ := h.takes.decides (supervised.trans rests) waits rfl
  exact ⟨t, next, decoder, firstDigit, hits⟩

/-- A line tick that counts the pending pulse of the line `l`. -/
theorem Takes.counts (takes : Takes n high s sc edge)
    (supervised : superviseTick n edge (s.atTick n ((s.line n).taken high sc)) =
      noting .pulseCounted (countPulse n (s.atTick n l)))
    (ctx : l.decoder.ctx = some c) (start : l.decoder.breakStart = some bs) :
    ∃ t, exec (.pulseCounted n high) s = .next t ∧ (t.line n).decoder = l.decoder.pulseCounted bs ∧
      (t.line n).firstDigit = none ∧ (t.line n).hitCount = l.hitCount ∧
      (t.line n).estimator.map (·.p16) = l.estimator.map fun e => e.p16Counted l.decoder bs c := by
  have line := s.atTick_line_same n l
  obtain ⟨same, p16⟩ := countPulse_line (s := s.atTick n l) (n := n) (c := c) (bs := bs)
    (by rw [line]; exact ctx) (by rw [line]; exact start)
  rw [line] at same p16
  have stopped : firstDigitTest n (countPulse n (s.atTick n l)) = quietly (countPulse n (s.atTick n l)) :=
    firstDigitTest_of_stopped (by rw [same])
  obtain ⟨t, -, row, tested⟩ := takes.tests supervised stopped
  obtain ⟨-, -, firstDigit, train, hits, -⟩ := tested.keeps
  have estimate := tested.p16.trans p16
  dsimp only [noting] at firstDigit train hits
  rw [same] at firstDigit train hits
  exact ⟨t, row .pulseCounted List.mem_cons_self, train, firstDigit, hits, estimate⟩

theorem EndsBreak.counts (h : EndsBreak n high sc' stamp c bs s) (least : c.breakMin ≤ since stamp bs)
    (most : since stamp bs ≤ c.breakMax) (long : c.makeMin ≤ since s.clock stamp) :
    ∃ t, exec (.pulseCounted n high) s = .next t ∧
      (t.line n).decoder =
        { (s.line n).decoder.pulseCounted bs with sub := .inMake, makeStart := some stamp } ∧
      (t.line n).firstDigit = none ∧ (t.line n).hitCount = (s.line n).hitCount ∧
      (t.line n).estimator.map (·.p16) =
        (s.line n).estimator.map fun e => e.p16Counted (s.line n).decoder bs c := by
  obtain ⟨limit, since, -⟩ := h.decoder (·.breakMin)
  obtain ⟨limit', -, -⟩ := h.decoder (·.breakMax)
  have supervised := h.supervises.trans
    (breakEnds_pulse (by rw [limit, since]; exact least) (by rw [limit', since]; exact most))
  rw [candidatePulse_atTick] at supervised
  have line := s.atTick_line_same n (((s.line n).taken high sc').candidate stamp)
  have counts := makeTest_counts (s := s.atTick n (((s.line n).taken high sc').candidate stamp)) (n := n)
    (by rw [line]; rfl) (by
      rw [line]
      exact (Decoder.limit_of (d := ((s.line n).candidate stamp).decoder) h.ctx _).trans_le long)
  obtain ⟨t, next, decoder, firstDigit, hits, p16⟩ := h.takes.counts (supervised.trans counts) h.ctx h.start
  exact ⟨t, next, decoder, firstDigit, hits, p16.trans (Line.taken_p16Counted (s.line n) high sc'
    (((s.line n).candidate stamp).decoder) bs c)⟩

/-! ### The end of a train, whatever it ends as -/

theorem handOver_line (n : LineNo) (e : Entry) (s : State) :
    ((handOver n e s).1.line n).mode = (s.line n).mode ∧
      ((handOver n e s).1.line n).decoder = (s.line n).decoder ∧
      ((handOver n e s).1.line n).hitCount = (s.line n).hitCount ∧
      ((handOver n e s).1.line n).estimator = (s.line n).estimator := by
  by_cases room : (s.line n).queue.entries.length < 24
  · have line := handedOver_line .digit n [] e s
    unfold handedOver at line
    rw [capture_line] at line
    rw [handOver_taken room]
    dsimp only
    generalize (examineHead n (s.modLine n (Line.handed e))).line n = l at *
    rw [line]
    exact ⟨rfl, rfl, rfl, rfl⟩
  · obtain ⟨g, restarted⟩ := (s.line n).restartGather_eq
    rw [handOver_lost (Nat.le_of_not_lt room)]
    dsimp only
    rw [reportOverflow_line_same, State.modLine_line_same, restarted]
    exact ⟨rfl, rfl, rfl, rfl⟩

theorem digitCounted_ended (n : LineNo) (c : TrainContext) (s : State) :
    ∃ f : Estimator → Estimator, ((digitCounted n c s).line n).mode = (s.line n).mode ∧
      ((digitCounted n c s).line n).decoder = .atRest ∧
      ((digitCounted n c s).line n).hitCount = (s.line n).hitCount ∧
      ((digitCounted n c s).line n).estimator = (s.line n).estimator.map f ∧
      ((learnFromTrain n s).line n).estimator = (s.line n).estimator.map f := by
  obtain ⟨f, learned⟩ := learnFromTrain_line n s
  have line := learned n
  rw [State.modEstimator_line_same] at line
  unfold digitCounted
  dsimp only
  rw [State.modLine_line_same]
  refine ⟨f, ?_⟩
  cases offBand (trainStatistics (s.line n).decoder) c with
  | false =>
    rw [if_neg Bool.false_ne_true, line]
    exact ⟨rfl, rfl, rfl, rfl, rfl⟩
  | true =>
    rw [if_pos rfl, reportDialSpeed_line_same, line]
    exact ⟨rfl, rfl, rfl, rfl, rfl⟩

/-- Whatever a train ends as, its decoder comes to rest and the hits of the call stand. -/
theorem endTrain_rests (ctx : (s.line n).decoder.ctx = some c) :
    ((endTrain n s).line n).mode = (s.line n).mode ∧ ((endTrain n s).line n).decoder = .atRest ∧
      ((endTrain n s).line n).hitCount = (s.line n).hitCount := by
  unfold endTrain
  dsimp only
  rw [ctx]
  dsimp only
  split
  · next digit _ =>
    rw [digitEnds_eq, capture_line]
    obtain ⟨mode, decoder, hits, -⟩ := handOver_line n (dialledTone digit) (digitCounted n c s)
    obtain ⟨-, mode', decoder', hits', -⟩ := digitCounted_ended n c s
    exact ⟨mode.trans mode', decoder.trans decoder', hits.trans hits'⟩
  · rw [abandonTrain_eq, State.modLine_line_same, capture_line]
    exact ⟨rfl, rfl, rfl⟩

/-! ### The record through the tests of the timers -/

theorem finishFlight_peek_page (targets : MarkTargetsSound s) (n : LineNo) {i : Nat} (page : 0xA00 ≤ i) :
    (finishFlight n s).peek i = s.peek i := by
  cases flight : (s.line n).queue.flight with
  | none =>
    unfold finishFlight
    dsimp only
    rw [flight]
    rfl
  | some f =>
    have finish := finishFlight_finishes flight
    generalize finishFlight n s = t at *
    cases finish with
    | alone => rfl
    | completes r slot sent =>
      exact completeOrder_peek_other (s := s.setLine n ((s.line n).done f)) targets slot .ok sent
        (.inr (.inr (by omega)))

theorem executionFinished_peek_page (targets : MarkTargetsSound s) (n : LineNo) {i : Nat} (page : 0xA00 ≤ i) :
    (executionFinished n s).peek i = s.peek i := by
  obtain ⟨store, -⟩ := examineHead_keeps n (finishFlight n (s.modQueue n fun q => { q with execution := .none }))
  exact (State.peek_congr store i).trans
    (finishFlight_peek_page (s := s.modQueue n fun q => { q with execution := .none }) targets n page)

theorem guardTest_peek_page (targets : MarkTargetsSound s) (n : LineNo) (t0 : Tick) {i : Nat} (page : 0xA00 ≤ i) :
    (guardTest n t0 s).state.peek i = s.peek i := by
  unfold guardTest
  split
  · exact executionFinished_peek_page targets n page
  · rfl

theorem executionTest_peek_page (targets : MarkTargetsSound s) (n : LineNo) {i : Nat} (page : 0xA00 ≤ i) :
    (executionTest n s).state.peek i = s.peek i := by
  unfold executionTest
  split
  · rfl
  · split
    · rfl
    · split
      · exact guardTest_peek_page (s := endRecallBreak n s) targets n s.clock page
      · rfl
    · exact guardTest_peek_page targets n _ page
    · split
      · exact executionFinished_peek_page targets n page
      · rfl

theorem gatherTest_keeps_store (n : LineNo) (s : State) :
    (gatherTest n s).state.store = s.store ∧ (gatherTest n s).state.board = s.board := by
  unfold gatherTest
  split
  · obtain ⟨store, -, -, board, -⟩ := examineHead_keeps n (s.modQueue n QueueUnit.satisfy)
    exact ⟨store, board⟩
  · exact ⟨rfl, rfl⟩

/-- Beside an expiry, the tests of the timers leave the capture pages alone. -/
theorem timerTests_peek_page (targets : MarkTargetsSound s) (firstDigit : firstDigitTest n s = quietly s)
    (learn : learnTest n s = quietly s) {i : Nat} (page : 0xA00 ≤ i) :
    (timerTests n s).state.peek i = s.peek i := by
  obtain ⟨store, board⟩ := gatherTest_keeps_store n s
  have targets' : MarkTargetsSound (gatherTest n s).state := by
    rw [MarkTargetsSound, board]
    exact targets
  obtain ⟨final, -⟩ := timerTests_of_execution firstDigit rfl
  obtain ⟨-, -, peek⟩ := waitTest_order n (executionTest n (gathered n s)).state
  have quiet : gathered n s = (gatherTest n s).state := by
    unfold gathered
    rw [learn]
    rfl
  rw [final, peek i (by omega) (.inr (by omega)), quiet, executionTest_peek_page targets' n page]
  exact State.peek_congr store i

/-! ### A train that ends at a hit -/

theorem digitEnds_words (noLearn : NoLearn n x) (room : (x.line n).queue.entries.length < 24) (sound : StoreSound x)
    (goes : RecordGoesTo x (if (x.line n).decoder.periods = 0 then 4 else 6) addr) :
    (digitEnds n digit c x).words addr (if (x.line n).decoder.periods = 0 then 4 else 6) =
        recordWords .digit n.val x.clock
          (digitRecord digit c (x.line n).decoder false (((x.line n).estimator.map (·.p16)).getD 0)) := by
  obtain ⟨sameCapture, sound', -⟩ := digitCounted_store (c := c) noLearn
  have clock := (digitCounted_reports (c := c) noLearn).clock
  have length := digitRecord_length digit c (x.line n).decoder false (((x.line n).estimator.map (·.p16)).getD 0)
  have goes' : RecordGoesTo (digitCounted n c x)
      ((digitRecord digit c (x.line n).decoder false (((x.line n).estimator.map (·.p16)).getD 0)).length + 2)
      addr := by
    unfold RecordGoesTo
    rw [sameCapture, length]
    exact goes
  obtain ⟨words, -⟩ := handedOver_records (n := n) (kind := .digit) (e := dialledTone digit) (sound' sound) goes'
  rw [← digitEnds_taken noLearn room, length] at words
  exact words.trans (congrArg (fun time => recordWords .digit n.val time _) clock)

theorem digitEnds_board (noLearn : NoLearn n x) (room : (x.line n).queue.entries.length < 24) :
    (digitEnds n digit c x).board = x.board := by
  rw [digitEnds_taken noLearn room]
  obtain ⟨-, -, -, board, -⟩ :=
    examineHead_keeps n ((digitCounted n c x).modLine n (Line.handed (dialledTone digit)))
  obtain ⟨-, -, -, -, -, -, -, -, -, counted, -⟩ := (digitCounted_reports (c := c) noLearn).keeps
  obtain ⟨-, -, -, -, -, -, -, -, -, captured, -⟩ := (capture_reports .digit n
    (digitRecord digit c (x.line n).decoder false (((x.line n).estimator.map (·.p16)).getD 0))
    (examineHead n ((digitCounted n c x).modLine n (Line.handed (dialledTone digit))))).keeps
  exact captured.trans (board.trans counted)

/-- What a line tick leaves behind a digit handed over, whatever its timers come to. -/
theorem digitEnds_settles (high : Bool) (sc : Scan) (alike : SendsAlike (s.atTick n ((s.line n).taken high sc)) x)
    (store : x.store = s.store) (capture : x.capture = s.capture) (board : x.board = s.board)
    (call : (s.line n).call = some k) (noLearn : NoLearn n x)
    (room : (x.line n).queue.entries.length < 24) :
    let t := settle s (timerTests n (digitEnds n digit c x)).state
    (t.line n).firstDigit = none ∧ (t.line n).digits = saturate 65535 (x.line n).digits ∧
      (TimersWait n k s →
        QueuesAs (examineHead n (s.queueInTick n (·.handed k (dialledTone digit)))) t) ∧
      ∀ addr : Nat, StoreSound s → MarkTargetsSound s →
        RecordGoesTo s (if (x.line n).decoder.periods = 0 then 4 else 6) addr →
        t.words addr (if (x.line n).decoder.periods = 0 then 4 else 6) =
          recordWords .digit n.val s.clock
            (digitRecord digit c (x.line n).decoder false (((x.line n).estimator.map (·.p16)).getD 0)) := by
  have line := digitEnds_line (digit := digit) (c := c) noLearn room
  have queues := digitEnds_queuesAs (digit := digit) (c := c) high sc alike store noLearn room call
  have pending := digitEnds_learnPending (digit := digit) (c := c) noLearn room
  have sameBoard := (digitEnds_board (digit := digit) (c := c) noLearn room).trans board
  have clock := (digitEnds_clock (digit := digit) (c := c) noLearn room).trans alike.raised.clock
  have rests := fun timers : TimersWait n k s => digitEnds_rest (digit := digit) (c := c)
    (t := digitEnds n digit c x) alike.raised timers call noLearn room rfl
  have words := fun addr => digitEnds_words (digit := digit) (c := c) (addr := addr) noLearn room
  rw [alike.raised.clock] at words
  generalize digitEnds n digit c x = v at *
  have stopped : (v.line n).firstDigit = none := by rw [line]
  have quiet := firstDigitTest_of_stopped stopped
  have tested := (timerTests_tested quiet).tickLine s
  obtain ⟨-, -, firstDigit, -, -, digits, -⟩ := tested.keeps
  intro t
  refine ⟨firstDigit.trans stopped, digits.trans (by rw [line]; rfl), fun timers => ?_, fun addr sound targets goes => ?_⟩
  · have rest := rests timers (by rw [line]; exact alike.raised.call.trans call) clock rfl stopped pending
    have final : (timerTests n v).state = v := by rw [rest.tests]; rfl
    show QueuesAs _ (settle s (timerTests n v).state)
    rw [final]
    exact queues.settle s
  · obtain ⟨page, -⟩ := recordAddress_bounds goes
    refine (settle_words_page s _ page).trans (Eq.trans (State.words_congr fun i _ => ?_)
      (words addr (by rw [StoreSound, store]; exact sound) (by unfold RecordGoesTo; rw [capture]; exact goes)))
    exact timerTests_peek_page (by rw [MarkTargetsSound, sameBoard]; exact targets) quiet
      (learnTest_of_none pending) (by omega)

theorem EndsBreak.ends (h : EndsBreak n high sc' stamp c bs s) (call : (s.line n).call = some k)
    (short : since stamp bs < c.breakMin) (some : 0 < (s.line n).decoder.pulses)
    (long : c.tId ≤ since s.clock ((s.line n).decoder.makeStart.getD 0)) :
    ∃ t, exec (.trainEnd n high) s = .next t ∧ (t.line n).decoder = .atRest ∧
      (t.line n).hitCount = min 255 ((s.line n).hitCount + 1) ∧
      ((s.line n).decoder.pulses ≤ 10 → (s.line n).queue.entries.length < 24 → NoLearn n s →
        (t.line n).firstDigit = none ∧ (t.line n).digits = saturate 65535 (s.line n).digits ∧
        (TimersWait n k s →
          QueuesAs (examineHead n (s.queueInTick n
            (·.handed k (dialledTone (digitOf c.map (s.line n).decoder.pulses))))) t) ∧
        ∀ addr : Nat, StoreSound s → MarkTargetsSound s →
          RecordGoesTo s (if (s.line n).decoder.periods = 0 then 4 else 6) addr →
          t.peek (addr + 2) =
            asWord (digitOf c.map (s.line n).decoder.pulses + 16 * (s.line n).decoder.pulses
              + (if offBand (trainStatistics (s.line n).decoder) c = true then 256 else 0) + 512)) := by
  obtain ⟨limit, since, pulses⟩ := h.decoder (·.breakMin)
  have supervised := h.supervises.trans
    (breakEnds_hit_counted (by rw [limit, since]; exact short) (by rw [pulses]; exact some))
  rw [hitInMake_atTick] at supervised
  have line := s.atTick_line_same n ((s.line n).taken high sc').hitInMake
  have ends := makeTest_ends (s := s.atTick n ((s.line n).taken high sc').hitInMake) (n := n) (by rw [line]; rfl) (by
    rw [line]
    exact (Decoder.limit_of (d := (s.line n).decoder.hitInMake) h.ctx _).trans_le long)
  have next := h.takes.row (supervised.trans ends) (.inl (List.mem_singleton_self _))
  dsimp only [noting] at next
  obtain ⟨-, decoder, hits⟩ := endTrain_rests (s := s.atTick n ((s.line n).taken high sc').hitInMake) (n := n)
    (c := c) (by rw [line]; exact h.ctx)
  rw [line] at hits
  obtain ⟨decoder', hits'⟩ := timerTests_atRest ⟨decoder, hits⟩
  refine ⟨_, next, ?_, ?_, fun ten room noLearn => ?_⟩
  · rw [settle_line]
    dsimp only
    exact decoder'
  · rw [settle_line]
    dsimp only
    exact hits'.trans (saturate_eq_min 255 _)
  · rw [endTrain_digit (c := c) (by rw [line]; exact h.ctx) (by rw [line]; exact some) (by rw [line]; exact ten), line]
    have same := taken_noLearn noLearn high sc'
    rw [NoLearn, State.atTick_line_same] at same
    have noLearn' : NoLearn n (s.atTick n ((s.line n).taken high sc').hitInMake) := by
      rw [NoLearn, line]
      exact same
    obtain ⟨firstDigit, digits, queues, record⟩ := digitEnds_settles (k := k) (c := c)
      (digit := digitOf c.map (s.line n).decoder.pulses) high sc'
      (x := s.atTick n ((s.line n).taken high sc').hitInMake) (sendsAlike_atTick ⟨rfl, rfl, rfl, rfl⟩) rfl rfl rfl
      call noLearn' (by rw [line]; exact room)
    rw [line] at digits record
    refine ⟨firstDigit, digits, queues, fun addr sound targets goes => ?_⟩
    have words := record addr sound targets goes
    have hitDecoder : ((s.line n).taken high sc').hitInMake.decoder = (s.line n).decoder.hitInMake := rfl
    rw [hitDecoder, digitRecord_words (d := (s.line n).decoder.hitInMake) n s.clock
      (digitOf_lt (Nat.succ_le_of_lt some) ten) (Nat.lt_of_le_of_lt ten (by decide))] at words
    exact peek_of_words (i := 2) words rfl

/-- Settles O42: each edge is one branch of the decoder's table, with the test of the sub-state it leads to. -/
theorem edgesStartTrainsAndEndBreaks : Obligations.EdgesStartTrainsAndEndBreaks := by
  unfold Obligations.EdgesStartTrainsAndEndBreaks
  refine ⟨opensInQuiet, fun n high sc a k c bs s tick closed onCall sub ctx start => ?_⟩
  obtain ⟨active, call⟩ := onCall
  have ends := tick.endsBreak closed active sub ctx start
  exact ⟨ends.hit, ends.hit_counted, ends.ends call, ends.candidate, ends.counts⟩

end Sys2Proof.Machine
end

section
/-! Flashes, mutilations and clears at a CLOSED edge (R44 to R46, R57). Settles O43. -/

namespace Sys2Proof.Machine

variable {s t u v x y : State} {n m : LineNo} {high : Bool} {sc sc' : Scan} {l l' : Line} {d : Decoder}
  {w : Ticked} {e : Entry} {k : CallContext} {c : TrainContext} {digit b : Nat} {addr j : Nat}
  {edge : Option Edge} {stamp bs ms : Tick} {a : AdoptedSet} {kind : RecordKind} {body : List Word}

/-- A line tick that decides a hand-over with room, on a state `y` that sends as the line tick found the part. -/
theorem Takes.handsOver (takes : Takes n high s sc edge)
    (supervised : superviseTick n edge (s.atTick n ((s.line n).taken high sc)) = w)
    (state : w.state = handedOver kind n body e y)
    (alike : SendsAlike (s.atTick n ((s.line n).taken high sc)) y) (store : y.store = s.store)
    (capture : y.capture = s.capture) (causes : y.causes = s.causes) (call : (s.line n).call = some k)
    (timers : TimersWait n k s) (notPause : ∀ ms, e.kind ≠ .pause ms) (noLearn : NoLearn n y) (sound : StoreSound s)
    (goes : RecordGoesTo s (body.length + 2) addr) :
    ∃ t, exec (.lineTick n high) s = .next t ∧ (∀ e ∈ w.events, exec (e.row n high) s = .next t) ∧
      (t.line n).decoder = (y.line n).decoder ∧ (t.line n).firstDigit = none ∧
      (t.line n).digits = (y.line n).digits ∧
      QueuesAs (examineHead n (s.queueInTick n (·.handed k e))) t ∧
      t.words addr (body.length + 2) = recordWords kind n.val s.clock body ∧ t.causes = s.causes := by
  have raised := alike.raised
  have line := handedOver_line kind n body e y
  have queues := handedOver_queuesAs (kind := kind) (e := e) (body := body) high sc alike
    (fun code => by rw [store]) call
  have rests := handedOver_rest (kind := kind) (e := e) (body := body) (t := handedOver kind n body e y)
    raised timers call notPause rfl
  obtain ⟨words, -, sameCauses⟩ := handedOver_records (n := n) (kind := kind) (e := e) (addr := addr) (y := y)
    (body := body) (by rw [StoreSound, store]; exact sound) (by unfold RecordGoesTo; rw [capture]; exact goes)
  have clock : (handedOver kind n body e y).clock = s.clock := by
    obtain ⟨-, -, -, -, clock⟩ := examineHead_keeps n (y.modLine n (Line.handed e))
    exact (capture_reports kind n body _).clock.trans (clock.trans raised.clock)
  rw [raised.clock] at words
  obtain ⟨page, -⟩ := recordAddress_bounds goes
  generalize handedOver kind n body e y = v at *
  have rest : TimersRest n w.state := by
    rw [state]
    refine rests (by rw [line]; exact raised.call.trans call) clock rfl (by rw [line]) ?_
    rw [NoLearn, Line.learnPending, line]
    exact noLearn
  obtain ⟨next, row⟩ := takes.rests supervised rest
  rw [state] at next row
  refine ⟨_, next, row, ?_, ?_, ?_, queues.settle s, (settle_words_page s v page).trans words, ?_⟩
  · rw [settle_line, line]
  · rw [settle_line, line]
  · rw [settle_line, line]
  · rw [settle_causes, sameCauses, causes]

/-! ### A flash -/

theorem flash_taken (room : (s.line n).queue.entries.length < 24) :
    flash n b s = handedOver .flash n (flashBody b false) dialledRecall (abandonTrain n s) := by
  unfold flash
  rw [handOver_taken (by rw [abandonTrain_eq, State.modLine_line_same]; exact room)]
  rfl

theorem flash_lost (full : 24 ≤ (s.line n).queue.entries.length) :
    flash n b s = handedLost .flash n (flashBody b true) dialledRecall (abandonTrain n s) := by
  unfold flash
  rw [handOver_lost (by rw [abandonTrain_eq, State.modLine_line_same]; exact full)]
  rfl

theorem flashWords (n : LineNo) (time : Tick) (b : Nat) :
    recordWords .flash n.val time (flashBody b false) = [asWord (0x4300 + n.val), time, asWord (b % 2048)] := by
  rw [recordWords_eq]
  simp [recordValue, flashBody]

theorem flashLostWords (n : LineNo) (time : Tick) (b : Nat) :
    recordWords .flash n.val time (flashBody b true) =
      [asWord (0x4300 + n.val), time, asWord (b % 2048 + 32768)] := by
  rw [recordWords_eq]
  simp [recordValue, flashBody]

/-- The break is longer than break_max and shorter than flash_max. -/
structure Longer (c : TrainContext) (b : Nat) : Prop where
  least : c.breakMin ≤ b
  more : c.breakMax < b
  short : b < c.flashMax

theorem EndsBreak.longer (h : EndsBreak n high sc' stamp c bs s) (longer : Longer c (since stamp bs)) :
    superviseTick n (some { level := .closed, stamp := stamp }) (s.atTick n ((s.line n).taken high sc')) =
      quietly (if (s.line n).decoder.pulses = 0 then
          flash n (since stamp bs) (s.atTick n ((s.line n).taken high sc'))
        else longBreak n (s.atTick n ((s.line n).taken high sc'))) := by
  obtain ⟨least, more, short⟩ := longer
  obtain ⟨breakMin, sinceBreak, pulses⟩ := h.decoder (·.breakMin)
  obtain ⟨breakMax, -⟩ := h.decoder (·.breakMax)
  obtain ⟨flashMax, -⟩ := h.decoder (·.flashMax)
  have ends := h.supervises.trans (breakEnds_longer (by rw [breakMin, sinceBreak]; exact least)
    (by rw [breakMax, sinceBreak]; exact more) (by rw [flashMax, sinceBreak]; exact short))
  rw [sinceBreak, pulses] at ends
  exact ends

theorem taken_abandoned_noLearn (noLearn : NoLearn n s) (high : Bool) (sc : Scan) :
    NoLearn n (s.atTick n ((s.line n).taken high sc).abandoned) := by
  have same := taken_noLearn noLearn high sc
  rw [NoLearn, State.atTick_line_same] at same ⊢
  exact Line.abandoned_learnPending same

theorem EndsBreak.flash (h : EndsBreak n high sc' stamp c bs s) (longer : Longer c (since stamp bs))
    (noPulse : (s.line n).decoder.pulses = 0) (room : (s.line n).queue.entries.length < 24)
    (call : (s.line n).call = some k) (noLearn : NoLearn n s) (timers : TimersWait n k s) (sound : StoreSound s)
    (goes : RecordGoesTo s 3 addr) :
    ∃ t, exec (.lineTick n high) s = .next t ∧ (t.line n).decoder = .atRest ∧ (t.line n).firstDigit = none ∧
      QueuesAs (examineHead n (s.queueInTick n (·.handed k dialledRecall))) t ∧
      (t.line n).digits = (s.line n).digits ∧
      t.words addr 3 = [asWord (0x4300 + n.val), s.clock, asWord (since stamp bs % 2048)] ∧ t.causes = s.causes := by
  have supervised := h.longer longer
  have line := s.atTick_line_same n ((s.line n).taken high sc')
  have line' := s.atTick_line_same n ((s.line n).taken high sc').abandoned
  rw [if_pos noPulse, flash_taken (by rw [line]; exact room), abandonTrain_atTick] at supervised
  have notPause (ms : Nat) : dialledRecall.kind ≠ .pause ms := EntryKind.noConfusion
  obtain ⟨t, next, -, decoder, firstDigit, digits, queues, words, causes⟩ := h.takes.handsOver supervised rfl
    (sendsAlike_atTick ⟨rfl, rfl, rfl, rfl⟩) rfl rfl rfl call timers notPause (taken_abandoned_noLearn noLearn high sc')
    sound goes
  rw [line'] at decoder digits
  exact ⟨t, next, decoder, firstDigit, queues, digits, words.trans (flashWords n s.clock _), causes⟩

theorem EndsBreak.flash_lost (h : EndsBreak n high sc' stamp c bs s) (longer : Longer c (since stamp bs))
    (noPulse : (s.line n).decoder.pulses = 0) (full : 24 ≤ (s.line n).queue.entries.length)
    (stopped : (s.line n).firstDigit = none) (call : (s.line n).call = some k) (noLearn : NoLearn n s)
    (timers : TimersWait n k s) (sound : StoreSound s) (goes : RecordGoesTo s 3 addr) :
    ∃ t, exec (.lineTick n high) s = .next t ∧ (t.line n).decoder = .atRest ∧
      QueuesAs (s.queueInTick n (·.restarted k)) t ∧
      t.words addr 3 = [asWord (0x4300 + n.val), s.clock, asWord (since stamp bs % 2048 + 32768)] ∧
      (t.line n).overflowReported = true ∧
      (∀ j : Nat, (s.line n).overflowReported = false → FaultGoesTo s j →
        t.words (faultSlotAddress j) 4 = faultWords .queueOverflow n s.clock 17 ∧ t.causes.fault = true) ∧
      ((s.line n).overflowReported = true →
        t.causes = s.causes ∧ ∀ j < 8, t.words (faultSlotAddress j) 4 = s.words (faultSlotAddress j) 4) := by
  have supervised := h.longer longer
  have line := s.atTick_line_same n ((s.line n).taken high sc')
  have line' := s.atTick_line_same n ((s.line n).taken high sc').abandoned
  rw [if_pos noPulse, Machine.flash_lost (by rw [line]; exact full), abandonTrain_atTick] at supervised
  have stopped' : ((s.line n).taken high sc').firstDigit = none := by
    show (s.line n).firstDigit.map _ = none
    rw [stopped]
    rfl
  obtain ⟨t, next, -, decoder, -, queues, words, flag, fresh, again⟩ := h.takes.lost supervised rfl
    (sendsAlike_atTick ⟨rfl, rfl, rfl, rfl⟩) rfl rfl rfl call timers (by rw [line']; exact stopped')
    (taken_abandoned_noLearn noLearn high sc') sound goes
  rw [line'] at decoder fresh again
  exact ⟨t, next, decoder, queues, words.trans (flashLostWords n s.clock _), flag, fresh, again⟩

theorem EndsBreak.longBreak (h : EndsBreak n high sc' stamp c bs s) (longer : Longer c (since stamp bs))
    (one : 1 ≤ (s.line n).decoder.pulses) (stopped : (s.line n).firstDigit = none) (gather : GatherWaits n s)
    (noLearn : NoLearn n s) (timers : TimersWait n k s) (sound : StoreSound s) (goes : RecordGoesTo s 3 addr) :
    ∃ t, exec (.lineTick n high) s = .next t ∧ (t.line n).decoder = .atRest ∧
      QueuesAs (s.queueInTick n id) t ∧ (t.line n).digits = (s.line n).digits ∧
      t.words addr 3 = [asWord (0x3300 + n.val), s.clock, asWord (256 + (s.line n).decoder.pulses % 256)] ∧
      t.causes = s.causes := by
  have supervised := h.longer longer
  have line := s.atTick_line_same n ((s.line n).taken high sc')
  rw [if_neg (by omega)] at supervised
  unfold Machine.longBreak at supervised
  rw [line] at supervised
  obtain ⟨t, next, -, decoder, queues, digits, words, causes⟩ :=
    h.takes.mutilates supervised rfl timers gather stopped noLearn sound goes
  exact ⟨t, next, decoder, queues, digits, words.trans (longBreakWords n s.clock _), causes⟩

/-! ### A clear at a CLOSED edge -/

theorem clearCall_setInForce (n : LineNo) (s : State) : (clearCall n s).setInForce n = s.setInForce n := by
  obtain ⟨profiles, -⟩ := (callCleared_ownerWork n s).keeps
  obtain ⟨-, -, -, -, -, profiles', -⟩ :=
    (capture_reports .clear n (s.line n).clearRecord (callCleared n s)).keeps
  exact State.setInForce_congr (by rw [clearCall_line]; rfl) (profiles'.trans profiles)

/-- The line cleared by the CLOSED edge that then starts a seizure. -/
def Line.clearedSeizing (stamp : Tick) (a : AdoptedSet) (l : Line) : Line :=
  { l.cleared with mode := .seizing, seizure := some { start := stamp, seizeTime := a.seizeTime } }

theorem clearedSeizing_eq (set : s.setInForce n = some a) :
    startSeizing n stamp (clearCall n s) = (clearCall n s).setLine n ((s.line n).clearedSeizing stamp a) := by
  rw [startSeizing_of_set ((clearCall_setInForce n s).trans set)]
  unfold State.modLine
  rw [clearCall_line]
  rfl

theorem Line.clearedSeizing_taken (noLearn : l.learnPending = none) (high : Bool) (sc : Scan) (stamp : Tick)
    (a : AdoptedSet) :
    (l.taken high sc).clearedSeizing stamp a =
      { l with
        raw := high, scan := some sc, mode := .seizing
        seizure := some { start := stamp, seizeTime := a.seizeTime }, hold := false, call := none
        firstDigit := none, decoder := .atRest
        estimator := l.estimator.map fun e => { e with learnMark := false }, queue := .empty } := by
  have taken : (l.taken high sc).learnPending = none := by
    rw [Line.taken_learnPending, Line.learnTicked_of_none noLearn]
    exact noLearn
  unfold Line.clearedSeizing Line.cleared
  rw [Line.dropped_of_noLearn taken, Line.taken_estimator noLearn]
  rfl

theorem EndsBreak.clears (h : EndsBreak n high sc' stamp c bs s) (least : c.breakMin ≤ since stamp bs)
    (more : c.breakMax < since stamp bs) (long : c.flashMax ≤ since stamp bs) (set : s.setInForce n = some a)
    (sound : StoreSound s) (pool : PoolSound s) (noLearn : NoLearn n s) (goes : RecordGoesTo s 4 addr) :
    ∃ t, exec (.clear n high) s = .next t ∧
      t.line n = { ((s.line n).taken high sc').clearedSeizing stamp a with mute := false } ∧
      Unserved n t ∧
      t.words addr 4 =
        [asWord (0x5400 + n.val), s.clock,
          asWord ((s.line n).queue.entries.length + (s.line n).queue.flight.isSome.toNat
            + (if 0 < (s.line n).decoder.pulses then 256 else 0)), asWord (s.line n).digits] := by
  obtain ⟨breakMin, sinceBreak, -⟩ := h.decoder (·.breakMin)
  obtain ⟨breakMax, -⟩ := h.decoder (·.breakMax)
  obtain ⟨flashMax, -⟩ := h.decoder (·.flashMax)
  have supervised := h.supervises.trans (breakEnds_clears (by rw [breakMin, sinceBreak]; exact least)
    (by rw [breakMax, sinceBreak]; exact more) (by rw [flashMax, sinceBreak]; exact long))
  have line := s.atTick_line_same n ((s.line n).taken high sc')
  rw [clearedSeizing_eq ((taken_setInForce n high sc' s).trans set), line] at supervised
  obtain ⟨words, -⟩ := clearCall_records (n := n) (addr := addr) (s := s.atTick n ((s.line n).taken high sc')) sound
    (by rw [line]; exact (pool.1 n).1) goes
  obtain ⟨bound, request⟩ := clearCall_unserved (pool.atTick_taken n high sc') n
  have noLearn' : (((s.line n).taken high sc').clearedSeizing stamp a).learnPending = none := by
    have same := taken_noLearn noLearn high sc'
    rw [NoLearn, line] at same
    exact Line.dropped_learnPending same .idle
  rw [line] at words
  have inactive : (((s.line n).taken high sc').clearedSeizing stamp a).mode ≠ .active := nofun
  generalize clearCall n (s.atTick n ((s.line n).taken high sc')) = u at *
  generalize ((s.line n).taken high sc').clearedSeizing stamp a = l at *
  have last := u.setLine_line_same n l
  have rest : TimersRest n (u.setLine n l) :=
    .of_dropped (by rw [last]; exact inactive) request (by rw [NoLearn, last]; exact noLearn')
  obtain ⟨-, row⟩ := h.takes.rests supervised rest
  obtain ⟨page, -⟩ := recordAddress_bounds goes
  dsimp only [noting] at row
  refine ⟨_, row .clear (List.mem_singleton_self _), ?_, ⟨?_, ?_⟩, (settle_words_page s _ page).trans words⟩
  · rw [settle_line, last, State.muteOn_of_inactive (by rw [last]; exact inactive)]
  · exact (settle_boundSender s _ n).trans bound
  · unfold State.request
    rw [(settle_keeps s (u.setLine n l)).2.1]
    exact request

/-- Settles O43: the four ends of a longer break, each by the branch of the decoder's table that it is. -/
theorem longerBreaksAreFlashMutilationOrClear : Obligations.LongerBreaksAreFlashMutilationOrClear := by
  unfold Obligations.LongerBreaksAreFlashMutilationOrClear
  refine ⟨?_, ?_⟩
  · intro n high sc a k c bs s addr sound tick closed active call sub ctx start noLearn timers goes d b least more short
    have ends := tick.endsBreak closed active sub ctx start
    have longer : Longer c b := ⟨least, more, short⟩
    exact ⟨fun none room => ends.flash longer none room call noLearn timers sound goes,
      fun none full stopped => ends.flash_lost longer none full stopped call noLearn timers sound goes,
      fun one stopped gather => ends.longBreak longer one stopped gather noLearn timers sound goes⟩
  · intro n high sc a c bs s addr sound pool targets tick closed active sub ctx start least more long noLearn goes
    have ends := tick.endsBreak closed active sub ctx start
    obtain ⟨-, -, set, -⟩ := tick
    obtain ⟨t, next, line, unserved, words⟩ := ends.clears least more long set sound pool noLearn goes
    rw [Line.clearedSeizing_taken noLearn] at line
    exact ⟨t, next, line, unserved, words⟩

end Sys2Proof.Machine
end

section
/-! OPEN edges in MAKE (R41, R48, R50). Settles O44. -/

namespace Sys2Proof.Machine

variable {s t u v x y : State} {n m : LineNo} {high : Bool} {sc sc' : Scan} {l l' : Line} {d : Decoder}
  {w : Ticked} {e : Estimator} {k : CallContext} {c : TrainContext} {digit make : Nat} {addr j : Nat}
  {edge : Option Edge} {stamp bs ms : Tick} {a : AdoptedSet}

/-! ### The lines that an OPEN edge in MAKE leaves -/

/-- The line with its short make absorbed: the break goes on from its original start. -/
def Line.absorbed (l : Line) : Line :=
  { l.hit with
    decoder := { l.decoder with sub := .inBreak, pulsePending := false, makeStart := none, hits := true } }

/-- The line with its next break begun. -/
def Line.broken (stamp : Tick) (l : Line) : Line :=
  { l with
    decoder :=
      { l.decoder with
        sub := .inBreak, breakStart := some stamp, candidateMake := some (l.decoder.sinceMake stamp) } }

theorem absorbMake_atTick (s : State) (n : LineNo) (l : Line) :
    absorbMake n (s.atTick n l) = s.atTick n l.absorbed := by
  unfold absorbMake State.modDecoder
  rw [raiseHits_atTick, State.atTick_modLine]
  rfl

theorem nextBreak_eq (n : LineNo) (stamp : Tick) (s : State) :
    nextBreak n stamp s = s.modLine n (Line.broken stamp) := rfl

theorem breakTest_atTick
    (short : l.decoder.sub = .inBreak → l.decoder.sinceBreak s.clock < l.decoder.limit (·.flashMax)) :
    breakTest n (s.atTick n l) = quietly (s.atTick n l) :=
  breakTest_of_short (by rw [State.atTick_line_same]; exact short)

theorem openInMake_breaks (short : (s.line n).decoder.sinceMake stamp < (s.line n).decoder.limit (·.tId)) :
    openInMake n stamp s = breakTest n (nextBreak n stamp s) := by
  unfold openInMake
  dsimp only
  rw [if_pos short]

theorem openInMake_ends (long : (s.line n).decoder.limit (·.tId) ≤ (s.line n).decoder.sinceMake stamp) :
    openInMake n stamp s =
      (noting .trainEnd (startTrain n stamp (endTrain n s))).andThen (breakTest n) := by
  unfold openInMake
  dsimp only
  rw [if_neg (Nat.not_lt.mpr long)]

/-! ### The line tick of an OPEN edge in MAKE -/

/-- A line tick that finds an OPEN edge in a make. -/
structure OpensMake (n : LineNo) (high : Bool) (sc' : Scan) (stamp : Tick) (c : TrainContext) (ms : Tick)
    (s : State) : Prop where
  takes : Takes n high s sc' (some { level := .opened, stamp := stamp })
  level : sc'.level = .opened
  active : (s.line n).mode = .active
  sub : (s.line n).decoder.sub = .inMake
  ctx : (s.line n).decoder.ctx = some c
  start : (s.line n).decoder.makeStart = some ms

theorem EdgeTick.opensMake (tick : EdgeTick n high sc a s) (opened : corrected sc.polarity high = .opened)
    (active : (s.line n).mode = .active) (sub : (s.line n).decoder.sub = .inMake)
    (ctx : (s.line n).decoder.ctx = some c) (start : (s.line n).decoder.makeStart = some ms) :
    OpensMake n high (sc.turned .opened (edgeStampOf sc s)) (edgeStampOf sc s) c ms s := by
  have takes := tick.takes
  rw [opened] at takes
  exact ⟨takes, rfl, active, sub, ctx, start⟩

theorem OpensMake.supervises (h : OpensMake n high sc' stamp c ms s) :
    superviseTick n (some { level := .opened, stamp := stamp }) (s.atTick n ((s.line n).taken high sc')) =
      if (s.line n).decoder.pulsePending then
        if since stamp ms < c.makeMin then breakTest n (s.atTick n ((s.line n).taken high sc').absorbed)
        else (noting .pulseCounted (countPulse n (s.atTick n ((s.line n).taken high sc')))).andThen
          (openInMake n stamp)
      else openInMake n stamp (s.atTick n ((s.line n).taken high sc')) := by
  have line := s.atTick_line_same n ((s.line n).taken high sc')
  have decodes := (superviseTick_active (s := s.atTick n ((s.line n).taken high sc')) (n := n)
    (by rw [line]; exact h.active) _).trans
      (decodeTick_make_opened (stamp := stamp) (by rw [line]; exact h.sub))
  have decoder : ((s.line n).taken high sc').decoder = (s.line n).decoder := rfl
  rw [line, decoder, Decoder.limit_of h.ctx, Decoder.sinceMake_of h.start, absorbMake_atTick] at decodes
  exact decodes

theorem OpensMake.absorbs (h : OpensMake n high sc' stamp c ms s) (pending : (s.line n).decoder.pulsePending = true)
    (start : (s.line n).decoder.breakStart = some bs) (short : since stamp ms < c.makeMin)
    (runs : since s.clock bs < c.flashMax) (waits : FirstDigitWaits n s) :
    ∃ t, exec (.lineTick n high) s = .next t ∧
      (t.line n).decoder =
        { (s.line n).decoder with sub := .inBreak, pulsePending := false, makeStart := none, hits := true } ∧
      (t.line n).firstDigit = (s.line n).ticked.firstDigit ∧
      (t.line n).hitCount = min 255 ((s.line n).hitCount + 1) := by
  have supervised := h.supervises
  rw [if_pos pending, if_pos short] at supervised
  have rests := breakTest_atTick (s := s) (n := n) (l := ((s.line n).taken high sc').absorbed) fun _ => by
    have limit := Decoder.limit_of (d := ((s.line n).absorbed).decoder) h.ctx (·.flashMax)
    have since := Decoder.sinceBreak_of (d := ((s.line n).absorbed).decoder) start s.clock
    exact since.trans_lt (runs.trans_eq limit.symm)
  obtain ⟨t, next, -, firstDigit, decoder, hits, -⟩ := h.takes.decides (supervised.trans rests) waits rfl
  exact ⟨t, next, decoder, firstDigit, hits.trans (saturate_eq_min 255 _)⟩

/-- On a line with no call the tests of the timers can end its LEARN alone. -/
theorem timerTests_inactive_line (inactive : (s.line n).mode ≠ .active) :
    ∃ E, (timerTests n s).state.line n = { s.line n with estimator := E } := by
  obtain ⟨⟨E, line⟩, -⟩ := learnTest_line n s
  have gather : gatherTest n (learnTest n s).state = quietly (learnTest n s).state :=
    gatherTest_of_inactive (by rw [line]; exact inactive)
  have quiet : gathered n s = (learnTest n s).state := by
    unfold gathered
    rw [gather]
    rfl
  obtain ⟨final, -⟩ := timerTests_of_execution (firstDigitTest_of_inactive inactive)
    (w := quietly (learnTest n s).state)
    (by rw [quiet]; exact executionTest_of_inactive (by rw [line]; exact inactive))
  exact ⟨E, by rw [final, waitTest_line]; exact line⟩

/-- A line tick that clears the call of the line `l`. -/
theorem Takes.clears (takes : Takes n high s sc edge)
    (supervised : superviseTick n edge (s.atTick n ((s.line n).taken high sc)) =
      noting .clear (clearCall n (s.atTick n l))) :
    ∃ t, exec (.clear n high) s = .next t ∧ (t.line n).mode = .idle ∧ (t.line n).call = none ∧
      (t.line n).decoder = .atRest ∧ (t.line n).queue = .empty := by
  have next := takes.row supervised (.inl (List.mem_singleton_self _))
  have line := clearCall_line n (s.atTick n l)
  rw [State.atTick_line_same] at line
  dsimp only [noting] at next
  generalize clearCall n (s.atTick n l) = u at *
  obtain ⟨E, last⟩ := timerTests_inactive_line (s := u) (n := n) (by rw [line]; nofun)
  refine ⟨_, next, ?_⟩
  rw [settle_line, last, line]
  exact ⟨rfl, rfl, rfl, rfl⟩

theorem OpensMake.clears (h : OpensMake n high sc' stamp c ms s) (pending : (s.line n).decoder.pulsePending = true)
    (start : (s.line n).decoder.breakStart = some bs) (short : since stamp ms < c.makeMin)
    (long : c.flashMax ≤ since s.clock bs) :
    ∃ t, exec (.clear n high) s = .next t ∧ (t.line n).mode = .idle ∧ (t.line n).call = none ∧
      (t.line n).decoder = .atRest ∧ (t.line n).queue = .empty := by
  have supervised := h.supervises
  rw [if_pos pending, if_pos short] at supervised
  have line := s.atTick_line_same n ((s.line n).taken high sc').absorbed
  have clears := breakTest_clears (s := s.atTick n ((s.line n).taken high sc').absorbed) (n := n)
    (by rw [line]; rfl) (by rw [line]; exact congrArg some h.level) (by
      have limit := Decoder.limit_of (d := ((s.line n).absorbed).decoder) h.ctx (·.flashMax)
      have since := Decoder.sinceBreak_of (d := ((s.line n).absorbed).decoder) start s.clock
      rw [line]
      exact limit.trans_le (long.trans_eq since.symm))
  exact h.takes.clears (supervised.trans clears)

theorem OpensMake.counts (h : OpensMake n high sc' stamp c ms s) (pending : (s.line n).decoder.pulsePending = true)
    (start : (s.line n).decoder.breakStart = some bs) (least : c.makeMin ≤ since stamp ms)
    (short : since stamp ms < c.tId) (runs : since s.clock stamp < c.flashMax) :
    ∃ t, exec (.pulseCounted n high) s = .next t ∧
      (t.line n).decoder =
        { (s.line n).decoder.pulseCounted bs with
          sub := .inBreak, breakStart := some stamp, candidateMake := some (since stamp ms) } ∧
      (t.line n).firstDigit = none ∧ (t.line n).hitCount = (s.line n).hitCount ∧
      (t.line n).estimator.map (·.p16) =
        (s.line n).estimator.map fun e => e.p16Counted (s.line n).decoder bs c := by
  have supervised := h.supervises
  rw [if_pos pending, if_neg (Nat.not_lt.mpr least)] at supervised
  have line := s.atTick_line_same n ((s.line n).taken high sc')
  obtain ⟨same, p16⟩ := countPulse_line (s := s.atTick n ((s.line n).taken high sc')) (n := n) (c := c) (bs := bs)
    (by rw [line]; exact h.ctx) (by rw [line]; exact start)
  rw [line, Line.taken_p16Counted] at p16
  rw [line] at same
  have clock : (countPulse n (s.atTick n ((s.line n).taken high sc'))).clock = s.clock := by
    obtain ⟨-, -, timeBase, -⟩ := (countPulse_work n (s.atTick n ((s.line n).taken high sc'))).keeps
    exact congrArg TimeBase.clock timeBase
  generalize countPulse n (s.atTick n ((s.line n).taken high sc')) = u at *
  have counted : (u.line n).decoder = (s.line n).decoder.pulseCounted bs := by rw [same]; rfl
  have limit (f : TrainContext → Nat) : (u.line n).decoder.limit f = f c := by
    rw [counted]
    exact Decoder.limit_of h.ctx f
  have sinceMake : (u.line n).decoder.sinceMake stamp = since stamp ms := by
    rw [counted]
    exact Decoder.sinceMake_of h.start stamp
  have broken := u.modLine_line_same n (Line.broken stamp)
  have rests : breakTest n (u.modLine n (Line.broken stamp)) = quietly (u.modLine n (Line.broken stamp)) := by
    refine breakTest_of_short fun _ => ?_
    rw [broken]
    show since u.clock stamp < (u.line n).decoder.limit (·.flashMax)
    rw [clock, limit]
    exact runs
  have opens : openInMake n stamp u = quietly (u.modLine n (Line.broken stamp)) :=
    (openInMake_breaks (by rw [sinceMake, limit]; exact short)).trans rests
  have decides : (noting .pulseCounted u).andThen (openInMake n stamp) =
      noting .pulseCounted (u.modLine n (Line.broken stamp)) := by
    unfold Ticked.andThen
    dsimp only [noting]
    rw [opens]
    rfl
  have stopped : firstDigitTest n (u.modLine n (Line.broken stamp)) = quietly (u.modLine n (Line.broken stamp)) :=
    firstDigitTest_of_stopped (by rw [broken]; unfold Line.broken; dsimp only; rw [same])
  obtain ⟨t, -, row, tested⟩ := h.takes.tests (supervised.trans decides) stopped
  obtain ⟨-, -, firstDigit, train, hits, -⟩ := tested.keeps
  have estimate := tested.p16
  dsimp only [noting] at firstDigit train hits estimate
  rw [broken] at firstDigit train hits estimate
  refine ⟨t, row .pulseCounted (List.mem_singleton_self _), train.trans ?_, firstDigit.trans ?_, hits.trans ?_,
    estimate.trans p16⟩
  · unfold Line.broken
    dsimp only
    rw [sinceMake, counted]
  · unfold Line.broken
    dsimp only
    rw [same]
  · unfold Line.broken
    dsimp only
    rw [same]
    rfl

theorem OpensMake.breaks (h : OpensMake n high sc' stamp c ms s) (counted : (s.line n).decoder.pulsePending = false)
    (short : since stamp ms < c.tId) (runs : since s.clock stamp < c.flashMax) (waits : FirstDigitWaits n s) :
    ∃ t, exec (.lineTick n high) s = .next t ∧
      (t.line n).decoder =
        { (s.line n).decoder with
          sub := .inBreak, breakStart := some stamp, candidateMake := some (since stamp ms) } ∧
      (t.line n).firstDigit = (s.line n).ticked.firstDigit ∧ (t.line n).hitCount = (s.line n).hitCount := by
  have supervised := h.supervises
  rw [if_neg (by rw [counted]; exact Bool.false_ne_true)] at supervised
  have line := s.atTick_line_same n ((s.line n).taken high sc')
  have sinceMake := Decoder.sinceMake_of h.start stamp
  have opens := openInMake_breaks (s := s.atTick n ((s.line n).taken high sc')) (n := n) (stamp := stamp) (by
    rw [line]
    exact sinceMake.trans_lt (short.trans_eq (Decoder.limit_of h.ctx _).symm))
  rw [nextBreak_eq, State.atTick_modLine] at opens
  have rests := breakTest_atTick (s := s) (n := n) (l := ((s.line n).taken high sc').broken stamp)
    fun _ => runs.trans_eq (Decoder.limit_of (d := ((s.line n).broken stamp).decoder) h.ctx (·.flashMax)).symm
  obtain ⟨t, next, -, firstDigit, decoder, hits, -⟩ :=
    h.takes.decides (supervised.trans (opens.trans rests)) waits rfl
  refine ⟨t, next, decoder.trans ?_, firstDigit, hits⟩
  rw [← sinceMake]
  rfl

/-! ### A train ended by the edge that starts the next -/

theorem handOver_firstDigit (n : LineNo) (e : Entry) (s : State) :
    ((handOver n e s).1.line n).firstDigit = none ∨
      ((handOver n e s).1.line n).firstDigit = (s.line n).firstDigit := by
  by_cases room : (s.line n).queue.entries.length < 24
  · refine .inl ?_
    have line := handedOver_line .digit n [] e s
    unfold handedOver at line
    rw [capture_line] at line
    rw [handOver_taken room]
    dsimp only
    generalize (examineHead n (s.modLine n (Line.handed e))).line n = l at *
    rw [line]
  · refine .inr ?_
    obtain ⟨g, restarted⟩ := (s.line n).restartGather_eq
    rw [handOver_lost (Nat.le_of_not_lt room)]
    dsimp only
    rw [reportOverflow_line_same, State.modLine_line_same, restarted]

/-- What the end of a train leaves of a line on which no LEARN pends. -/
theorem endTrain_noLearn (ctx : (s.line n).decoder.ctx = some c) (noLearn : NoLearn n s) :
    ((endTrain n s).line n).estimator = (s.line n).estimator.map Estimator.passOver ∧
      (((endTrain n s).line n).firstDigit = none ∨
        ((endTrain n s).line n).firstDigit = (s.line n).firstDigit) := by
  unfold endTrain
  dsimp only
  rw [ctx]
  dsimp only
  split
  · next digit _ =>
    rw [digitEnds_eq, capture_line]
    have counted := digitCounted_line (c := c) noLearn
    obtain ⟨-, -, -, estimator⟩ := handOver_line n (dialledTone digit) (digitCounted n c s)
    have firstDigit := handOver_firstDigit n (dialledTone digit) (digitCounted n c s)
    rw [counted] at estimator firstDigit
    exact ⟨estimator, firstDigit⟩
  · rw [abandonTrain_eq, State.modLine_line_same, capture_line]
    exact ⟨rfl, .inr rfl⟩

theorem Estimator.trainStart_passOver (noLearn : e.learn = none) (a : AdoptedSet) :
    (e.passOver.trainStart a).p16 = (e.trainStart a).p16 ∧ (e.passOver.trainStart a).learn = none := by
  rw [Estimator.passOver_of_none noLearn, Estimator.trainStart_learn]
  refine ⟨?_, noLearn⟩
  unfold Estimator.trainStart
  rfl

theorem startedTrain_passOver (noLearn : e.learn = none) (a : AdoptedSet) (stamp : Tick) :
    startedTrain a e.passOver stamp = startedTrain a e stamp := by
  unfold startedTrain
  rw [(Estimator.trainStart_passOver noLearn a).1]

/-- The line of the train that the edge starts behind the one it ended. -/
def Line.restarted (a : AdoptedSet) (e : Estimator) (stamp : Tick) (l : Line) : Line :=
  { l with estimator := some (e.passOver.trainStart a), decoder := startedTrain a e stamp }

theorem OpensMake.ends (h : OpensMake n high sc' stamp c ms s) (counted : (s.line n).decoder.pulsePending = false)
    (long : c.tId ≤ since stamp ms) (set : s.setInForce n = some a) (short : since s.clock stamp < a.flashMax)
    (estimator : (s.line n).estimator = some e) (noLearn : NoLearn n s) :
    superviseTick n (some { level := .opened, stamp := stamp }) (s.atTick n ((s.line n).taken high sc')) =
      noting .trainEnd ((endTrain n (s.atTick n ((s.line n).taken high sc'))).modLine n
        (Line.restarted a e stamp)) := by
  have supervised := h.supervises
  rw [if_neg (by rw [counted]; exact Bool.false_ne_true)] at supervised
  have line := s.atTick_line_same n ((s.line n).taken high sc')
  have none : e.learn = none := by
    rw [NoLearn, Line.learnPending, estimator] at noLearn
    exact noLearn
  have opens := openInMake_ends (s := s.atTick n ((s.line n).taken high sc')) (n := n) (stamp := stamp) (by
    rw [line]
    exact (Decoder.limit_of h.ctx _).trans_le (long.trans_eq (Decoder.sinceMake_of h.start stamp).symm))
  obtain ⟨-, -, timeBase, -, profiles, -⟩ := (endTrain_work n (s.atTick n ((s.line n).taken high sc'))).keeps
  have tick := endTrain_tickWork n (s.atTick n ((s.line n).taken high sc'))
  obtain ⟨ended, -⟩ := endTrain_noLearn (s := s.atTick n ((s.line n).taken high sc')) (n := n) (c := c)
    (by rw [line]; exact h.ctx) (taken_noLearn noLearn high sc')
  have inForce := (State.setInForce_congr tick.profile profiles).trans ((taken_setInForce n high sc' s).trans set)
  have estimate := Line.taken_estimator noLearn high sc'
  rw [line, estimate, estimator] at ended
  have clock : (endTrain n (s.atTick n ((s.line n).taken high sc'))).clock = s.clock :=
    congrArg TimeBase.clock timeBase
  refine supervised.trans (opens.trans ?_)
  generalize endTrain n (s.atTick n ((s.line n).taken high sc')) = u at *
  have starts : startTrain n stamp u = u.modLine n (Line.restarted a e stamp) := by
    rw [startTrain_of_set inForce ended, startedTrain_passOver none]
    rfl
  have rests : breakTest n (u.modLine n (Line.restarted a e stamp)) =
      quietly (u.modLine n (Line.restarted a e stamp)) := by
    refine breakTest_of_short fun _ => ?_
    rw [State.modLine_line_same]
    show since u.clock stamp < a.flashMax
    rw [clock]
    exact short
  rw [starts]
  unfold Ticked.andThen
  dsimp only [noting]
  rw [rests]
  rfl

theorem Line.restarted_learnPending (noLearn : e.learn = none) : (l.restarted a e stamp).learnPending = none :=
  (Estimator.trainStart_passOver noLearn a).2

theorem OpensMake.ends_waiting (h : OpensMake n high sc' stamp c ms s)
    (counted : (s.line n).decoder.pulsePending = false) (long : c.tId ≤ since stamp ms)
    (set : s.setInForce n = some a) (short : since s.clock stamp < a.flashMax)
    (estimator : (s.line n).estimator = some e) (noLearn : NoLearn n s) (waits : FirstDigitWaits n s) :
    ∃ t, exec (.trainEnd n high) s = .next t ∧ (t.line n).decoder = startedTrain a e stamp ∧
      (t.line n).mute = true := by
  have supervised := h.ends counted long set short estimator noLearn
  have line := s.atTick_line_same n ((s.line n).taken high sc')
  obtain ⟨-, firstDigit⟩ := endTrain_noLearn (s := s.atTick n ((s.line n).taken high sc')) (n := n) (c := c)
    (by rw [line]; exact h.ctx) (taken_noLearn noLearn high sc')
  obtain ⟨mode, -⟩ := endTrain_rests (s := s.atTick n ((s.line n).taken high sc')) (n := n) (c := c)
    (by rw [line]; exact h.ctx)
  rw [line] at firstDigit mode
  generalize endTrain n (s.atTick n ((s.line n).taken high sc')) = u at *
  have last := u.modLine_line_same n (Line.restarted a e stamp)
  have quiet : firstDigitTest n (u.modLine n (Line.restarted a e stamp)) =
      quietly (u.modLine n (Line.restarted a e stamp)) := by
    obtain stopped | same := firstDigit
    · exact firstDigitTest_of_stopped (by rw [last]; exact stopped)
    · exact firstDigitTest_ticked waits (by rw [last]; exact same)
  obtain ⟨t, -, row, tested⟩ := h.takes.tests supervised quiet
  obtain ⟨mode', -, -, decoder, -⟩ := tested.keeps
  have mute := tested.mute
  dsimp only [noting] at mode' decoder
  rw [last] at mode' decoder
  refine ⟨t, row .trainEnd (List.mem_singleton_self _), decoder, ?_⟩
  rw [mute, State.muteOn_of_active (mode'.trans (mode.trans h.active)), decoder]
  rfl

theorem OpensMake.ends_queued (h : OpensMake n high sc' stamp c ms s)
    (counted : (s.line n).decoder.pulsePending = false) (long : c.tId ≤ since stamp ms)
    (set : s.setInForce n = some a) (short : since s.clock stamp < a.flashMax)
    (estimator : (s.line n).estimator = some e) (noLearn : NoLearn n s) (call : (s.line n).call = some k)
    (one : 1 ≤ (s.line n).decoder.pulses) (ten : (s.line n).decoder.pulses ≤ 10) (timers : TimersWait n k s)
    (room : (s.line n).queue.entries.length < 24) :
    ∃ t, exec (.trainEnd n high) s = .next t ∧ (t.line n).decoder = startedTrain a e stamp ∧
      (t.line n).mute = true ∧ (t.line n).firstDigit = none ∧
      (t.line n).digits = saturate 65535 (s.line n).digits ∧
      QueuesAs (examineHead n (s.queueInTick n
        (·.handed k (dialledTone (digitOf c.map (s.line n).decoder.pulses))))) t := by
  have supervised := h.ends counted long set short estimator noLearn
  have line := s.atTick_line_same n ((s.line n).taken high sc')
  have noLearn' := taken_noLearn noLearn high sc'
  have decoder : ((s.line n).taken high sc').decoder = (s.line n).decoder := rfl
  have none : e.learn = none := by
    rw [NoLearn, Line.learnPending, estimator] at noLearn
    exact noLearn
  rw [endTrain_digit (c := c) (by rw [line]; exact h.ctx) (by rw [line]; exact one) (by rw [line]; exact ten), line,
    decoder] at supervised
  have few : ((s.atTick n ((s.line n).taken high sc')).line n).queue.entries.length < 24 := by
    rw [line]; exact room
  have alike : SendsAlike (s.atTick n ((s.line n).taken high sc')) (s.atTick n ((s.line n).taken high sc')) :=
    sendsAlike_atTick (.refl _)
  have handed := digitEnds_line (digit := digitOf c.map (s.line n).decoder.pulses) (c := c) noLearn' few
  rw [line] at handed
  have queues := digitEnds_queuesAs (digit := digitOf c.map (s.line n).decoder.pulses) (c := c) high sc' alike rfl
    noLearn' few call
  have clock := digitEnds_clock (digit := digitOf c.map (s.line n).decoder.pulses) (c := c) noLearn' few
  have rests := digitEnds_rest (digit := digitOf c.map (s.line n).decoder.pulses) (c := c)
    (t := (digitEnds n (digitOf c.map (s.line n).decoder.pulses) c
      (s.atTick n ((s.line n).taken high sc'))).modLine n (Line.restarted a e stamp))
    alike.raised timers call noLearn' few
  generalize digitEnds n (digitOf c.map (s.line n).decoder.pulses) c (s.atTick n ((s.line n).taken high sc')) = v at *
  have last := v.modLine_line_same n (Line.restarted a e stamp)
  have queue : ((v.modLine n (Line.restarted a e stamp)).line n).queue = (v.line n).queue := by rw [last]; rfl
  have stopped : ((v.modLine n (Line.restarted a e stamp)).line n).firstDigit = .none := by
    rw [last]
    show (v.line n).firstDigit = .none
    rw [handed]
  have rest := rests queue (by rw [last]; show (v.line n).call = _; rw [handed]; exact call) clock rfl stopped
    (by rw [NoLearn, last]; exact Line.restarted_learnPending none)
  obtain ⟨-, row⟩ := h.takes.rests supervised rest
  dsimp only [noting] at row
  have queues' : QueuesAs v (v.modLine n (Line.restarted a e stamp)) := by
    refine ⟨fun m => ?_, rfl, rfl⟩
    rw [State.modLine_line]
    split
    · next here => subst here; exact ⟨rfl, rfl⟩
    · exact ⟨rfl, rfl⟩
  have active : ((v.modLine n (Line.restarted a e stamp)).line n).mode = .active := by
    rw [last]
    show (v.line n).mode = _
    rw [handed]
    exact h.active
  refine ⟨_, row .trainEnd (List.mem_singleton_self _), ?_, ?_, ?_, ?_, (queues.trans queues').settle s⟩
  · rw [settle_line, last]
    rfl
  · rw [settle_line, State.muteOn_of_active active, last]
    rfl
  · rw [settle_line]
    exact stopped
  · rw [settle_line, last]
    show (v.line n).digits = _
    rw [handed]
    rfl

/-- Settles O44: an OPEN edge in MAKE, branch by branch of the decoder's table. -/
theorem openEdgesInMakeAreDecided : Obligations.OpenEdgesInMakeAreDecided := by
  unfold Obligations.OpenEdgesInMakeAreDecided
  intro n high sc a k c ms s tick opened onCall sub ctx start d stamp make
  obtain ⟨active, call⟩ := onCall
  have opens := tick.opensMake opened active sub ctx start
  obtain ⟨-, -, set, -⟩ := tick
  exact ⟨fun bs pending start => opens.absorbs pending start, fun bs pending start => opens.clears pending start,
    fun bs pending start => opens.counts pending start, opens.breaks,
    fun e counted long short estimator noLearn =>
      ⟨opens.ends_waiting counted long set short estimator noLearn,
        fun one ten timers room =>
          opens.ends_queued counted long set short estimator noLearn call one ten timers room⟩⟩

end Sys2Proof.Machine
end

section
/-! What a marked train teaches, and the trains that are passed over (R72, R75, R76). -/

namespace Sys2Proof.Machine

variable {s t u v : State} {n m : LineNo} {high : Bool} {sc sc' : Scan} {l : Line} {d : Decoder}
  {w : Ticked} {e E : Estimator} {x : Learn} {c : TrainContext} {edge : Option Edge} {stamp bs ms : Tick} {b : Nat}
  {ev : TickEvent}

/-! ### The LEARN at a train end -/

theorem learnedP16_eq (ordered : c.pLo16 ≤ c.pHi16) :
    learnedP16 d c = max c.pLo16 (min c.pHi16 (16 * d.periodSum / d.periods)) := by
  unfold learnedP16 clamp
  split
  · omega
  · split <;> omega

/-- A marked train with two or more full periods completes its LEARN with the value it teaches. -/
theorem learnFromTrain_teaches (estimator : (s.line n).estimator = some e) (learn : e.learn = some x)
    (mark : e.learnMark = true) (ctx : (s.line n).decoder.ctx = some c) (two : 2 ≤ (s.line n).decoder.periods) :
    learnFromTrain n s = completeOrder x.slot .ok (learnedP16 (s.line n).decoder c)
      (s.modEstimator n (·.learnValue (learnedP16 (s.line n).decoder c))) := by
  unfold learnFromTrain
  dsimp only
  rw [estimator]
  dsimp only
  rw [mark, learn, ctx]
  exact if_pos two

/-- A train of fewer full periods teaches nothing. -/
theorem learnFromTrain_passes (few : (s.line n).decoder.periods < 2) :
    learnFromTrain n s = s.modEstimator n Estimator.passOver := by
  unfold learnFromTrain
  dsimp only
  split
  · next none =>
    refine (State.modLine_of_same ?_).symm
    rw [none]
    cases line : s.line n
    rw [line] at none
    cases none
    rfl
  · split
    · exact if_neg (Nat.not_le.mpr few)
    · rfl

theorem learnFromTrain_teaches_line (estimator : (s.line n).estimator = some e) (learn : e.learn = some x)
    (mark : e.learnMark = true) (ctx : (s.line n).decoder.ctx = some c) (two : 2 ≤ (s.line n).decoder.periods) :
    ((learnFromTrain n s).line n).estimator = some (.taught (learnedP16 (s.line n).decoder c)) := by
  rw [learnFromTrain_teaches estimator learn mark ctx two, (completeOrder_answers _ _ _ _).line,
    State.modEstimator_line_same]
  dsimp only
  rw [estimator]
  rfl

theorem learnFromTrain_teaches_shows (sound : StoreSound s) (targets : MarkTargetsSound s)
    (estimator : (s.line n).estimator = some e) (learn : e.learn = some x) (mark : e.learnMark = true)
    (ctx : (s.line n).decoder.ctx = some c) (two : 2 ≤ (s.line n).decoder.periods) :
    SlotShows (learnFromTrain n s) x.slot slotDone .ok (learnedP16 (s.line n).decoder c) ∧
      (learnFromTrain n s).slotHeld x.slot = false ∧ (learnFromTrain n s).causes.order = true := by
  rw [learnFromTrain_teaches estimator learn mark ctx two]
  exact ⟨completeOrder_shows (s := s.modEstimator n _) sound targets _ _ _, completeOrder_slotHeld _ _ _ _,
    completeOrder_order _ _ _ _⟩

theorem learnFromTrain_line_other (other : m ≠ n) : (learnFromTrain n s).line m = s.line m := by
  obtain ⟨f, line⟩ := learnFromTrain_line n s
  rw [line]
  exact State.modLine_line_other _ _ _ _ other

/-! ### A marked train that is passed over -/

theorem Estimator.passOver_marked (learn : e.learn = some x) (mark : e.learnMark = true) :
    e.passOver =
      { e with
        learnMark := false
        learn := some { x with passedOver := min 4095 (x.passedOver + 1) } } := by
  simp [Estimator.passOver, mark, learn, saturate_eq_min]

theorem Estimator.passOver_unmarked (mark : e.learnMark = false) : e.passOver = e := by
  cases e
  cases mark
  rfl

/-- The estimator that the line tick has raised, its marked train passed over. -/
theorem Line.taken_passed (estimator : l.estimator = some e) (learn : e.learn = some x) (mark : e.learnMark = true)
    (high : Bool) (sc : Scan) :
    (l.taken high sc).estimator.map Estimator.passOver = some (e.passedOver x) :=
  Line.cleared_learn estimator learn mark high sc

theorem SendOnly.estimator {l l' : Line} (h : SendOnly l l') : l'.estimator = l.estimator := by
  obtain ⟨-, -, -, -, -, -, -, -, -, -, -, -, -, estimator⟩ := h.keeps; exact estimator

/-- A LEARN that runs on leaves the first-digit timer's test first, and the estimator as that test has it. -/
theorem timerTests_estimator (waits : learnDue n s = false)
    (first : ((firstDigitTest n s).state.line n).estimator = some E)
    (runs : ∀ y, E.learn = some y → y.timer.count < y.timer.limit) :
    ((timerTests n s).state.line n).estimator = some E ∧
      ∀ e ∈ (firstDigitTest n s).events, e ∈ (timerTests n s).events := by
  have order : expiryTests n s = (firstDigitTest n s).andThen (learnTest n) := by
    unfold expiryTests
    rw [waits, Bool.and_false, Bool.false_and]
    exact if_neg Bool.false_ne_true
  have learn : learnTest n (firstDigitTest n s).state = quietly (firstDigitTest n s).state :=
    learnTest_of_running fun y hy => runs y (by rw [Line.learnPending, first] at hy; exact hy)
  unfold timerTests
  rw [order]
  simp only [Ticked.andThen, learn, quietly, List.append_nil]
  refine ⟨?_, fun e he => by simp [he]⟩
  rw [waitTest_line]
  exact ((executionTest_sendOnly n _).estimator.trans (gatherTest_sendOnly n _).estimator).trans first

/-! ### The ends of a marked train without a value -/

/-- A LEARN that runs on and whose train is closed stands through the tests of the timers. -/
theorem timerTests_passed (estimator : (s.line n).estimator = some E) (mark : E.learnMark = false)
    (runs : ∀ y, E.learn = some y → y.timer.count < y.timer.limit) :
    ((timerTests n s).state.line n).estimator = some E := by
  have waits : learnDue n s = false :=
    learnDue_of_quiet (learnTest_of_running fun y hy => runs y (by rw [Line.learnPending, estimator] at hy; exact hy))
  have first : ((firstDigitTest n s).state.line n).estimator = some E := by
    obtain same | drops := firstDigitTest_line n s
    · rw [same, estimator]
    · rw [drops]
      show (s.line n).estimator.map Estimator.passOver = _
      rw [estimator]
      exact congrArg some (Estimator.passOver_unmarked mark)
  exact (timerTests_estimator waits first runs).1

theorem passedOver_runs (runs : x.timer.count + 1 < x.timer.limit) {y : Learn}
    (pending : (e.passedOver x).learn = some y) :
    y.timer.count < y.timer.limit := by
  cases pending
  exact runs

/-- Whatever ends a marked train without a value, in a line tick in which its LEARN runs on. -/
theorem Takes.passes (takes : Takes n high s sc edge)
    (supervised : superviseTick n edge (s.atTick n ((s.line n).taken high sc)) = w)
    (estimator : (w.state.line n).estimator = some (e.passedOver x)) (runs : x.timer.count + 1 < x.timer.limit) :
    ∃ t, exec (.lineTick n high) s = .next t ∧ (∀ ev ∈ w.events, exec (ev.row n high) s = .next t) ∧
      (t.line n).estimator = some (e.passedOver x) := by
  have last := timerTests_passed estimator rfl fun _ => passedOver_runs runs
  refine ⟨_, takes.tick supervised, fun ev held => takes.row supervised (.inl held), ?_⟩
  rw [settle_line]
  dsimp only
  exact last

theorem flash_estimator (n : LineNo) (b : Nat) (s : State) :
    ((flash n b s).line n).estimator = (s.line n).estimator.map Estimator.passOver := by
  show ((capture .flash n (flashBody b (handOver n dialledRecall (abandonTrain n s)).2)
    (handOver n dialledRecall (abandonTrain n s)).1).line n).estimator = _
  obtain ⟨-, -, -, kept⟩ := handOver_line n dialledRecall (abandonTrain n s)
  rw [capture_line, kept, abandonTrain_eq, State.modLine_line_same]
  rfl

theorem longBreak_estimator (n : LineNo) (s : State) :
    ((longBreak n s).line n).estimator = (s.line n).estimator.map Estimator.passOver := by
  unfold longBreak
  rw [abandonTrain_eq, State.modLine_line_same, capture_line]
  rfl

/-- A train that ends with more than ten pulses, or with fewer than two full periods, is passed over. -/
theorem endTrain_passes (ctx : (s.line n).decoder.ctx = some c)
    (fails : 10 < (s.line n).decoder.pulses ∨ (s.line n).decoder.periods < 2) :
    ((endTrain n s).line n).estimator = (s.line n).estimator.map Estimator.passOver := by
  by_cases many : 10 < (s.line n).decoder.pulses
  · rw [endTrain_tooMany ctx many, abandonTrain_eq, State.modLine_line_same, capture_line]
    rfl
  · have few := fails.resolve_left many
    unfold endTrain
    dsimp only
    rw [ctx]
    dsimp only
    split
    · next digit _ =>
      obtain ⟨-, -, -, kept⟩ := handOver_line n (dialledTone digit) (digitCounted n c s)
      obtain ⟨f, -, -, -, counted, learned⟩ := digitCounted_ended n c s
      rw [learnFromTrain_passes few, State.modEstimator_line_same] at learned
      rw [digitEnds_eq, capture_line, kept, counted]
      exact learned.symm
    · rw [abandonTrain_eq, State.modLine_line_same, capture_line]
      rfl

/-- The estimator of a line whose LEARN is marked, and the LEARN runs on in this line tick. -/
structure Marked (n : LineNo) (e : Estimator) (x : Learn) (s : State) : Prop where
  estimator : (s.line n).estimator = some e
  learn : e.learn = some x
  mark : e.learnMark = true
  runs : x.timer.count + 1 < x.timer.limit

theorem Marked.passed (h : Marked n e x s) (high : Bool) (sc : Scan) :
    ((s.line n).taken high sc).estimator.map Estimator.passOver = some (e.passedOver x) :=
  Line.taken_passed h.estimator h.learn h.mark high sc

theorem Marked.hit (marked : Marked n e x s) (h : EndsBreak n high sc' stamp c bs s)
    (short : since stamp bs < c.breakMin) (none : (s.line n).decoder.pulses = 0) :
    ∃ t, exec (.lineTick n high) s = .next t ∧ (t.line n).estimator = some (e.passedOver x) := by
  obtain ⟨limit, since, pulses⟩ := h.decoder (·.breakMin)
  have supervised := h.supervises.trans (breakEnds_hit (by rw [limit, since]; exact short) (pulses.trans none))
  rw [raiseHits_atTick, abandonTrain_atTick] at supervised
  obtain ⟨t, next, -, passed⟩ := h.takes.passes supervised (e := e) (x := x)
    (by dsimp only [quietly]; rw [State.atTick_line_same]; exact marked.passed high sc') marked.runs
  exact ⟨t, next, passed⟩

theorem Marked.longer (marked : Marked n e x s) (h : EndsBreak n high sc' stamp c bs s)
    (longer : Longer c (since stamp bs)) :
    ∃ t, exec (.lineTick n high) s = .next t ∧ (t.line n).estimator = some (e.passedOver x) := by
  have taken := marked.passed high sc'
  rw [← s.atTick_line_same n ((s.line n).taken high sc')] at taken
  obtain ⟨t, next, -, passed⟩ := h.takes.passes (h.longer longer) (e := e) (x := x)
    (by
      dsimp only [quietly]
      split
      · rw [flash_estimator]; exact taken
      · rw [longBreak_estimator]; exact taken) marked.runs
  exact ⟨t, next, passed⟩

theorem Marked.trainEnd (marked : Marked n e x s) (tick : SteadyTick n high sc s) (ends : EndsTrain n c s)
    (fails : 10 < (s.line n).decoder.pulses ∨ (s.line n).decoder.periods < 2) :
    ∃ t, exec (.trainEnd n high) s = .next t ∧ (t.line n).estimator = some (e.passedOver x) := by
  have taken := marked.passed high { sc with run := 0, candidate := none }
  have line := s.atTick_line_same n ((s.line n).taken high { sc with run := 0, candidate := none })
  rw [← line] at taken
  have passes := endTrain_passes (s := s.atTick n ((s.line n).taken high { sc with run := 0, candidate := none }))
    (n := n) (c := c) (by rw [line]; exact ends.ctx) (by rw [line]; exact fails)
  obtain ⟨t, -, row, passed⟩ := tick.takes.passes (ends.supervises high _) (e := e) (x := x)
    (passes.trans taken) marked.runs
  exact ⟨t, row .trainEnd (List.mem_singleton_self _), passed⟩

theorem Marked.clear (marked : Marked n e x s) (tick : SteadyTick n high sc s) (opened : sc.level = .opened)
    (active : (s.line n).mode = .active) (sub : (s.line n).decoder.sub = .inBreak)
    (long : (s.line n).decoder.limit (·.flashMax) ≤ (s.line n).decoder.sinceBreak s.clock) :
    ∃ t, exec (.clear n high) s = .next t ∧ (t.line n).estimator = some (e.passedOver x) := by
  have line := clearCall_line n (s.atTick n ((s.line n).taken high { sc with run := 0, candidate := none }))
  rw [State.atTick_line_same] at line
  obtain ⟨t, -, row, passed⟩ := tick.takes.passes (superviseTick_clears (high := high) opened active sub long)
    (e := e) (x := x) (by dsimp only [noting]; rw [line]; exact marked.passed high _) marked.runs
  exact ⟨t, row .clear (List.mem_singleton_self _), passed⟩

theorem Marked.firstDigit {tm : Timer} (marked : Marked n e x s) (tick : SteadyTick n high sc s)
    (active : (s.line n).mode = .active) (waits : DecoderWaits n s) (timer : (s.line n).firstDigit = some tm)
    (expires : tm.limit ≤ tm.count + 1) :
    ∃ t, exec (.firstDigitExpiry n high) s = .next t ∧ (t.line n).estimator = some (e.passedOver x) := by
  have supervised := decodes_nothing high { sc with run := 0, candidate := none } active waits
  have row := tick.takes.row (e := .firstDigitExpiry) supervised
  have line := s.atTick_line_same n ((s.line n).taken high { sc with run := 0, candidate := none })
  have taken := Line.taken_learn marked.estimator marked.learn high { sc with run := 0, candidate := none }
  have passes := marked.passed high { sc with run := 0, candidate := none }
  have active' : ((s.line n).taken high { sc with run := 0, candidate := none }).mode = .active := active
  have timer' : ((s.line n).taken high { sc with run := 0, candidate := none }).firstDigit =
      some { tm with count := tm.count + 1 } := by
    show (s.line n).firstDigit.map Timer.raise = _
    rw [timer]
    rfl
  dsimp only [quietly] at row
  rw [← line] at taken passes active' timer'
  generalize s.atTick n ((s.line n).taken high { sc with run := 0, candidate := none }) = y at *
  have ends := firstDigitTest_ends active' timer' expires
  have learn : learnDue n y = false :=
    learnDue_of_quiet (learnTest_of_running fun z hz => by
      rw [Line.learnPending, taken] at hz
      cases hz
      exact marked.runs)
  have first : ((firstDigitTest n y).state.line n).estimator = some (e.passedOver x) := by
    rw [ends]
    show ((expireFirstDigit n y).line n).estimator = _
    rw [(expireFirstDigit_reports n y).line, dropCall_line]
    exact passes
  obtain ⟨last, events⟩ := timerTests_estimator learn first fun _ => passedOver_runs marked.runs
  rw [ends] at events
  refine ⟨_, row (.inr (events _ (List.mem_singleton_self _))), ?_⟩
  rw [settle_line]
  dsimp only
  exact last

end Sys2Proof.Machine
end

section
/-! What a record leaves alone: the words below the pages, and the record before it (R166 to R171). -/

namespace Sys2Proof.Machine

variable {s t : State} {n : LineNo} {ws : List Word} {a addr i : Nat} {f : Filling} {kind : RecordKind}
  {body : List Word}

/-! ### The words below the capture pages -/

theorem setLoss_peek_low (loss : Nat) (s : State) (low : 0x020 ≤ a) : (setLoss loss s).peek a = s.peek a := by
  unfold setLoss
  split
  · rfl
  · exact State.poke_peek_other _ (by unfold gapPendingAddress; omega)

theorem openPage_peek_low (ws : List Word) (s : State) (high : a < 0xA00) :
    (openPage ws s).peek a = s.peek a := by
  have page := (pageAddress_high s.capture.nextPage).1
  exact openPage_frame ws s a (by simp only [List.mem_singleton, forall_eq]; omega)

theorem recheckLoss_peek_low (s : State) (low : 0x020 ≤ a) (high : a < 0xA00) :
    (recheckLoss s).peek a = s.peek a := by
  unfold recheckLoss
  split
  · rfl
  · split
    · exact (setLoss_peek_low _ _ low).trans (openPage_peek_low _ s high)
    · rfl

theorem recordInNextPage_peek_low (ws : List Word) (s : State) (low : 0x020 ≤ a) (high : a < 0xA00) :
    (recordInNextPage ws s).peek a = s.peek a := by
  unfold recordInNextPage
  split
  · exact openPage_peek_low ws s high
  · exact setLoss_peek_low _ s low

theorem placeRecord_peek_low (ws : List Word) (s : State) (low : 0x020 ≤ a) (high : a < 0xA00) :
    (placeRecord ws s).peek a = s.peek a := by
  have page := (pageAddress_high s.capture.nextPage).1
  unfold placeRecord
  split
  · exact recordInNextPage_peek_low ws s low high
  · split
    · refine State.pokes_peek_other (s := s) fun q hq => ?_
      obtain ⟨⟨word, i⟩, -, rfl⟩ := List.mem_map.mp hq
      dsimp only
      omega
    · exact (recordInNextPage_peek_low ws _ low high).trans (closePage_peek_low s (by omega) high)

theorem captureWords_peek_low (ws : List Word) (s : State) (low : 0x020 ≤ a) (high : a < 0xA00) :
    (captureWords ws s).peek a = s.peek a := by
  have rechecked := recheckLoss_peek_low s low high
  unfold captureWords
  dsimp only
  split
  · exact (placeRecord_peek_low ws _ low high).trans rechecked
  · exact (setLoss_peek_low _ _ low).trans rechecked

/-! ### The order board's cause -/

theorem setLoss_causes (loss : Nat) (s : State) : (setLoss loss s).causes = s.causes := by
  unfold setLoss
  split <;> rfl

theorem placeRecord_order (ws : List Word) (s : State) :
    (placeRecord ws s).causes.order = s.causes.order := by
  unfold placeRecord
  split
  · rw [recordInNextPage_causes]
  · split
    · rfl
    · rw [recordInNextPage_causes, closePage_causes]

theorem captureWords_order (ws : List Word) (s : State) :
    (captureWords ws s).causes.order = s.causes.order := by
  have rechecked : (recheckLoss s).causes = s.causes := by
    unfold recheckLoss
    split
    · rfl
    · split
      · exact setLoss_causes _ _
      · rfl
  unfold captureWords
  dsimp only
  split
  · rw [placeRecord_order, rechecked]
  · unfold loseRecord
    rw [setLoss_causes, rechecked]

/-! ### A record behind another -/

/-- The word stands in the filling page, in a record already written there. -/
def InFilling (a : Nat) (s : State) : Prop :=
  s.capture.loss = 0 ∧ ∃ f i, s.capture.filling = some f ∧ 2 ≤ i ∧ i < f.position ∧ i < 64 ∧
    a = pageAddress s.capture.nextPage + i

theorem InFilling.congr (h : InFilling a s) (same : t.capture = s.capture) : InFilling a t := by
  unfold InFilling
  rw [same]
  exact h

/-- A page closed keeps the records in it. -/
theorem closePage_keeps_record (filling : s.capture.filling = some f) (two : 2 ≤ i) (small : i < 64) :
    (closePage s).peek (pageAddress s.capture.nextPage + i) = s.peek (pageAddress s.capture.nextPage + i) := by
  have page := (pageAddress_high s.capture.nextPage).1
  refine closePage_frame s _ ?_
  unfold closingRegions
  rw [filling]
  simp only [Option.isSome_some, if_true, List.mem_cons, List.not_mem_nil, or_false, forall_eq_or_imp, forall_eq]
  omega

/-- A later record goes behind the one that stands, or into another page. -/
theorem captureWords_keeps_record (h : InFilling a s) (short : ws.length ≤ 62) :
    (captureWords ws s).peek a = s.peek a := by
  obtain ⟨loss, f, i, filling, two, before, small, rfl⟩ := h
  by_cases fits : f.position + ws.length ≤ 64
  · have goes : RecordGoesTo s ws.length (pageAddress s.capture.nextPage + f.position) :=
      ⟨loss, f, filling, fits, rfl⟩
    exact captureWords_frame goes _ (by simp only [List.mem_singleton, forall_eq]; omega)
  · have next : s.capture.nextPage ≠ (closePage s).capture.nextPage := by
      rw [closePage_of_filling filling]
      exact (next_page_ne _).symm
    rw [captureWords_of_no_loss loss, placeRecord_of_full filling (by omega)]
    exact (recordInNextPage_peek_page next small short).trans (closePage_keeps_record filling two small)

/-- A record just written into the filling page stands in it. -/
theorem InFilling.of_capture (goes : RecordGoesTo s (body.length + 2) addr) (least : 2 ≤ i)
    (small : i < body.length + 2) : InFilling (addr + i) (capture kind n body s) := by
  rw [capture_goes kind n body goes]
  obtain ⟨loss, f, filling, fits, rfl⟩ := goes
  refine ⟨loss, { f with position := f.position + (body.length + 2), count := f.count + 1 }, f.position + i, ?_,
    by omega, by dsimp only; omega, by omega, Nat.add_assoc _ _ _⟩
  show s.capture.filling.map _ = _
  rw [show s.capture.filling = some f from filling]
  rfl

end Sys2Proof.Machine
end

section
/-! A line tick that teaches: the LEARN's answer and the DIGIT record stand through the rest of it. Settles O46. -/

namespace Sys2Proof.Machine

variable {s t u v : State} {n m : LineNo} {high : Bool} {sc sc' : Scan} {l l' : Line} {d : Decoder}
  {w : Ticked} {e E : Estimator} {x : Learn} {c : TrainContext} {slot k : SlotNo} {p a addr digit : Nat}

/-! ### A completed order's answer -/

/-- The slot shows that its order is done with this value, and is free; the RELEASE or INJECT of the line, if any, is
another slot's. -/
structure Answered (n : LineNo) (slot : SlotNo) (p : Nat) (s : State) : Prop where
  sound : StoreSound s
  targets : MarkTargetsSound s
  apart : ∀ r ∈ (s.line n).queue.order, r.slot ≠ slot
  shows : SlotShows s slot slotDone .ok p
  free : s.slotHeld slot = false
  raised : s.causes.order = true

theorem order_apart {o o' : Option OrderRecord} (owner : o'.map OrderRecord.slot = o.map OrderRecord.slot)
    (apart : ∀ r ∈ o, r.slot ≠ slot) : ∀ r ∈ o', r.slot ≠ slot := by
  intro r' found
  rw [Option.mem_def.mp found] at owner
  obtain ⟨r, here, same⟩ := Option.map_eq_some_iff.mp owner.symm
  rw [← same]
  exact apart r here

/-- What leaves the order slots, the board and its cause leaves the answer. -/
theorem Answered.congr (h : Answered n slot p s) (sound : StoreSound t) (board : t.board = s.board)
    (raised : t.causes.order = s.causes.order)
    (owner : (t.line n).queue.order.map OrderRecord.slot = (s.line n).queue.order.map OrderRecord.slot)
    (peek : ∀ a, 0x020 ≤ a → a < 0x0A0 → t.peek a = s.peek a) : Answered n slot p t := by
  have words (i : Nat) (small : i < 8) : t.peek (slotAddress slot + i) = s.peek (slotAddress slot + i) := by
    have := slot.isLt
    exact peek _ (by unfold slotAddress; omega) (by unfold slotAddress; omega)
  obtain ⟨-, targets, apart, ⟨state, result⟩, free, raised'⟩ := h
  refine ⟨sound, ?_, order_apart owner apart, ⟨(words 0 (by decide)).trans state,
    (words 7 (by decide)).trans result⟩, ?_, raised.trans raised'⟩
  · rw [MarkTargetsSound, board]
    exact targets
  · rw [State.slotHeld, board]
    exact free

theorem Answered.setLine (h : Answered n slot p s)
    (owner : l.queue.order.map OrderRecord.slot = (s.line n).queue.order.map OrderRecord.slot) :
    Answered n slot p (s.setLine n l) :=
  h.congr h.sound rfl rfl (by rw [State.setLine_line_same]; exact owner) fun _ _ _ => rfl

theorem Answered.modLine {f : Line → Line} (h : Answered n slot p s)
    (owner : (f (s.line n)).queue.order.map OrderRecord.slot = (s.line n).queue.order.map OrderRecord.slot) :
    Answered n slot p (s.modLine n f) :=
  h.setLine owner

theorem Answered.reportFault (h : Answered n slot p s) (kind : FaultKind) (detail : Nat) :
    Answered n slot p (reportFault kind n detail s) := by
  obtain ⟨board, order⟩ := reportFault_order kind n detail s
  exact h.congr (reportFault_sound h.sound kind n detail) board order
    (by rw [(reportFault_reports kind n detail s).line])
    fun a low high => reportFault_peek_other kind n detail s (by omega) (.inl high)

theorem Answered.capture (h : Answered n slot p s) (kind : RecordKind) {body : List Word} (one : 1 ≤ body.length)
    (four : body.length ≤ 4) : Answered n slot p (capture kind n body s) := by
  obtain ⟨-, -, -, -, -, -, -, -, -, board, -⟩ := (capture_reports kind n body s).keeps
  exact h.congr (capture_sound h.sound kind n one four) board (captureWords_order _ s) (by rw [capture_line])
    fun a low high => captureWords_peek_low _ s low (by omega)

theorem Answered.examineHead (h : Answered n slot p s) : Answered n slot p (examineHead n s) := by
  obtain ⟨store, -, causes, board, -⟩ := examineHead_keeps n s
  exact h.congr (by rw [StoreSound, store]; exact h.sound) board (by rw [causes]) (examineHead_unit n s).2
    fun a _ _ => State.peek_congr store a

/-- The completion of another slot's order leaves the answer. -/
theorem Answered.completeOrder (h : Answered n slot p s) (other : slot ≠ k) (code : ResultCode) (detail : Nat) :
    Answered n slot p (completeOrder k code detail s) := by
  have held (o : HeldOrder) (ho : o ∈ (Machine.completeOrder k code detail s).board.accepted) :
      o ∈ s.board.accepted := (completeOrder_accepted k code detail s o ho).1
  refine ⟨completeOrder_sound h.sound k code detail, fun o ho => h.targets o (held o ho), ?_, ?_, ?_,
    completeOrder_order k code detail s⟩
  · rw [completeOrder_line]
    exact h.apart
  · rw [completeOrder_eq]
    exact marksDone_shows_other (finishNow_shows_other h.shows other code detail)
      (fun o ho => not_slotHeld_iff.mp h.free o (mem_releasedMarks ho).1) (releasedMarks_targets h.targets k)
  · exact not_slotHeld_iff.mpr fun o ho => not_slotHeld_iff.mp h.free o (held o ho)

/-! ### The answer through the tests of the timers -/

theorem OrderRecord.finish_slot (r : OrderRecord) :
    (∀ r' ∈ r.finish.1, r'.slot = r.slot) ∧ ∀ done ∈ r.finish.2, done.1 = r.slot := by
  cases r with
  | release slot sent last => cases last <;> simp [OrderRecord.finish, OrderRecord.slot]
  | inject slot sent remaining =>
    unfold OrderRecord.finish
    dsimp only
    split <;> simp [OrderRecord.slot]

theorem Line.done_apart {f : Flight} (apart : ∀ r ∈ l.queue.order, r.slot ≠ slot) :
    ∀ r ∈ (l.done f).queue.order, r.slot ≠ slot := by
  intro r found
  unfold Line.done at found
  dsimp only at found
  split at found
  · obtain ⟨r', order, left⟩ := Option.bind_eq_some_iff.mp (Option.mem_def.mp found)
    rw [orderLeft_eq] at left
    rw [r'.finish_slot.1 r left]
    exact apart r' order
  · exact apart r found

theorem Answered.done {f : Flight} (h : Answered n slot p s) :
    Answered n slot p (s.setLine n ((s.line n).done f)) := by
  obtain ⟨sound, targets, apart, shows, free, raised⟩ := h
  exact ⟨sound, targets, by rw [State.setLine_line_same]; exact Line.done_apart apart, shows, free, raised⟩

theorem Answered.finishFlight (h : Answered n slot p s) : Answered n slot p (finishFlight n s) := by
  cases flight : (s.line n).queue.flight with
  | none =>
    unfold Machine.finishFlight
    dsimp only
    rw [flight]
    exact h.modLine rfl
  | some f =>
    have finish := finishFlight_finishes flight
    generalize Machine.finishFlight n s = t at *
    cases finish with
    | alone => exact h.done
    | completes r k sent owned order ends =>
      refine h.done.completeOrder ?_ .ok sent
      have owner : k = r.slot := r.finish_slot.2 _ ends
      rw [owner]
      exact (h.apart r order).symm

theorem Answered.executionFinished (h : Answered n slot p s) : Answered n slot p (executionFinished n s) :=
  (h.modLine (f := fun l => { l with queue := { l.queue with execution := .none } }) rfl).finishFlight.examineHead

theorem Answered.guardTest (h : Answered n slot p s) (t0 : Tick) : Answered n slot p (guardTest n t0 s).state := by
  unfold Machine.guardTest
  split
  · exact h.executionFinished
  · exact h

theorem Answered.executionTest (h : Answered n slot p s) : Answered n slot p (executionTest n s).state := by
  unfold Machine.executionTest
  split
  · exact h
  · split
    · exact h
    · split
      · exact Answered.guardTest (s := endRecallBreak n s) (h.modLine rfl) _
      · exact h
    · exact h.guardTest _
    · split
      · exact h.executionFinished
      · exact h

theorem Answered.gatherTest (h : Answered n slot p s) : Answered n slot p (gatherTest n s).state := by
  unfold Machine.gatherTest
  split
  · exact (h.modLine (f := fun l => { l with queue := l.queue.satisfy }) rfl).examineHead
  · exact h

theorem Answered.expireFirstDigit (h : Answered n slot p s) : Answered n slot p (expireFirstDigit n s) := by
  have dropped : Answered n slot p (dropCall n .lockout s) :=
    h.congr h.sound rfl rfl (by rw [dropCall_line]; rfl) fun _ _ _ => rfl
  exact (dropped.reportFault .permanentLoop 0).capture .lockout (by decide) (by decide)

theorem Answered.firstDigitTest (h : Answered n slot p s) : Answered n slot p (firstDigitTest n s).state := by
  unfold Machine.firstDigitTest
  split
  · exact h.expireFirstDigit
  · exact h

/-! ### The tests of the timers without a LEARN -/

theorem firstDigitTest_noLearn (noLearn : NoLearn n s) : NoLearn n (firstDigitTest n s).state := by
  obtain same | drops := firstDigitTest_line n s
  · rw [NoLearn, same]
    exact noLearn
  · rw [NoLearn, drops]
    exact Line.dropped_learnPending noLearn .lockout

theorem timerTests_without_learn (noLearn : NoLearn n s) :
    (timerTests n s).state =
      (waitTest n (executionTest n (gatherTest n (firstDigitTest n s).state).state).state).state := by
  have order : expiryTests n s = (firstDigitTest n s).andThen (learnTest n) := by
    unfold expiryTests
    rw [learnDue_of_quiet (learnTest_of_none noLearn), Bool.and_false, Bool.false_and]
    exact if_neg Bool.false_ne_true
  have learn := learnTest_of_none (firstDigitTest_noLearn noLearn)
  unfold timerTests
  rw [order]
  simp only [Ticked.andThen, learn, quietly]

/-- The answer at the end of the line tick. -/
theorem Answered.ticked (h : Answered n slot p s) (noLearn : NoLearn n s) (before : State) :
    let t := settle before (timerTests n s).state
    SlotShows t slot slotDone .ok p ∧ t.slotHeld slot = false ∧ t.causes.order = true := by
  rw [timerTests_without_learn noLearn]
  have tested := h.firstDigitTest.gatherTest.executionTest
  generalize (Machine.executionTest n (Machine.gatherTest n (Machine.firstDigitTest n s).state).state).state = u at *
  obtain ⟨board, order, -⟩ := waitTest_order n u
  refine ⟨(tested.shows.waitTest n).settle before, ?_, ?_⟩
  · rw [settle_slotHeld, State.slotHeld, board]
    exact tested.free
  · rw [settle_causes, order]
    exact tested.raised

theorem expireFirstDigit_keeps_record (record : InFilling a s) (page : 0xA00 ≤ a) :
    (expireFirstDigit n s).peek a = s.peek a := by
  have kept : InFilling a (reportFault .permanentLoop n 0 (dropCall n .lockout s)) :=
    record.congr (reportFault_capture .permanentLoop n 0 _)
  have fault := reportFault_peek_other .permanentLoop n 0 (dropCall n .lockout s) (a := a) (by omega)
    (.inr (by omega))
  exact (captureWords_keeps_record (ws := recordWords .lockout n.val _ (lockoutBody .firstDigit)) kept
    (show 3 ≤ 62 by decide)).trans fault

/-- A word of a record stands through the tests of the timers. -/
theorem timerTests_keeps_record (h : Answered n slot p s) (noLearn : NoLearn n s) (record : InFilling a s)
    (page : 0xA00 ≤ a) (before : State) : (settle before (timerTests n s).state).peek a = s.peek a := by
  have first : (firstDigitTest n s).state.peek a = s.peek a := by
    unfold firstDigitTest
    split
    · exact expireFirstDigit_keeps_record record page
    · rfl
  have gathered := State.peek_congr (gatherTest_keeps_store n (firstDigitTest n s).state).1 a
  have executed := executionTest_peek_page h.firstDigitTest.gatherTest.targets n page
  rw [timerTests_without_learn noLearn]
  generalize (Machine.executionTest n (Machine.gatherTest n (Machine.firstDigitTest n s).state).state).state = u at *
  have last := settle_waitTest_page (n := n) before u (k := 1) page
  exact (peek_of_words (i := 0) last rfl).trans (executed.trans (gathered.trans first))

/-! ### The train end that teaches -/

/-- A marked train with two or more full periods and a digit ends on the line. -/
structure Teaches (n : LineNo) (e : Estimator) (x : Learn) (c : TrainContext) (s : State) : Prop where
  sound : StoreSound s
  targets : MarkTargetsSound s
  apart : ∀ r ∈ (s.line n).queue.order, r.slot ≠ x.slot
  estimator : (s.line n).estimator = some e
  learn : e.learn = some x
  mark : e.learnMark = true
  ctx : (s.line n).decoder.ctx = some c
  two : 2 ≤ (s.line n).decoder.periods
  one : 1 ≤ (s.line n).decoder.pulses
  ten : (s.line n).decoder.pulses ≤ 10

theorem Teaches.learns (h : Teaches n e x c s) :
    Answered n x.slot (learnedP16 (s.line n).decoder c) (learnFromTrain n s) := by
  obtain ⟨shows, free, raised⟩ :=
    learnFromTrain_teaches_shows h.sound h.targets h.estimator h.learn h.mark h.ctx h.two
  refine ⟨?_, ?_, ?_, shows, free, raised⟩
  · rw [learnFromTrain_teaches h.estimator h.learn h.mark h.ctx h.two]
    exact completeOrder_sound (s := s.modEstimator n _) h.sound _ _ _
  · rw [learnFromTrain_teaches h.estimator h.learn h.mark h.ctx h.two]
    exact fun o ho => h.targets o (completeOrder_accepted _ _ _ (s.modEstimator n _) o ho).1
  · obtain ⟨f, line⟩ := learnFromTrain_line n s
    rw [line, State.modEstimator_line_same]
    exact h.apart

theorem Answered.reportDialSpeed (h : Answered n slot p s) (mean : Nat) :
    Answered n slot p (reportDialSpeed n mean s) := by
  unfold Machine.reportDialSpeed
  split
  · exact h
  · exact (h.reportFault .dialSpeed mean).modLine rfl

theorem Teaches.counts (h : Teaches n e x c s) :
    Answered n x.slot (learnedP16 (s.line n).decoder c) (digitCounted n c s) := by
  unfold digitCounted
  dsimp only
  refine Answered.modLine ?_ rfl
  split
  · exact h.learns.reportDialSpeed _
  · exact h.learns

theorem Answered.handOver (h : Answered n slot p s) (e : Entry) : Answered n slot p (handOver n e s).1 := by
  by_cases room : (s.line n).queue.entries.length < 24
  · obtain ⟨-, appended⟩ := (s.line n).handed_line e
    rw [handOver_taken room]
    exact (h.modLine (congrArg _ appended.order)).examineHead
  · obtain ⟨g, restarted⟩ := (s.line n).restartGather_eq
    rw [handOver_lost (Nat.le_of_not_lt room)]
    have counted : Answered n slot p (s.modLine n Line.restartGather) := h.modLine (by rw [restarted])
    show Answered n slot p (reportOverflow n e (s.modLine n Line.restartGather))
    unfold reportOverflow
    split
    · exact counted
    · exact (counted.reportFault .queueOverflow _).modLine rfl

theorem reportDialSpeed_capture (n : LineNo) (mean : Nat) (s : State) :
    (reportDialSpeed n mean s).capture = s.capture := by
  unfold Machine.reportDialSpeed
  split
  · rfl
  · exact reportFault_capture .dialSpeed n mean s

theorem Teaches.counted_capture (h : Teaches n e x c s) : (digitCounted n c s).capture = s.capture := by
  have learned : (learnFromTrain n s).capture = s.capture := by
    rw [learnFromTrain_teaches h.estimator h.learn h.mark h.ctx h.two]
    obtain ⟨-, -, -, -, -, -, -, -, -, capture, -⟩ := (completeOrder_answers x.slot .ok
      (learnedP16 (s.line n).decoder c) (s.modEstimator n (·.learnValue (learnedP16 (s.line n).decoder c)))).keeps
    exact capture
  unfold digitCounted
  dsimp only
  show (if offBand (trainStatistics (s.line n).decoder) c then _ else _ : State).capture = _
  split
  · rw [reportDialSpeed_capture, learned]
  · exact learned

theorem handOver_capture (n : LineNo) (e : Entry) (s : State) : (handOver n e s).1.capture = s.capture := by
  by_cases room : (s.line n).queue.entries.length < 24
  · rw [handOver_taken room]
    exact (examineHead_keeps n _).2.1
  · rw [handOver_lost (Nat.le_of_not_lt room)]
    exact (reportOverflow_store n e _).1

theorem Teaches.taught (h : Teaches n e x c s) :
    ((digitCounted n c s).line n).estimator = some (.taught (learnedP16 (s.line n).decoder c)) := by
  obtain ⟨f, -, -, -, counted, learned⟩ := digitCounted_ended n c s
  rw [counted, ← learned]
  exact learnFromTrain_teaches_line h.estimator h.learn h.mark h.ctx h.two

/-- The digit handed over or lost, its record follows the hand-over. -/
theorem Teaches.ends_eq (h : Teaches n e x c s) :
    ∃ lost, endTrain n s = capture .digit n
      (digitRecord (digitOf c.map (s.line n).decoder.pulses) c (s.line n).decoder lost
        (learnedP16 (s.line n).decoder c))
      (handOver n (dialledTone (digitOf c.map (s.line n).decoder.pulses)) (digitCounted n c s)).1 := by
  refine ⟨(handOver n (dialledTone (digitOf c.map (s.line n).decoder.pulses)) (digitCounted n c s)).2, ?_⟩
  rw [endTrain_digit h.ctx h.one h.ten, digitEnds_eq, h.taught]
  rfl

theorem Teaches.ends_estimator (h : Teaches n e x c s) :
    ((endTrain n s).line n).estimator = some (.taught (learnedP16 (s.line n).decoder c)) := by
  obtain ⟨lost, ends⟩ := h.ends_eq
  obtain ⟨-, -, -, kept⟩ := handOver_line n (dialledTone (digitOf c.map (s.line n).decoder.pulses))
    (digitCounted n c s)
  rw [ends, capture_line, kept, h.taught]

theorem Teaches.record_length (h : Teaches n e x c s) (digit : Nat) (lost : Bool) (p : Nat) :
    (digitRecord digit c (s.line n).decoder lost p).length + 2 = 6 := by
  rw [digitRecord_length, if_neg]
  have := h.two
  omega

theorem Teaches.answers (h : Teaches n e x c s) :
    Answered n x.slot (learnedP16 (s.line n).decoder c) (endTrain n s) := by
  obtain ⟨lost, ends⟩ := h.ends_eq
  have length := h.record_length (digitOf c.map (s.line n).decoder.pulses) lost (learnedP16 (s.line n).decoder c)
  rw [ends]
  exact (h.counts.handOver _).capture .digit (by omega) (by omega)

/-- The DIGIT record carries the value taught. -/
theorem Teaches.records (h : Teaches n e x c s) (goes : RecordGoesTo s 6 addr) :
    InFilling (addr + 3) (endTrain n s) ∧
      (endTrain n s).peek (addr + 3) = asWord (learnedP16 (s.line n).decoder c) := by
  obtain ⟨lost, ends⟩ := h.ends_eq
  have length := h.record_length (digitOf c.map (s.line n).decoder.pulses) lost (learnedP16 (s.line n).decoder c)
  have capture := (handOver_capture n (dialledTone (digitOf c.map (s.line n).decoder.pulses))
    (digitCounted n c s)).trans h.counted_capture
  have sound := (h.counts.handOver (dialledTone (digitOf c.map (s.line n).decoder.pulses))).sound
  have small : (s.line n).decoder.pulses < 16 := Nat.lt_of_le_of_lt h.ten (by decide)
  rw [ends]
  generalize (handOver n (dialledTone (digitOf c.map (s.line n).decoder.pulses)) (digitCounted n c s)).1 = u at *
  have goes' : RecordGoesTo u
      ((digitRecord (digitOf c.map (s.line n).decoder.pulses) c (s.line n).decoder lost
        (learnedP16 (s.line n).decoder c)).length + 2) addr := by
    rw [length, RecordGoesTo, capture]
    exact goes
  have words := capture_words .digit n _ sound goes'
  rw [digitRecord_words n u.clock (digitOf_lt h.one h.ten) small] at words
  exact ⟨.of_capture goes' (by omega) (by omega), peek_of_words words rfl⟩

/-- What the tests of the timers leave of a train end that teaches. -/
theorem Answered.ends (h : Answered n slot p s) (decoder : (s.line n).decoder = .atRest)
    (estimator : (s.line n).estimator = some (.taught p)) (before : State) :
    let t := settle before (timerTests n s).state
    (t.line n).decoder = .atRest ∧ (t.line n).estimator = some (.taught p) ∧ SlotShows t slot slotDone .ok p ∧
      t.slotHeld slot = false ∧ t.causes.order = true ∧
      ∀ a, InFilling a s → 0xA00 ≤ a → t.peek a = s.peek a := by
  have noLearn : NoLearn n s := by
    rw [NoLearn, Line.learnPending, estimator]
    rfl
  obtain ⟨rests, -⟩ := timerTests_atRest (n := n) ⟨decoder, rfl⟩
  have taught := timerTests_passed estimator rfl nofun
  obtain ⟨shows, free, raised⟩ := h.ticked noLearn before
  refine ⟨?_, ?_, shows, free, raised, fun a record page => timerTests_keeps_record h noLearn record page before⟩
  · rw [settle_line]
    dsimp only
    exact rests
  · rw [settle_line]
    dsimp only
    exact taught

/-- What a train end shows that has taught the value. -/
structure TaughtAs (n : LineNo) (slot : SlotNo) (p : Nat) (s t : State) : Prop where
  decoder : (t.line n).decoder = .atRest
  estimator : (t.line n).estimator = some (.taught p)
  shows : SlotShows t slot slotDone .ok p
  free : t.slotHeld slot = false
  raised : t.causes.order = true
  record : ∀ addr : Nat, RecordGoesTo s 6 addr → t.peek (addr + 3) = asWord p

theorem Teaches.taughtAs (h : Teaches n e x c s) (before : State) :
    TaughtAs n x.slot (learnedP16 (s.line n).decoder c) s (settle before (timerTests n (endTrain n s)).state) := by
  obtain ⟨-, decoder, -⟩ := endTrain_rests h.ctx
  obtain ⟨rests, taught, shows, free, raised, kept⟩ := h.answers.ends decoder h.ends_estimator before
  refine ⟨rests, taught, shows, free, raised, fun addr goes => ?_⟩
  obtain ⟨record, word⟩ := h.records goes
  have page := (recordAddress_bounds goes).1
  exact (kept _ record (Nat.le_add_right_of_le page)).trans word

/-- The line tick raises the LEARN's timer and leaves the rest of what the train end needs. -/
theorem Teaches.atTick (h : Teaches n e x c s) (high : Bool) (sc : Scan) :
    ∃ e' x', Teaches n e' x' c (s.atTick n ((s.line n).taken high sc)) ∧ x'.slot = x.slot := by
  obtain ⟨sound, targets, apart, estimator, learn, mark, ctx, two, one, ten⟩ := h
  have line := s.atTick_line_same n ((s.line n).taken high sc)
  refine ⟨{ e with learn := some { x with timer := { x.timer with count := x.timer.count + 1 } } },
    { x with timer := { x.timer with count := x.timer.count + 1 } },
    ⟨sound, targets, ?_, ?_, rfl, mark, ?_, ?_, ?_, ?_⟩, rfl⟩
  · rw [line]
    exact apart
  · rw [line]
    exact Line.taken_learn estimator learn high sc
  · rw [line]
    exact ctx
  · rw [line]
    exact two
  · rw [line]
    exact one
  · rw [line]
    exact ten

theorem qualifyingTrain_teaches (teaches : Teaches n e x c s) (tick : SteadyTick n high sc s) (ends : EndsTrain n c s) :
    ∃ t, exec (.trainEnd n high) s = .next t ∧
      TaughtAs n x.slot (learnedP16 (s.line n).decoder c) s t := by
  have row := tick.takes.row (e := .trainEnd) (ends.supervises high _) (.inl (List.mem_singleton_self _))
  obtain ⟨e', x', teaches', slot⟩ := teaches.atTick high { sc with run := 0, candidate := none }
  have same : ((s.atTick n ((s.line n).taken high { sc with run := 0, candidate := none })).line n).decoder =
      (s.line n).decoder := by
    rw [State.atTick_line_same]
    rfl
  have goes (addr : Nat) (goes : RecordGoesTo s 6 addr) :
      RecordGoesTo (s.atTick n ((s.line n).taken high { sc with run := 0, candidate := none })) 6 addr := goes
  dsimp only [noting] at row
  generalize s.atTick n ((s.line n).taken high { sc with run := 0, candidate := none }) = y at *
  obtain ⟨decoder, estimator, shows, free, raised, record⟩ := teaches'.taughtAs s
  rw [same] at estimator shows record
  rw [slot] at shows free
  exact ⟨_, row, decoder, estimator, shows, free, raised, fun addr goesTo => record addr (goes addr goesTo)⟩

/-- Settles O46: what a marked train teaches, the train end that teaches, and every end that passes a train over. -/
theorem qualifyingTrainIsLearned : Obligations.QualifyingTrainIsLearned := by
  unfold Obligations.QualifyingTrainIsLearned
  refine ⟨?_, ?_, ?_⟩
  · intro n e x c s sound targets estimator learn mark ctx ordered d learned t
    have value : learnedP16 d c = learned := learnedP16_eq ordered
    refine ⟨fun two => ?_, fun few => ?_, fun m other => learnFromTrain_line_other other⟩
    · rw [← value]
      exact ⟨learnFromTrain_teaches_line estimator learn mark ctx two,
        learnFromTrain_teaches_shows sound targets estimator learn mark ctx two⟩
    · show ((learnFromTrain n s).line n).estimator = _
      rw [learnFromTrain_passes few, State.modEstimator_line_same]
      dsimp only
      rw [estimator]
      exact congrArg some (Estimator.passOver_marked learn mark)
  · intro n high sc e x c ms s sound targets tick _ active sub counted ctx start long ordered estimator learn mark
      apart one ten two d learned
    have value : learnedP16 d c = learned := learnedP16_eq ordered
    rw [← value]
    obtain ⟨t, next, taught⟩ := qualifyingTrain_teaches
      ⟨sound, targets, apart, estimator, learn, mark, ctx, two, one, ten⟩ tick
      ⟨active, sub, counted, ctx, ms, start, long⟩
    exact ⟨t, next, taught.decoder, taught.estimator, taught.shows, taught.free, taught.raised, taught.record⟩
  · intro n high sc e x c s estimator learn mark runs active d
    have marked : Marked n e x s := ⟨estimator, learn, mark, runs⟩
    refine ⟨?_, ?_, ?_, ?_⟩
    · intro a bs tick closed sub ctx start b passed
      have ends := tick.endsBreak closed active sub ctx start
      obtain ⟨short, noPulse⟩ | ⟨least, more, short⟩ := passed
      · exact marked.hit ends short noPulse
      · exact marked.longer ends ⟨least, more, short⟩
    · intro ms tick _ sub counted ctx start long fails
      exact marked.trainEnd tick ⟨active, sub, counted, ctx, ms, start, long⟩ fails
    · intro tick opened sub long
      exact marked.clear tick opened active sub long
    · intro tm tick waits timer expires
      exact marked.firstDigit tick active waits timer expires

end Sys2Proof.Machine
end
